-- ==== Sys2Proof/Word.lean ====
section
/-! DEFINITION. The data widths of the DX4160: the byte of a telegram, and the numbers by which the part's
tables are indexed. Quantities the manual adds, saturates and compares (minutes, litres, counts) are plain
whole numbers (00_scope.md, "Arithmetic"), so they are `Nat` or `Int`; only telegram bytes, the flag
positions and the two counters that wrap are bit vectors. -/

namespace Sys2Proof

/-- One character of a station link, one byte of a telegram (R186, R198). -/
abbrev Byte := BitVec 8

/-- A flag set or an enable mask, position 0 the least significant bit (R196, R197). -/
abbrev FlagWord := BitVec 16

/-- A visit number, 0 to 47 (R25). -/
abbrev VisitNo := Fin 48

/-- A slot number, 0 to 1023 (R1). -/
abbrev SlotNo := Fin 1024

/-- A driver entry number, 0 to 255 (R105). -/
abbrev EntryNo := Fin 256

/-- The place of a bay window in the window table: bay number less one (R47). -/
abbrev BayIx := Fin 16

/-- The tag of a visit context; it wraps from 65535 to 0 (R26). -/
abbrev Tag := BitVec 16

/-- The allocation count of a slot; it wraps from 255 to 0 (R1). -/
abbrev AllocCount := BitVec 8

end Sys2Proof
end

