-- ==== Sys2Proof/Config.lean ====
section
/-! DEFINITION. The fixed sizes and default figures of the DX4160. The manual leaves no value to an
implementation and no result undefined, so there is no free value here: every constant cites the rule that
gives it. -/

namespace Sys2Proof.Config

/-- Minute counts, sequence numbers, cards and identities end at 4294967295 (R94, R163, R198). -/
def maxWord : Nat := 4294967295

/-- Net litres, session figures and fill counts saturate at 65535 (R55). -/
def maxHalf : Nat := 65535

/-- The check queue holds at most 8 visits (R128). -/
def queuePlaces : Nat := 8

/-- The reserve at cold start (R23). -/
def defaultReserve : Nat := 64

/-- The release window at cold start, in minutes (R172). -/
def defaultWindow : Nat := 10

/-- The LOG threshold at cold start, in records (R172). -/
def defaultThreshold : Nat := 1

/-- The paper chunk size at cold start (R74). -/
def defaultChunk : Nat := 4

/-- The largest pending slew in either direction, in seconds (R98). -/
def maxSlew : Int := 300

/-- The bytes of one receive buffer (11.2) and the longest telegram (R187). -/
def bufferBytes : Nat := 512

/-- The limit of a whole reply telegram (R192). -/
def replyBytes : Nat := 2048

/-- The lines a paper may hold (R81). -/
def paperLines : Nat := 16

end Sys2Proof.Config
end

