-- ==== Sys2Proof/Syntax.lean ====
section
/-! DEFINITION. The commands of the DX4160: one constructor of `Instr` for each row of
spec/opcode_table.json, in the table's order. The first 38 are the items of a telegram (R194); the rest are
the events on the links, the supplies and TBASE, and the steps of the part's blocks (95_what_each_step_holds.md).

An item command carries the link it is on, its item tag and the fields its rule names (R198, R201). The
part takes it when it is the next item of the telegram executing on that link. -/

namespace Sys2Proof

/-- The four station links, by role (R186). -/
inductive LinkNo where
  | office | loading | gate | audit
  deriving DecidableEq, Repr

/-- The two parties that ask the Class Table (R65, R69). -/
inductive Asker where
  | check | sweep
  deriving DecidableEq, Repr

/-- Where an item stands: its link and its item tag, which the reply echoes (R192). -/
structure Head where
  link : LinkNo
  tag  : Nat
  deriving DecidableEq, Repr

/-- The eight figures of the rule set (R107), and of RULES_LOAD (R108). -/
structure RuleSet where
  lDay    : Nat
  lCont   : Nat
  lWeek   : Nat
  lSpan   : Nat
  b       : Nat
  f       : Nat
  r       : Nat
  reclaim : Nat
  deriving DecidableEq, Repr

/-- The five figures of one driver declared by ARRIVE: D_day, D_cont, D_week, U and C (section 7.3). -/
structure Figures where
  day  : Nat
  cont : Nat
  week : Nat
  u    : Nat
  c    : Nat
  deriving DecidableEq, Repr

/-- A co-driver of an arrival: card and declared figures (R201). -/
structure CoDriver where
  card    : Nat
  figures : Figures
  deriving DecidableEq, Repr

/-- A paper line: compartment number as received, product code, declared litres (R2, section 5.3). -/
structure PaperLine where
  comp     : Nat
  product  : Nat
  declared : Nat
  deriving DecidableEq, Repr

/-- One character on a receive line: its byte, and whether its stop bit was at the wrong level (R187). -/
structure RxChar where
  byte    : Byte
  framing : Bool
  deriving DecidableEq, Repr

/-- The two events that a line reset follows (R208): RST is released, or the main supply returns. -/
inductive ResetCause where
  | rstReleased | mainReturns
  deriving DecidableEq, Repr

/-- The levels of the two strap pins RATE1 and RATE0 (R186). -/
structure Straps where
  rate1 : Bool
  rate0 : Bool
  deriving DecidableEq, Repr

/-- The commands. -/
inductive Instr where
  | setTime (h : Head) (minute seconds : Nat)
  | adjustTime (h : Head) (offset : Int)
  | rulesLoad (h : Head) (rules : RuleSet)
  | bandLoad (h : Head) (band upper group permille litres : Nat) (paperRequired : Bool)
  | segLoad (h : Head) (a b setting : Nat)
  | chunkSize (h : Head) (size : Nat)
  | serviceLoad (h : Head) (entries : List Nat)
  | settings (h : Head) (reserve window threshold : Option Nat)
  | identWrite (h : Head) (identity : Option Nat) (label : Option (List Byte))
  | start (h : Head)
  | lock (h : Head)
  | keep (h : Head)
  | restart (h : Head)
  | paperOpen (h : Head) (visit vtag number p : Nat) (q expected : Option Nat) (replace : Bool)
  | paperLines (h : Head) (visit vtag : Nat) (lines : List PaperLine)
  | visitAbort (h : Head) (visit vtag : Nat)
  | logTake (h : Head) (count : Nat)
  | excTake (h : Head) (count : Nat)
  | bayAssign (h : Head) (visit vtag bay : Nat)
  | bayRelease (h : Head) (bay : Nat)
  | fill (h : Head) (bay comp product figure : Nat)
  | loadEnd (h : Head) (bay : Nat)
  | arrive (h : Head) (tanker driver : Nat) (figures : Figures) (co : Option CoDriver)
      (capacities : List (Option Nat))
  | breakStart (h : Head) (card : Nat)
  | breakEnd (h : Head) (card : Nat)
  | dispatch (h : Head) (visit vtag : Nat)
  | gatePassed (h : Head) (visit vtag code : Nat)
  | sweepStart (h : Head) (opcode scope index : Nat)
  | sweepStop (h : Head)
  | sweepRead (h : Head)
  | logPeek (h : Head) (first count : Nat)
  | excPeek (h : Head) (first count : Nat)
  | storeRead (h : Head) (visit : Option Nat)
  | visitRead (h : Head) (visit : Nat) (compartments : Bool)
  | driverRead (h : Head) (selector value : Nat)
  | noteRead (h : Head)
  | noteClear (h : Head) (clear : FlagWord) (mask : Option FlagWord)
  | identRead (h : Head)
  /-- The first character of a telegram arrives on a link. -/
  | telegramStart (l : LinkNo) (c : RxChar)
  /-- The characters that follow it arrive, up to the one that ends the telegram. -/
  | telegramEnd (l : LinkNo) (cs : List RxChar)
  | gap (l : LinkNo)
  | replySent (l : LinkNo)
  | rstAssert
  /-- RST is released, or the main supply returns; the straps stand at the levels given. -/
  | lineReset (cause : ResetCause) (straps : Straps)
  | coldStart (rate1 rate0 : Bool)
  | mainSupplyLoss
  | backupSupplyLoss
  | tbasePulse
  | minuteEnd
  | minuteEvent
  | serviceTurn
  | allocation
  | slotRead
  | slotWrite
  | wholeListSplice
  | stampedSplice
  | headSplice
  | serviceTableGrant
  | storeCountsGrant
  | checkTake
  | classLookup (a : Asker)
  | pairTest (a : Asker)
  | hoursVerdict
  | sweepEntryRead
  | recheckContextRead
  deriving DecidableEq, Repr

end Sys2Proof
end

