-- ==== Sys2Proof/WellFormed.lean ====
section
/-! DEFINITION. Which item commands can stand in a telegram at all: every field within the range its byte
width can carry (R198), and every list short enough for the one-byte item length (the request item header,
11.6). Ranges that a rule judges after the item is taken (a visit number of 48, a seconds value of 60) are
well formed here: the item's own rule answers them. -/

namespace Sys2Proof

/-- Fits one, two or four bytes (R198). -/
def fits8 (n : Nat) : Bool := n < 256
def fits16 (n : Nat) : Bool := n < 65536
def fits32 (n : Nat) : Bool := n < 4294967296

/-- An optional field fits when its value does (R198). -/
def optFits (p : Nat → Bool) : Option Nat → Bool
  | none   => true
  | some n => p n

def Figures.wf (f : Figures) : Bool :=
  fits16 f.day && fits16 f.cont && fits16 f.week && fits16 f.u && fits16 f.c

def RuleSet.wf (r : RuleSet) : Bool :=
  fits16 r.lDay && fits16 r.lCont && fits16 r.lWeek && fits16 r.lSpan &&
    fits16 r.b && fits16 r.f && fits16 r.r && fits16 r.reclaim

def PaperLine.wf (l : PaperLine) : Bool := fits8 l.comp && fits16 l.product && fits16 l.declared

/-- The co-driver's fields fit (R201). -/
def coWf : Option CoDriver → Bool
  | none   => true
  | some c => fits32 c.card && c.figures.wf

/-- A unit label is 16 bytes (R207). -/
def labelWf : Option (List Byte) → Bool
  | none   => true
  | some l => l.length == 16

/-- The fields of a command fit the form its body takes under R198 and R201. -/
def Instr.wf : Instr → Bool
  | .setTime h minute seconds => fits8 h.tag && fits32 minute && fits8 seconds
  | .adjustTime h offset => fits8 h.tag && decide (-32768 ≤ offset) && decide (offset ≤ 32767)
  | .rulesLoad h rules => fits8 h.tag && rules.wf
  | .bandLoad h band upper group permille litres _ =>
      fits8 h.tag && fits8 band && fits16 upper && fits8 group && fits16 permille && fits16 litres
  | .segLoad h a b setting => fits8 h.tag && fits8 a && fits8 b && fits8 setting
  | .chunkSize h size => fits8 h.tag && fits8 size
  | .serviceLoad h entries => fits8 h.tag && entries.all fits8 && decide (entries.length ≤ 248)
  | .settings h reserve window threshold =>
      fits8 h.tag && optFits fits8 reserve && optFits fits8 window && optFits fits8 threshold
  | .identWrite h identity label => fits8 h.tag && optFits fits32 identity && labelWf label
  | .start h | .lock h | .keep h | .restart h => fits8 h.tag
  | .paperOpen h visit vtag number p q expected _ =>
      fits8 h.tag && fits8 visit && fits16 vtag && fits32 number && fits16 p && optFits fits16 q &&
        optFits fits8 expected
  | .paperLines h visit vtag lines =>
      fits8 h.tag && fits8 visit && fits16 vtag && lines.all PaperLine.wf && decide (lines.length ≤ 49)
  | .visitAbort h visit vtag => fits8 h.tag && fits8 visit && fits16 vtag
  | .logTake h count | .excTake h count => fits8 h.tag && fits8 count
  | .bayAssign h visit vtag bay => fits8 h.tag && fits8 visit && fits16 vtag && fits8 bay
  | .bayRelease h bay | .loadEnd h bay => fits8 h.tag && fits8 bay
  | .fill h bay comp product figure =>
      fits8 h.tag && fits8 bay && fits8 comp && fits16 product && fits16 figure
  | .arrive h tanker driver figures co capacities =>
      fits8 h.tag && fits32 tanker && fits32 driver && figures.wf && coWf co &&
        capacities.all (optFits fits16) && decide (capacities.length ≤ 71)
  | .breakStart h card | .breakEnd h card => fits8 h.tag && fits32 card
  | .dispatch h visit vtag => fits8 h.tag && fits8 visit && fits16 vtag
  | .gatePassed h visit vtag code => fits8 h.tag && fits8 visit && fits16 vtag && fits16 code
  | .sweepStart h opcode scope index => fits8 h.tag && fits8 opcode && fits8 scope && fits8 index
  | .sweepStop h | .sweepRead h => fits8 h.tag
  | .logPeek h first count | .excPeek h first count => fits8 h.tag && fits32 first && fits8 count
  | .storeRead h visit => fits8 h.tag && optFits fits8 visit
  | .visitRead h visit _ => fits8 h.tag && fits8 visit
  | .driverRead h selector value => fits8 h.tag && fits8 selector && fits32 value
  | .noteRead h | .noteClear h _ _ | .identRead h => fits8 h.tag
  | .telegramStart _ _ | .telegramEnd _ _ | .gap _ | .replySent _ => true
  | .rstAssert | .lineReset _ _ | .coldStart _ _ | .mainSupplyLoss | .backupSupplyLoss => true
  | .tbasePulse | .minuteEnd | .minuteEvent => true
  | .serviceTurn | .allocation | .slotRead | .slotWrite | .wholeListSplice | .stampedSplice => true
  | .headSplice | .serviceTableGrant | .storeCountsGrant => true
  | .checkTake | .classLookup _ | .pairTest _ | .hoursVerdict => true
  | .sweepEntryRead | .recheckContextRead => true

end Sys2Proof
end

