-- ==== Sys2Proof/Decode.lean ====
section
/-! DEFINITION. The bytes of the station links (section 11.6): the frame of a telegram and its CRC-16
(R189, R198), the item kinds (R194), the decoder of an item's bytes to its command and the encoder that is
written from the same layouts (R198, R201). It also holds `decodeTableWord`, which spec/opcode_table.json
makes empty: no row of the table gives bits. -/

namespace Sys2Proof

/-! ### Numbers on the wire (R198) -/

/-- The low byte of a number. -/
def byteOf (n : Nat) : Byte := BitVec.ofNat 8 n

/-- Two bytes, most significant first. -/
def nat16 (a b : Byte) : Nat := a.toNat * 256 + b.toNat

/-- Four bytes, most significant first. -/
def nat32 (a b c d : Byte) : Nat := nat16 a b * 65536 + nat16 c d

/-- A number of one, two or four bytes as bytes. -/
def put8 (n : Nat) : List Byte := [byteOf n]
def put16 (n : Nat) : List Byte := [byteOf (n / 256), byteOf n]
def put32 (n : Nat) : List Byte := put16 (n / 65536) ++ put16 n

/-- Two's complement in two bytes and in four bytes (R198). -/
def putInt16 (n : Int) : List Byte := put16 (n % 65536).toNat
def putInt32 (n : Int) : List Byte := put32 (n % 4294967296).toNat

/-- A two-byte two's complement number. -/
def int16 (a b : Byte) : Int :=
  if nat16 a b < 32768 then (nat16 a b : Int) else (nat16 a b : Int) - 65536

/-- A set-or-clear byte, or a presence byte, as sent (R198). -/
def putBit (b : Bool) : List Byte := [if b then 1 else 0]

/-- A set-or-clear byte or presence byte: 0 or 1, and any other value does not match the form (R198). -/
def bit? (b : Byte) : Option Bool :=
  if b = 0 then some false else if b = 1 then some true else none

/-- An optional field: its presence byte, then its value, zero when absent (R198). -/
def putOpt (put : Nat → List Byte) : Option Nat → List Byte
  | none   => 0 :: put 0
  | some n => 1 :: put n

/-- The value of an optional field by its presence byte (R198). -/
def opt? (p : Byte) (n : Nat) : Option (Option Nat) :=
  (bit? p).map fun b => if b then some n else none

/-! ### CRC-16 (section 11.6) -/

/-- One bit of the CRC-16 division by x^16 + x^12 + x^5 + 1. -/
def crcBit (c : BitVec 16) : BitVec 16 :=
  if c.msb then (c <<< 1) ^^^ 0x1021 else c <<< 1

/-- One byte of the CRC-16, most significant bit first. -/
def crcByte (c : BitVec 16) (b : Byte) : BitVec 16 :=
  crcBit (crcBit (crcBit (crcBit (crcBit (crcBit (crcBit (crcBit (c ^^^ (b.setWidth 16 <<< 8)))))))))

/-- The CRC-16 of a run of bytes: initial value all ones, no final inversion, no bit reversal. -/
def crc16 (bs : List Byte) : BitVec 16 := bs.foldl crcByte 0xFFFF

/-! ### Items and telegrams -/

/-- An item of a telegram as its bytes: kind, item tag, the three target bytes, and the body after them
(the request item header, 11.6). -/
structure RawItem where
  kind    : Byte
  tag     : Byte
  target0 : Byte
  target1 : Byte
  target2 : Byte
  body    : List Byte
  deriving DecidableEq, Repr

/-- An accepted telegram: its number and its items (R189). -/
structure Telegram where
  number : Nat
  items  : List RawItem
  deriving DecidableEq, Repr

/-- The kind number of a command (R194); 0 for a command that is no item. -/
def Instr.kind : Instr → Nat
  | .setTime .. => 1 | .adjustTime .. => 2 | .rulesLoad .. => 3 | .bandLoad .. => 4 | .segLoad .. => 5
  | .chunkSize .. => 6 | .serviceLoad .. => 7 | .settings .. => 8 | .identWrite .. => 9 | .start .. => 10
  | .lock .. => 11 | .keep .. => 12 | .restart .. => 13 | .paperOpen .. => 14 | .paperLines .. => 15
  | .visitAbort .. => 16 | .logTake .. => 17 | .excTake .. => 18 | .bayAssign .. => 19
  | .bayRelease .. => 20 | .fill .. => 21 | .loadEnd .. => 22 | .arrive .. => 23 | .breakStart .. => 24
  | .breakEnd .. => 25 | .dispatch .. => 26 | .gatePassed .. => 27 | .sweepStart .. => 28
  | .sweepStop .. => 29 | .sweepRead .. => 30 | .logPeek .. => 31 | .excPeek .. => 32
  | .storeRead .. => 33 | .visitRead .. => 34 | .driverRead .. => 35 | .noteRead .. => 36
  | .noteClear .. => 37 | .identRead .. => 38
  | .telegramStart .. => 0 | .telegramEnd .. => 0 | .gap .. => 0 | .replySent .. => 0
  | .rstAssert => 0 | .lineReset .. => 0 | .coldStart .. => 0 | .mainSupplyLoss => 0
  | .backupSupplyLoss => 0 | .tbasePulse => 0 | .minuteEnd => 0 | .minuteEvent => 0
  | .serviceTurn => 0 | .allocation => 0 | .slotRead => 0 | .slotWrite => 0 | .wholeListSplice => 0
  | .stampedSplice => 0 | .headSplice => 0 | .serviceTableGrant => 0 | .storeCountsGrant => 0
  | .checkTake => 0 | .classLookup .. => 0 | .pairTest .. => 0 | .hoursVerdict => 0
  | .sweepEntryRead => 0 | .recheckContextRead => 0

/-- The five figures of one driver (R201). -/
def putFigures (f : Figures) : List Byte :=
  put16 f.day ++ put16 f.cont ++ put16 f.week ++ put16 f.u ++ put16 f.c

/-- The co-driver of an ARRIVE: a presence byte, then its card and figures, zero when absent (R201). -/
def putCo : Option CoDriver → List Byte
  | none   => putBit false ++ put32 0 ++ putFigures ⟨0, 0, 0, 0, 0⟩
  | some c => putBit true ++ put32 c.card ++ putFigures c.figures

/-- The lines of a PAPER_LINES, each five bytes (section 5.3, R198). -/
def putLines : List PaperLine → List Byte
  | []      => []
  | l :: ls => put8 l.comp ++ put16 l.product ++ put16 l.declared ++ putLines ls

/-- The capacity entries of an ARRIVE, each a presence byte and two bytes (R201). -/
def putCapacities : List (Option Nat) → List Byte
  | []      => []
  | c :: cs => putOpt put16 c ++ putCapacities cs

/-- The unit label of an IDENT_WRITE: a presence byte and 16 bytes (R207). -/
def putLabel : Option (List Byte) → List Byte
  | none   => 0 :: List.replicate 16 0
  | some l => 1 :: l

/-- The target field of a command's item (request item header, 11.6): a visit number and tag, a visit
number, a bay number, or three bytes that are not examined. -/
def Instr.target : Instr → Byte × Byte × Byte
  | .paperOpen _ v t .. | .paperLines _ v t _ | .visitAbort _ v t | .bayAssign _ v t _
  | .dispatch _ v t | .gatePassed _ v t _ => (byteOf v, byteOf (t / 256), byteOf t)
  | .visitRead _ v _ => (byteOf v, 0, 0)
  | .bayRelease _ b | .fill _ b .. | .loadEnd _ b => (byteOf b, 0, 0)
  | _ => (0, 0, 0)

/-- The body of a command's item, its fields in the order in which its rule names them (R198, R201). -/
def Instr.body : Instr → List Byte
  | .setTime _ minute seconds => put32 minute ++ put8 seconds
  | .adjustTime _ offset => putInt16 offset
  | .rulesLoad _ r =>
      put16 r.lDay ++ put16 r.lCont ++ put16 r.lWeek ++ put16 r.lSpan ++ put16 r.b ++ put16 r.f ++
        put16 r.r ++ put16 r.reclaim
  | .bandLoad _ band upper group permille litres pr =>
      put8 band ++ put16 upper ++ put8 group ++ put16 permille ++ put16 litres ++ putBit pr
  | .segLoad _ a b setting => put8 a ++ put8 b ++ put8 setting
  | .chunkSize _ size => put8 size
  | .serviceLoad _ entries => put8 entries.length ++ entries.map byteOf
  | .settings _ reserve window threshold =>
      putOpt put8 reserve ++ putOpt put8 window ++ putOpt put8 threshold
  | .identWrite _ identity label => putOpt put32 identity ++ putLabel label
  | .paperOpen _ _ _ number p q expected replace =>
      put32 number ++ put16 p ++ putOpt put16 q ++ putOpt put8 expected ++ putBit replace
  | .paperLines _ _ _ lines => put8 lines.length ++ putLines lines
  | .logTake _ count | .excTake _ count => put8 count
  | .bayAssign _ _ _ bay => put8 bay
  | .fill _ _ comp product figure => put8 comp ++ put16 product ++ put16 figure
  | .arrive _ tanker driver figures co capacities =>
      put32 tanker ++ put32 driver ++ putFigures figures ++ putCo co ++ put8 capacities.length ++
        putCapacities capacities
  | .breakStart _ card | .breakEnd _ card => put32 card
  | .gatePassed _ _ _ code => put16 code
  | .sweepStart _ opcode scope index => put8 opcode ++ put8 scope ++ put8 index
  | .logPeek _ first count | .excPeek _ first count => put32 first ++ put8 count
  | .storeRead _ visit => putOpt put8 visit
  | .visitRead _ _ compartments => putBit compartments
  | .driverRead _ selector value => put8 selector ++ put32 value
  | .noteClear _ clear mask => put16 clear.toNat ++ putOpt put16 (mask.map BitVec.toNat)
  | _ => []

/-- The link and tag of an item command. -/
def Instr.head? : Instr → Option Head
  | .setTime h .. | .adjustTime h _ | .rulesLoad h _ | .bandLoad h .. | .segLoad h .. | .chunkSize h _
  | .serviceLoad h _ | .settings h .. | .identWrite h .. | .start h | .lock h | .keep h | .restart h
  | .paperOpen h .. | .paperLines h .. | .visitAbort h .. | .logTake h _ | .excTake h _
  | .bayAssign h .. | .bayRelease h _ | .fill h .. | .loadEnd h _ | .arrive h .. | .breakStart h _
  | .breakEnd h _ | .dispatch h .. | .gatePassed h .. | .sweepStart h .. | .sweepStop h | .sweepRead h
  | .logPeek h .. | .excPeek h .. | .storeRead h _ | .visitRead h .. | .driverRead h .. | .noteRead h
  | .noteClear h .. | .identRead h => some h
  | _ => none

/-- ENCODER. The item that spells a command, from the layouts of 11.6. -/
def encodeItem (h : Head) (i : Instr) : RawItem :=
  { kind := byteOf i.kind, tag := byteOf h.tag, target0 := i.target.1, target1 := i.target.2.1,
    target2 := i.target.2.2, body := i.body }

/-- The lines that a body of whole five-byte lines spells. -/
def getLines : Nat → List Byte → Option (List PaperLine)
  | 0, [] => some []
  | n + 1, c :: p1 :: p0 :: d1 :: d0 :: rest =>
      (getLines n rest).map fun ls => ⟨c.toNat, nat16 p1 p0, nat16 d1 d0⟩ :: ls
  | _, _ => none

/-- The capacity entries that a body of whole three-byte entries spells (R201). -/
def getCapacities : Nat → List Byte → Option (List (Option Nat))
  | 0, [] => some []
  | n + 1, p :: c1 :: c0 :: rest =>
      match opt? p (nat16 c1 c0), getCapacities n rest with
      | some c, some cs => some (c :: cs)
      | _, _ => none
  | _, _ => none

/-- The label field of an IDENT_WRITE, 16 bytes after its presence byte (R207). -/
def getLabel (p : Byte) (rest : List Byte) : Option (Option (List Byte)) :=
  if rest.length = 16 then (bit? p).map fun b => if b then some rest else none else none

/-- The fields of an ARRIVE after the tanker number and driver card (R201). -/
def getArrive (h : Head) (tanker driver : Nat) : List Byte → Option Instr
  | a1 :: a0 :: b1 :: b0 :: c1 :: c0 :: d1 :: d0 :: e1 :: e0 :: p :: k3 :: k2 :: k1 :: k0 ::
    f1 :: f0 :: g1 :: g0 :: h1 :: h0 :: i1 :: i0 :: j1 :: j0 :: n :: rest =>
      match bit? p, getCapacities n.toNat rest with
      | some present, some caps =>
          some (.arrive h tanker driver
            ⟨nat16 a1 a0, nat16 b1 b0, nat16 c1 c0, nat16 d1 d0, nat16 e1 e0⟩
            (if present then
              some ⟨nat32 k3 k2 k1 k0,
                ⟨nat16 f1 f0, nat16 g1 g0, nat16 h1 h0, nat16 i1 i0, nat16 j1 j0⟩⟩
             else none)
            caps)
      | _, _ => none
  | _ => none

/-- The OFFICE items that set the part up, by kind (R194, kinds 1 to 13). -/
def decodeSetup (h : Head) (kind : Nat) (body : List Byte) : Option Instr :=
  match kind, body with
  | 1, [m3, m2, m1, m0, s] => some (.setTime h (nat32 m3 m2 m1 m0) s.toNat)
  | 2, [a, b] => some (.adjustTime h (int16 a b))
  | 3, [a1, a0, b1, b0, c1, c0, d1, d0, e1, e0, f1, f0, g1, g0, i1, i0] =>
      some (.rulesLoad h ⟨nat16 a1 a0, nat16 b1 b0, nat16 c1 c0, nat16 d1 d0, nat16 e1 e0, nat16 f1 f0,
        nat16 g1 g0, nat16 i1 i0⟩)
  | 4, [n, u1, u0, g, p1, p0, l1, l0, r] =>
      (bit? r).map fun r => .bandLoad h n.toNat (nat16 u1 u0) g.toNat (nat16 p1 p0) (nat16 l1 l0) r
  | 5, [a, b, m] => some (.segLoad h a.toNat b.toNat m.toNat)
  | 6, [c] => some (.chunkSize h c.toNat)
  | 7, n :: entries =>
      if entries.length = n.toNat then some (.serviceLoad h (entries.map BitVec.toNat)) else none
  | 8, [p, a, q, b, r, c] =>
      match opt? p a.toNat, opt? q b.toNat, opt? r c.toNat with
      | some x, some y, some z => some (.settings h x y z)
      | _, _, _ => none
  | 9, p :: i3 :: i2 :: i1 :: i0 :: q :: rest =>
      match opt? p (nat32 i3 i2 i1 i0), getLabel q rest with
      | some x, some y => some (.identWrite h x y)
      | _, _ => none
  | 10, [] => some (.start h)
  | 11, [] => some (.lock h)
  | 12, [] => some (.keep h)
  | 13, [] => some (.restart h)
  | _, _ => none

/-- The items that address a visit or a bay in their target field (R194, kinds 14 to 16, 19 to 22, 26, 27
and 34); `v` is the first target byte and `t` the tag in the other two. -/
def decodeTarget (h : Head) (v t : Nat) (kind : Nat) (body : List Byte) : Option Instr :=
  match kind, body with
  | 14, [n3, n2, n1, n0, p1, p0, qp, q1, q0, ep, e, r] =>
      match opt? qp (nat16 q1 q0), opt? ep e.toNat, bit? r with
      | some q, some e, some r => some (.paperOpen h v t (nat32 n3 n2 n1 n0) (nat16 p1 p0) q e r)
      | _, _, _ => none
  | 15, n :: rest => (getLines n.toNat rest).map fun ls => .paperLines h v t ls
  | 16, [] => some (.visitAbort h v t)
  | 19, [b] => some (.bayAssign h v t b.toNat)
  | 20, [] => some (.bayRelease h v)
  | 21, [c, p1, p0, f1, f0] => some (.fill h v c.toNat (nat16 p1 p0) (nat16 f1 f0))
  | 22, [] => some (.loadEnd h v)
  | 26, [] => some (.dispatch h v t)
  | 27, [c1, c0] => some (.gatePassed h v t (nat16 c1 c0))
  | 34, [c] => (bit? c).map fun c => .visitRead h v c
  | _, _ => none

/-- The remaining items, by kind (R194). -/
def decodeOther (h : Head) (kind : Nat) (body : List Byte) : Option Instr :=
  match kind, body with
  | 17, [c] => some (.logTake h c.toNat)
  | 18, [c] => some (.excTake h c.toNat)
  | 23, t3 :: t2 :: t1 :: t0 :: d3 :: d2 :: d1 :: d0 :: rest =>
      getArrive h (nat32 t3 t2 t1 t0) (nat32 d3 d2 d1 d0) rest
  | 24, [c3, c2, c1, c0] => some (.breakStart h (nat32 c3 c2 c1 c0))
  | 25, [c3, c2, c1, c0] => some (.breakEnd h (nat32 c3 c2 c1 c0))
  | 28, [o, s, i] => some (.sweepStart h o.toNat s.toNat i.toNat)
  | 29, [] => some (.sweepStop h)
  | 30, [] => some (.sweepRead h)
  | 31, [s3, s2, s1, s0, c] => some (.logPeek h (nat32 s3 s2 s1 s0) c.toNat)
  | 32, [s3, s2, s1, s0, c] => some (.excPeek h (nat32 s3 s2 s1 s0) c.toNat)
  | 33, [p, v] => (opt? p v.toNat).map fun v => .storeRead h v
  | 35, [s, v3, v2, v1, v0] => some (.driverRead h s.toNat (nat32 v3 v2 v1 v0))
  | 36, [] => some (.noteRead h)
  | 37, [c1, c0, p, m1, m0] =>
      (opt? p (nat16 m1 m0)).map fun m =>
        .noteClear h (BitVec.ofNat 16 (nat16 c1 c0)) (m.map (BitVec.ofNat 16))
  | 38, [] => some (.identRead h)
  | _, _ => none

/-- Whether a kind number is decoded by its target field. -/
def targetKind (k : Nat) : Bool :=
  k == 14 || k == 15 || k == 16 || k == 19 || k == 20 || k == 21 || k == 22 || k == 26 || k == 27 || k == 34

/-- DECODER. The command that an item on a link spells; `none` where the kind is not a kind of the part, or
the length or a set-or-clear or presence byte does not match the form of its body (R191, order 2). -/
def decodeItem (l : LinkNo) (i : RawItem) : Option Instr :=
  let h : Head := ⟨l, i.tag.toNat⟩
  if i.kind.toNat ≤ 13 then decodeSetup h i.kind.toNat i.body
  else if targetKind i.kind.toNat then
    decodeTarget h i.target0.toNat (nat16 i.target1 i.target2) i.kind.toNat i.body
  else decodeOther h i.kind.toNat i.body

/-! ### The frame (R189) -/

/-- The bytes of one request item: its header and body (11.6). -/
def putItem (i : RawItem) : List Byte :=
  [i.kind, i.tag, byteOf (6 + i.body.length), i.target0, i.target1, i.target2] ++ i.body

/-- Splits the bytes between the item count and the CRC into `n` items by their length fields; `none` where
an item length is less than 6 or the lengths do not add up (R189). -/
def getItems : Nat → List Byte → Option (List RawItem)
  | 0, [] => some []
  | n + 1, k :: t :: len :: x :: y :: z :: rest =>
      if len.toNat < 6 ∨ rest.length < len.toNat - 6 then none
      else
        (getItems n (rest.drop (len.toNat - 6))).map fun is =>
          ⟨k, t, x, y, z, rest.take (len.toNat - 6)⟩ :: is
  | _, _ => none

/-- The telegram that a run of bytes spells, or `none` where one of the checks of R189 on its bytes fails
(the framing error is the receiver's own). -/
def parseTelegram (bs : List Byte) : Option Telegram :=
  match bs with
  | l1 :: l0 :: n1 :: n0 :: count :: rest =>
      if nat16 l1 l0 < 8 ∨ 512 < nat16 l1 l0 ∨ nat16 l1 l0 ≠ bs.length then none
      else if count.toNat < 1 ∨ 16 < count.toNat then none
      else if put16 (crc16 (bs.take (bs.length - 2))).toNat ≠ bs.drop (bs.length - 2) then none
      else (getItems count.toNat (rest.take (rest.length - 2))).map fun is => ⟨nat16 n1 n0, is⟩
  | _ => none

/-- A frame around item bytes: length, telegram number, item count, the items and the CRC-16 (11.6). -/
def putFrame (number count : Nat) (items : List Byte) : List Byte :=
  let front := put16 (7 + items.length) ++ put16 number ++ put8 count ++ items
  front ++ put16 (crc16 front).toNat

/-- ENCODER. The bytes of a telegram that carries the given items. -/
def putTelegram (t : Telegram) : List Byte :=
  putFrame t.number t.items.length (t.items.flatMap putItem)

/-! ### The table's words -/

/-- spec/opcode_table.json gives no row any bits, so no word spells a command. -/
def decodeTableWord (_nbits _w : Nat) : Option Instr := none

end Sys2Proof
end

