-- ==== Sys2Proof/Machine/State.lean ====
section
/-! DEFINITION. Everything the manual gives the DX4160 as state, block by block, as plain data, and the
state right after a cold start (`State.reset`). A field that the manual calls optional is an `Option`, and
`none` is the manual's "absent" (00_scope.md, "Optional fields"). The one field that is not the part's is
`State.pending`, the queue of commands waiting to be taken. -/

namespace Sys2Proof.Machine

/-! ### Why a step stops -/

/-- The two situations the manual says never come about, met in a state that breaks its invariants. -/
inductive Fault where
  /-- Raised by ALLOCATION when the grant is not refused under R10 and FREE has no head slot: R7 says FREE's
  count is the length of its chain. Safe: the model stops where the manual gives no effect. -/
  | chainBroken
  /-- Raised by SLOT_READ when a read of the dispatch check is answered MOVED with neither of its marks set:
  R132 says such an answer is never taken. Safe: the model stops where the manual gives no effect. -/
  | neverTaken
  deriving DecidableEq, Repr

/-- Why a command has no meaning. -/
inductive Refusal where
  /-- Raised by an arm of `exec` whose row has no meaning yet; no arm is left so. Safe. -/
  | notModelled (mnemonic : String)
  deriving DecidableEq, Repr

/-! ### The Record Store (chapter 1) -/

/-- The 147 lists of the store (R5). -/
inductive ListId where
  | free
  | log
  | exception
  | comp (v : VisitNo)
  | paper (v : VisitNo)
  | pend (v : VisitNo)
  deriving DecidableEq, Repr

/-- The number of a list's descriptor (R5). -/
def ListId.num : ListId → Fin 147
  | .free      => 0
  | .log       => 1
  | .exception => 2
  | .comp v    => ⟨3 + 3 * v.val, by omega⟩
  | .paper v   => ⟨4 + 3 * v.val, by omega⟩
  | .pend v    => ⟨5 + 3 * v.val, by omega⟩

/-- A COMPARTMENT record (R2). -/
structure Compartment where
  number   : Nat
  capacity : Option Nat
  product  : Option Nat
  net      : Nat
  base     : Nat
  figure   : Option Nat
  fills    : Nat
  lastFill : Option Nat
  overfull : Bool
  amended  : Bool
  deriving DecidableEq, Repr

/-- The build mark of a LOG_HEAD: PARTIAL or COMPLETE (R3). -/
inductive BuildMark where
  | building | complete
  deriving DecidableEq, Repr

/-- How a record came to its log (R3, R162). -/
inductive LogOutcome where
  | released | lapsed | aborted | resetLapsed
  deriving DecidableEq, Repr

/-- The outcome of a dispatch check (R152); `none` only in a record whose visit has had no check (R41). -/
inductive CheckOutcome where
  | none | pass | fail | retry | logFull
  deriving DecidableEq, Repr

/-- A LOG_HEAD record (R3). -/
structure LogHead where
  mark         : BuildMark
  seq          : Option Nat
  outcome      : Option LogOutcome
  visit        : VisitNo
  tag          : Tag
  tanker       : Nat
  driver       : Nat
  coDriver     : Option Nat
  paperNo      : Option Nat
  bay          : Option BayIx
  clearMinute  : Option Nat
  passMinute   : Option Nat
  p            : Nat
  margin       : Int
  checkOutcome : CheckOutcome
  compCount    : Nat
  deriving DecidableEq, Repr

/-- A LOG_COMPARTMENT record (R3). -/
structure LogComp where
  number    : Nat
  product   : Nat
  group     : Nat
  net       : Nat
  declared  : Option Nat
  deviation : Option Int
  amended   : Bool
  deriving DecidableEq, Repr

/-- A slot's record; its constructor is the record kind, and a slot of kind NONE has no record (R1). -/
inductive Record where
  | none
  | compartment (c : Compartment)
  | paperLine (l : PaperLine)
  | logHead (h : LogHead)
  | logComp (c : LogComp)
  deriving DecidableEq, Repr

/-- A slot of the pool (R1) with its entry of the link table (R4): `next = none` is END. -/
structure Slot where
  record : Record
  alloc  : AllocCount
  next   : Option SlotNo
  owner  : ListId
  deriving DecidableEq, Repr

/-- A descriptor of the list table (R5). -/
structure Desc where
  head  : Option SlotNo
  tail  : Option SlotNo
  count : Nat
  deriving DecidableEq, Repr

/-- The pool with its link table, the list table, and the record counts of LOG and EXCEPTION (R1, R4, R5). -/
structure Store where
  slots      : Vector Slot 1024
  lists      : Vector Desc 147
  logRecords : Nat
  excRecords : Nat
  deriving DecidableEq, Repr

/-- The seven requesters (section 1.3). -/
inductive Requester where
  | p0 | p1 | p2 | p3 | check | sweep | expiry
  deriving DecidableEq, Repr

/-- The place of a requester in the table of waiting requests. -/
def Requester.ix : Requester → Fin 7
  | .p0 => 0 | .p1 => 1 | .p2 => 2 | .p3 => 3 | .check => 4 | .sweep => 5 | .expiry => 6

/-- The two classes of allocation (R10). -/
inductive AllocClass where
  | bounded | opened
  deriving DecidableEq, Repr

/-- A slot as a requester keeps it: its number and allocation count (R9, R11). -/
structure SlotRef where
  slot  : SlotNo
  alloc : AllocCount
  deriving DecidableEq, Repr

/-- The named fields that a write replaces (R12): a bay preparation's (R49), a fill's (R55; its last fill
minute is N at the write), a clearance completion's (R150). -/
inductive WriteFields where
  | prepare (base : Nat)
  | fill (net product fills figure : Nat) (overfull amended : Bool)
  | complete (minute : Nat)
  deriving DecidableEq, Repr

/-- The two logs (R6). -/
inductive LogId where
  | log | exception
  deriving DecidableEq, Repr

/-- A request waiting at the store (R8 to R15, R19, R22). A read of `none` names the head of the list. -/
inductive Request where
  | alloc (target : ListId) (cls : AllocClass) (record : Record)
  | read (list : ListId) (slot : Option SlotRef)
  | write (list : ListId) (slot : SlotRef) (fields : WriteFields)
  | splice (source target : ListId)
  | stamped (v : VisitNo) (outcome : LogOutcome) (pass : Option Nat)
  | headSplice (which : LogId) (k : Nat)
  | serviceTable (entries : List Requester)
  | storeCounts (visit : Option VisitNo)
  deriving DecidableEq, Repr

/-! ### Visits, windows and papers (chapters 2, 3 and 5) -/

/-- The twelve visit states, in R25's order. -/
inductive VisitState where
  | free | arrived | assigned | loading | loaded | queued | checking | cleared | held | releasing | lapsing
  | aborting
  deriving DecidableEq, Repr

/-- The five paper states (R76). -/
inductive PaperState where
  | none | opened | complete | short | truncated
  deriving DecidableEq, Repr

/-- The fields copied from ARRIVE, present outside FREE (R25). -/
structure Arrival where
  tanker    : Nat
  driver    : Nat
  coDriver  : Option Nat
  compCount : Nat
  minute    : Nat
  deriving DecidableEq, Repr

/-- The paper fields present while the paper state is not NONE (R25, R78). -/
structure Paper where
  number   : Nat
  p        : Nat
  q        : Option Nat
  expected : Option Nat
  deriving DecidableEq, Repr

/-- The reasons of a check or a sweep, numbered 1 to 16 in this order; NONE is an absent reason (R198). -/
inductive Reason where
  | paperIncomplete | paperTruncated | unclassified | compartmentOver | lineMissing | duplicateLine
  | productMismatch | quantityOut | lineUnmatched | segregation | breakDue | dayShort | weekShort
  | spanShort | overstay | restOnSite
  deriving DecidableEq, Repr

/-- A failing item: a compartment, a line, DRIVER or CO_DRIVER (R25, R152). -/
inductive FailItem where
  | compartment (n : Nat)
  | line (n : Nat)
  | driver
  | coDriver
  deriving DecidableEq, Repr

/-- A check record (R152). -/
structure CheckRecord where
  outcome : CheckOutcome
  reason  : Option Reason
  item    : Option FailItem
  count   : Nat
  margin  : Int
  deriving DecidableEq, Repr

/-- The release code and the deadline of a clearance (R155, R156). -/
structure Clearance where
  code     : Nat
  deadline : Nat
  deriving DecidableEq, Repr

/-- The course of an abort, R40 or R41, and the number of its grants answered (R25). -/
structure AbortCourse where
  fromClearance : Bool
  answered      : Nat
  deriving DecidableEq, Repr

/-- A visit context (R25); its visit number is its place in the visit table. -/
structure Visit where
  tag            : Tag
  state          : VisitState
  arrivalMark    : Bool
  arrival        : Option Arrival
  bay            : Option BayIx
  heldOrigin     : Bool
  paperState     : PaperState
  paper          : Option Paper
  accepted       : Nat
  lastCheck      : Option CheckRecord
  clearance      : Option Clearance
  passMinute     : Option Nat
  lapsed         : Bool
  declarationLow : Bool
  recheckFail    : Bool
  abort          : Option AbortCourse
  deriving DecidableEq, Repr

/-- READ or FILL access of a window (R47). -/
inductive Access where
  | read | fill
  deriving DecidableEq, Repr

/-- One entry of a compartment map: compartment number and its slot (R47). -/
structure MapEntry where
  comp : Nat
  slot : SlotRef
  deriving DecidableEq, Repr

/-- A valid bay window (R47); an invalid one has no fields. -/
structure Window where
  visit  : VisitNo
  tag    : Tag
  span   : Nat
  access : Access
  map    : List MapEntry
  deriving DecidableEq, Repr

/-! ### The Class Table (chapter 4) -/

/-- A band of the class table (R63). -/
structure Band where
  upper         : Nat
  group         : Nat
  permille      : Nat
  litres        : Nat
  paperRequired : Bool
  deriving DecidableEq, Repr

/-- The band table, the segregation matrix (entry (a, b) at 16a + b) and the chunk size (R63, R69, R71). -/
structure ClassTable where
  bands  : Vector Band 16
  matrix : Vector Bool 256
  chunk  : Nat
  deriving DecidableEq, Repr

/-- The answer to a lookup (R65). -/
inductive ClassAnswer where
  | unclassified
  | band (number : Nat) (fields : Band)
  deriving DecidableEq, Repr

/-! ### The Time Base (chapter 6) -/

/-- The Time Base's registers (section 6.1), and the minute events it has made that the Visit Controller has
not yet taken, oldest first (R94, R95). -/
structure TimeBase where
  set     : Bool
  seconds : Nat
  hold    : Bool
  minutes : Nat
  slew    : Int
  events  : List Nat
  deriving DecidableEq, Repr

/-! ### The Hours Unit (chapter 7) -/

/-- The activity of a driver entry (R105). -/
inductive Activity where
  | absent | duty | onBreak
  deriving DecidableEq, Repr

/-- The three floors (R105). -/
structure Floors where
  day  : Nat
  cont : Nat
  week : Nat
  deriving DecidableEq, Repr

/-- A held driver entry (R105); its number is its place in the driver table. -/
structure Driver where
  card          : Nat
  activity      : Activity
  day           : Nat
  cont          : Nat
  week          : Nat
  spanStart     : Nat
  credit        : Nat
  breakStart    : Option Nat
  lastDeparture : Option Nat
  floors        : Option Floors
  linked        : Option VisitNo
  deriving DecidableEq, Repr

/-- The four cases of the end of a break (R117). -/
inductive BreakCase where
  | rest | qualifying | fragment | tooShort
  deriving DecidableEq, Repr

/-- The verdicts of the Hours Unit (R120). -/
inductive Verdict where
  | hoursOk | breakDue | dayShort | weekShort | spanShort
  deriving DecidableEq, Repr

/-! ### The Dispatch Check Unit (chapter 8) -/

/-- The phases of a check in flight (R130); IDLE is the absence of a check. -/
inductive Phase where
  | read | judge | build | unwind | abandon
  deriving DecidableEq, Repr

/-- A working compartment (R131): its record, its class once looked up, and the declared litres and the
deviation once its quantity test was taken (R135). -/
structure WorkComp where
  comp     : Compartment
  cls      : Option ClassAnswer
  quantity : Option (Nat × Int)
  deriving DecidableEq, Repr

/-- A request to the Class Table or the Hours Unit, presented and not yet answered (R130). -/
inductive Ask where
  | lookup (code : Nat)
  | pair (g h : Nat)
  | verdict
  deriving DecidableEq, Repr

/-- What a check or a PAPER_RECHECK gathers and judges (R131 to R139, R181): the working lines, the working
compartments judged and still to judge, the pairs still to test, and the failures found. -/
structure Judge where
  lines  : List PaperLine
  done   : List WorkComp
  todo   : List Compartment
  pairs  : List (Nat × Nat)
  reason : Option Reason
  item   : Option FailItem
  count  : Nat
  deriving DecidableEq, Repr

/-- The working record of the check in flight (R131). -/
structure Check where
  phase      : Phase
  visit      : VisitNo
  tag        : Tag
  tanker     : Nat
  driver     : Nat
  coDriver   : Option Nat
  compCount  : Nat
  bay        : Option BayIx
  paperState : PaperState
  paper      : Option Paper
  judge      : Judge
  verdict    : Option Verdict
  margin     : Option Int
  party      : Option FailItem
  stale      : Bool
  abandon    : Bool
  ask        : Option Ask
  build      : List SlotRef
  left       : List WorkComp
  deriving DecidableEq, Repr

/-- The check queue and the check in flight (R128, R130). -/
structure Dcu where
  queue : List VisitNo
  check : Option Check
  deriving DecidableEq, Repr

/-! ### The Log Unit (chapter 9) -/

/-- A take record (R167). -/
structure TakeRecord where
  first   : Nat
  last    : Nat
  records : Nat
  slots   : Nat
  deriving DecidableEq, Repr

/-- The Log Unit's counters, settings and take records, and the lapse list of EXPIRY (R155, R156, R160,
R163, R167, R170). -/
structure LogUnit where
  codes     : Nat
  seqs      : Nat
  window    : Nat
  threshold : Nat
  takeLog   : Option TakeRecord
  takeExc   : Option TakeRecord
  lapses    : List VisitNo
  deriving DecidableEq, Repr

/-! ### The Sweep Unit (chapter 10) -/

/-- The states of the status record (R174). -/
inductive SweepState where
  | idle | running | pass | fail | unsupported | aborted
  deriving DecidableEq, Repr

/-- The scope of a run (R174). -/
inductive Scope where
  | single (index : Nat)
  | all
  deriving DecidableEq, Repr

/-- The status record (R174). -/
structure SweepStatus where
  state    : SweepState
  opcode   : Option Nat
  scope    : Option Scope
  position : Option Nat
  examined : Nat
  failures : Nat
  first    : Option (Nat × Reason)
  last     : Option Nat
  deriving DecidableEq, Repr

/-- What a run waits for (R179 to R181): its slot grant or entry read of HOURS_SCAN; the context, the walk
and the judging of PAPER_RECHECK, with the visit and the tag it kept. -/
inductive SweepWork where
  | none
  | hoursGrant
  | hoursEntry
  | context
  | walk (v : VisitNo) (tag : Tag) (judge : Judge)
  | judging (v : VisitNo) (tag : Tag) (judge : Judge) (ask : Ask)
  deriving DecidableEq, Repr

/-- The Sweep Unit: its status record and its run in progress. `orphan` marks that SWEEP's waiting request
is of a run that was stopped (its answer is discarded, R183), and `deferred` is the first store request of
the run after it, presented when that answer has been taken (R175). -/
structure SweepUnit where
  status   : SweepStatus
  work     : SweepWork
  orphan   : Bool
  deferred : Option Request
  deriving DecidableEq, Repr

/-! ### Station links (chapter 11) -/

/-- The receiver's states (R187). -/
inductive RxState where
  | hunting | ready | receiving
  deriving DecidableEq, Repr

/-- The outcome codes (R195). -/
inductive Code where
  | done | doneClamped | donePartial | ignored | already | abortedUnrecorded
  | rights | state | busy | staleVisit | notMapped | mixedProduct | visitsFull | driversFull | driverOnSite
  | storeFull | queueFull | bayBusy | paperPresent | clockUnset | late | badCode | locked | tableInvalid
  | malformed
  deriving DecidableEq, Repr

/-- A log record as a take or peek gathers it: its head and its compartment slots (R165). -/
structure LogRecord where
  head  : LogHead
  comps : List LogComp
  deriving DecidableEq, Repr

/-- A walk over a log (R165, R168): the log, the records asked for, the least sequence number gathered, the
records gathered whole, the record being read, and the slots read of the records gathered. -/
structure Gather where
  log   : LogId
  want  : Nat
  start : Nat
  got   : List LogRecord
  cur   : Option LogRecord
  slots : Nat
  deriving DecidableEq, Repr

/-- What an ARRIVE keeps while its compartments are placed (R28, R110): the declared figures, the capacities
still to place, the number of the compartment whose allocation is presented, and the minute and reclaim age
at which check 7 was answered. -/
structure ArriveWork where
  figures   : Figures
  coDriver  : Option CoDriver
  left      : List (Option Nat)
  number    : Nat
  minute    : Nat
  reclaim   : Nat
  deriving DecidableEq, Repr

/-- The item executing on a link, by what it waits for (R190). `taken` is an item without a grant. -/
inductive Job where
  | taken
  | serviceLoad
  | storeRead
  | paperOpen (v : VisitNo) (tag : Tag) (clamped : Bool)
  | paperLines (v : VisitNo) (tag : Tag) (left : List PaperLine) (placed dropped : Nat) (short : Bool)
  | abort (v : VisitNo) (seq : Option Nat)
  | release (v : VisitNo)
  | take (g : Gather)
  | peek (g : Gather)
  | bayRead (b : BayIx) (v : VisitNo) (tag : Tag)
  | bayWrite (b : BayIx) (v : VisitNo) (tag : Tag) (comp : Nat) (slot : SlotRef) (next : Option SlotRef)
  | fillRead (b : BayIx) (v : VisitNo) (tag : Tag) (slot : SlotRef) (product figure : Nat)
  | fillWrite (v : VisitNo) (net : Nat) (overfull amended : Bool)
  | arrive (v : VisitNo) (w : ArriveWork)
  | arriveUndo (v : VisitNo)
  | visitRead (v : VisitNo) (context : Visit) (got : List Compartment)
  deriving DecidableEq, Repr

/-- The item being executed: its kind and tag, echoed in the reply, and its course (R190, R192). -/
structure CurItem where
  kind : Nat
  tag  : Nat
  job  : Job
  deriving DecidableEq, Repr

/-- A telegram whose items are executing (R190 to R193): its number and item count, the items not yet taken,
the item in flight, the reply items so far, and whether a RESTART was answered DONE. -/
structure Execution where
  number  : Nat
  count   : Nat
  left    : List RawItem
  cur     : Option CurItem
  reply   : List Byte
  restart : Bool
  deriving DecidableEq, Repr

/-- A receive buffer (R188). A FILLING buffer holds the bytes so far and whether one of them had a framing
error; a REPLYING one holds the reply being sent and whether it ends in a soft reset (R193). -/
inductive Buffer where
  | empty
  | filling (bytes : List Byte) (framing : Bool)
  | waiting (t : Telegram)
  | executing (e : Execution)
  | replying (reply : List Byte) (restart : Bool)
  deriving DecidableEq, Repr

/-- A Station Link Controller: receiver, two buffers, flag set and enable mask (R187, R188, R196). -/
structure Link where
  rx    : RxState
  bufA  : Buffer
  bufB  : Buffer
  flags : FlagWord
  mask  : FlagWord
  deriving DecidableEq, Repr

/-- The four links. -/
structure Links where
  office  : Link
  loading : Link
  gate    : Link
  audit   : Link
  deriving DecidableEq, Repr

/-! ### Configuration Control and the supplies (chapter 12) -/

/-- The run state (R203). -/
inductive RunState where
  | config | run
  deriving DecidableEq, Repr

/-- Configuration Control (R203). -/
structure Control where
  run      : RunState
  locked   : Bool
  keep     : Bool
  identity : Option Nat
  label    : Option (List Byte)
  deriving DecidableEq, Repr

/-- MAIN and BACKUP (R208); `lost` is the time from a loss of the backup supply to the cold start. -/
inductive Power where
  | main | backup | lost
  deriving DecidableEq, Repr

/-- The bit rates that the straps choose (R186). -/
inductive BitRate where
  | r19200 | r57600 | r115200 | r230400
  deriving DecidableEq, Repr

/-- The rate that the strap levels choose (R186). -/
def BitRate.ofStraps : Bool → Bool → BitRate
  | false, false => .r19200
  | false, true  => .r57600
  | true, false  => .r115200
  | true, true   => .r230400

/-! ### The whole machine -/

/-- The DX4160. -/
structure State where
  pending  : List Instr
  power    : Power
  rst      : Bool
  rate     : BitRate
  links    : Links
  store    : Store
  reserve  : Nat
  service  : List Requester
  index    : Nat
  requests : Vector (Option Request) 7
  visits   : Vector Visit 48
  windows  : Vector (Option Window) 16
  classes  : ClassTable
  time     : TimeBase
  drivers  : Vector (Option Driver) 256
  rules    : RuleSet
  dcu      : Dcu
  logs     : LogUnit
  sweep    : SweepUnit
  cc       : Control
  deriving DecidableEq, Repr

/-! ### Cold start values -/

/-- A table of `n` places filled by place. -/
def tableOf {α : Type} (n : Nat) (f : Nat → α) : Vector α n :=
  ⟨((List.range n).map f).toArray, by simp⟩

/-- A visit context in FREE, every field but its tag cleared (R25). -/
def Visit.freed (tag : Tag) : Visit :=
  { tag, state := .free, arrivalMark := false, arrival := none, bay := none, heldOrigin := false,
    paperState := .none, paper := none, accepted := 0, lastCheck := none, clearance := none,
    passMinute := none, lapsed := false, declarationLow := false, recheckFail := false, abort := none }

/-- An empty list (R5). -/
def Desc.empty : Desc := ⟨none, none, 0⟩

/-- The pool and lists after cold start: FREE holds all slots in ascending order (R23). -/
def Store.cold : Store :=
  { slots := tableOf 1024 fun n =>
      ⟨.none, 0, if h : n + 1 < 1024 then some ⟨n + 1, h⟩ else none, .free⟩
    lists := tableOf 147 fun n => if n = 0 then ⟨some 0, some 1023, 1024⟩ else Desc.empty
    logRecords := 0
    excRecords := 0 }

/-- The default service table (R20). -/
def defaultService : List Requester :=
  [.p1, .p2, .check, .p0, .p1, .p2, .check, .expiry, .p3, .sweep]

/-- The class table after cold start (R74). -/
def ClassTable.cold : ClassTable :=
  { bands := Vector.replicate 16 ⟨0, 0, 0, 0, false⟩
    matrix := Vector.replicate 256 false
    chunk := Config.defaultChunk }

/-- The default rule set (R107). -/
def defaultRules : RuleSet :=
  { lDay := 600, lCont := 300, lWeek := 3300, lSpan := 810, b := 30, f := 10, r := 660, reclaim := 10080 }

/-- The Time Base after cold start (R102). -/
def TimeBase.cold : TimeBase :=
  { set := false, seconds := 0, hold := false, minutes := 0, slew := 0, events := [] }

/-- The Log Unit after cold start (R172). -/
def LogUnit.cold : LogUnit :=
  { codes := 0, seqs := 0, window := Config.defaultWindow, threshold := Config.defaultThreshold,
    takeLog := none, takeExc := none, lapses := [] }

/-- The DCU after any reset: IDLE with an empty queue (R153, R154). -/
def Dcu.idle : Dcu := { queue := [], check := none }

/-- The Sweep Unit after cold start (R185). -/
def SweepUnit.cold : SweepUnit :=
  { status := ⟨.idle, none, none, none, 0, 0, none, none⟩, work := .none, orphan := false,
    deferred := none }

/-- A link after any reset: both buffers EMPTY, HUNTING, flags and mask clear (R202). -/
def Link.reset : Link := { rx := .hunting, bufA := .empty, bufB := .empty, flags := 0, mask := 0 }

def Links.reset : Links := ⟨Link.reset, Link.reset, Link.reset, Link.reset⟩

/-- Configuration Control after cold start (R209). -/
def Control.cold : Control :=
  { run := .config, locked := false, keep := false, identity := none, label := none }

/-- The part after a cold start with the straps at a rate, the main supply present and RST released
(R208, R209 and the reset rules of each chapter). -/
def State.cold (rate : BitRate) (pending : List Instr) : State :=
  { pending
    power := .main
    rst := false
    rate
    links := Links.reset
    store := Store.cold
    reserve := Config.defaultReserve
    service := defaultService
    index := 0
    requests := Vector.replicate 7 none
    visits := Vector.replicate 48 (Visit.freed 0)
    windows := Vector.replicate 16 none
    classes := ClassTable.cold
    time := TimeBase.cold
    drivers := Vector.replicate 256 none
    rules := defaultRules
    dcu := Dcu.idle
    logs := LogUnit.cold
    sweep := SweepUnit.cold
    cc := Control.cold }

/-- RESET. The machine right after a cold start with both straps low. DESIGN CHOICE (log 7): the straps are
pins, and the manual gives them no level of their own. -/
def State.reset : State := State.cold (BitRate.ofStraps false false) []

end Sys2Proof.Machine
end

