-- ==== Sys2Proof/Machine/Ops.lean ====
section
/-! DEFINITION. The named operations the meanings share: the tables, the Record Store's grants (R9 to R15),
the service table (R18), and waiting requests (R8). -/

namespace Sys2Proof.Machine

/-! ### Tables -/

/-- The entry of a table at an index, and the table with that entry replaced. -/
def tget {α : Type} {n : Nat} (t : Vector α n) (i : Fin n) : α := t[i.val]
def tset {α : Type} {n : Nat} (t : Vector α n) (i : Fin n) (x : α) : Vector α n := t.set i.val x

/-- A number brought to the nearest end of a range (00_scope.md, "clamped"). -/
def clamp (lo hi n : Nat) : Nat := max lo (min hi n)
def clampInt (lo hi n : Int) : Int := max lo (min hi n)

/-- The greatest of a list of numbers, 0 for none. -/
def maxOf (ns : List Nat) : Nat := ns.foldl max 0

/-- floor and ceil of a quotient ("Floor" and "ceil", 00_scope.md). -/
def ceilDiv (a b : Nat) : Nat := (a + b - 1) / b

/-- The number of a visit, slot or entry carried by an item, where it is in range. -/
def fin? (n k : Nat) : Option (Fin n) := if h : k < n then some ⟨k, h⟩ else none

/-- The window of a bay number 1 to 16 (R47). -/
def bay? (b : Nat) : Option BayIx := if b = 0 then none else fin? 16 (b - 1)

/-- The bay number of a window (R47). -/
def bayNumber (b : BayIx) : Nat := b.val + 1

namespace State

def visit (s : State) (v : VisitNo) : Visit := tget s.visits v
def setVisit (s : State) (v : VisitNo) (x : Visit) : State := { s with visits := tset s.visits v x }

/-- Changes a visit only while it is in a given state. The rules hand each end of a piece of work to a visit
in one state; the guard holds in every state a run reaches. -/
def changeVisit (s : State) (v : VisitNo) (st : VisitState) (f : Visit → Visit) : State :=
  if (s.visit v).state = st then s.setVisit v (f (s.visit v)) else s

def window (s : State) (b : BayIx) : Option Window := tget s.windows b
def setWindow (s : State) (b : BayIx) (w : Option Window) : State := { s with windows := tset s.windows b w }

def driver (s : State) (e : EntryNo) : Option Driver := tget s.drivers e
def setDriver (s : State) (e : EntryNo) (d : Option Driver) : State := { s with drivers := tset s.drivers e d }

def request (s : State) (p : Requester) : Option Request := tget s.requests p.ix

/-- A requester presents its one request, or its request is answered (R8). -/
def setRequest (s : State) (p : Requester) (r : Option Request) : State :=
  { s with requests := tset s.requests p.ix r }
def present (s : State) (p : Requester) (r : Request) : State := s.setRequest p (some r)

def setStore (s : State) (x : Store) : State := { s with store := x }
def setLogs (s : State) (x : LogUnit) : State := { s with logs := x }
def setDcu (s : State) (x : Dcu) : State := { s with dcu := x }
def setSweep (s : State) (x : SweepUnit) : State := { s with sweep := x }
def setLinks (s : State) (x : Links) : State := { s with links := x }
def setTime (s : State) (x : TimeBase) : State := { s with time := x }
def setClasses (s : State) (x : ClassTable) : State := { s with classes := x }
def setCc (s : State) (x : Control) : State := { s with cc := x }

/-- The current minute count N (R100). -/
def now (s : State) : Nat := s.time.minutes

/-- Whether the blocks other than the Time Base take steps: the main supply is present and RST is not
asserted (R208). -/
def alive (s : State) : Bool := decide (s.power = .main) && !s.rst

end State

/-! ### The pool and its lists (R4, R5) -/

namespace Store

def slot (st : Store) (i : SlotNo) : Slot := tget st.slots i
def setSlot (st : Store) (i : SlotNo) (x : Slot) : Store := { st with slots := tset st.slots i x }
def desc (st : Store) (l : ListId) : Desc := tget st.lists l.num
def setDesc (st : Store) (l : ListId) (d : Desc) : Store := { st with lists := tset st.lists l.num d }

/-- The slots reached from a slot by following the link table, at most `fuel` of them (R4). -/
def chainFrom (st : Store) : Nat → Option SlotNo → List SlotNo
  | 0, _ => []
  | _, none => []
  | fuel + 1, some i => i :: chainFrom st fuel (st.slot i).next

/-- The slots of a list from head to tail (R7). -/
def chain (st : Store) (l : ListId) : List SlotNo := st.chainFrom (st.desc l).count (st.desc l).head

/-- A moved slot takes its new owner; onto FREE it takes kind NONE and loses its record (R4, R13). -/
def own (target : ListId) (x : Slot) : Slot :=
  { x with owner := target, record := if target = .free then .none else x.record }

/-- Gives every listed slot its new owner. -/
def ownAll (target : ListId) (st : Store) : List SlotNo → Store
  | [] => st
  | i :: is => ownAll target (st.setSlot i (own target (st.slot i))) is

/-- Sets the next slot of a slot (R4). -/
def relink (st : Store) (i : SlotNo) (next : Option SlotNo) : Store :=
  st.setSlot i { st.slot i with next }

/-- Links the old tail of a list, if it has one, to a slot (R4). -/
def linkTail (st : Store) (tail : Option SlotNo) (first : SlotNo) : Store :=
  match tail with
  | none => st
  | some t => st.relink t (some first)

/-- Moves the first `n` slots of a list, in their order, to the tail of another list (R4, R13). Every splice
and every allocation moves slots by this one operation; a move of a list onto itself changes nothing. -/
def move (st : Store) (source target : ListId) (n : Nat) : Store :=
  let moved := (st.chain source).take n
  match moved.head?, moved.getLast? with
  | some first, some last =>
      if source = target then st
      else
        let rest := (st.slot last).next
        let src := st.desc source
        let tgt := st.desc target
        let st := ownAll target st moved
        let st := st.relink last none
        let st := st.linkTail tgt.tail first
        let st := st.setDesc source
          ⟨rest, if rest.isNone then none else src.tail, src.count - moved.length⟩
        st.setDesc target
          ⟨if tgt.head.isNone then some first else tgt.head, some last, tgt.count + moved.length⟩
  | _, _ => st

/-- A whole-list splice (R13); with target FREE, a return. -/
def splice (st : Store) (source target : ListId) : Store := st.move source target (st.desc source).count

/-- Takes the head of FREE onto a list and gives it its record: the answer is the slot and its new allocation
count (R9). `none` where FREE has no head. -/
def allocate (st : Store) (target : ListId) (record : Record) : Option (Store × SlotRef) :=
  match (st.desc .free).head with
  | none => none
  | some i =>
      let st := st.move .free target 1
      let x := st.slot i
      some (st.setSlot i { x with record, alloc := x.alloc + 1 }, ⟨i, x.alloc + 1⟩)

/-- FREE's slot count. -/
def freeCount (st : Store) : Nat := (st.desc .free).count

end Store

/-- The list of a log, and the log that an outcome goes to (R5, R14). -/
def LogId.list : LogId → ListId
  | .log => .log
  | .exception => .exception

def LogOutcome.target : LogOutcome → LogId
  | .released => .log
  | .lapsed | .aborted | .resetLapsed => .exception

/-- Whether a record is a LOG_HEAD, or a LOG_COMPARTMENT (R3). -/
def Record.isHead : Record → Bool
  | .logHead _ => true
  | _ => false

def Record.isLogComp : Record → Bool
  | .logComp _ => true
  | _ => false

/-- Whether a list is a PENDING list (R5). -/
def ListId.isPend : ListId → Bool
  | .pend _ => true
  | _ => false

/-- The visit whose COMP or PAPER list this is: the lists the DCU is told of (R16). -/
def ListId.watched : ListId → Option VisitNo
  | .comp v | .paper v => some v
  | _ => none

/-! ### Allocations (R9, R10, R164) -/

/-- The Log Unit's outstanding count: the LOG_HEAD slots on the PENDING lists (R164). -/
def Store.outstanding (st : Store) : Nat :=
  st.slots.toList.countP fun x => x.record.isHead && x.owner.isPend

namespace State

/-- Whether an allocation is refused STORE_FULL (R10, R164). -/
def allocRefused (s : State) (target : ListId) (cls : AllocClass) (record : Record) : Bool :=
  (match cls with
    | .bounded => decide (s.store.freeCount ≤ s.reserve)
    | .opened => decide (s.store.freeCount = 0)) ||
  (record.isHead && target.isPend && decide (Config.maxWord ≤ s.logs.seqs + s.store.outstanding))

end State

/-! ### Reads and writes (R11, R12) -/

/-- The answer to a read: MOVED, DONE with no slot, or DONE with the slot, its record and its next slot. -/
inductive ReadAnswer where
  | moved
  | empty
  | slot (ref : SlotRef) (record : Record) (next : Option SlotRef)
  deriving DecidableEq, Repr

/-- A slot as a requester keeps it. -/
def Store.ref (st : Store) (i : SlotNo) : SlotRef := ⟨i, (st.slot i).alloc⟩

/-- Whether a slot is still where a requester expects it (R11). -/
def Store.found (st : Store) (list : ListId) (r : SlotRef) : Bool :=
  decide ((st.slot r.slot).owner = list) && decide ((st.slot r.slot).alloc = r.alloc)

/-- The DONE answer to a read of a slot (R11). -/
def Store.readSlot (st : Store) (i : SlotNo) : ReadAnswer :=
  .slot (st.ref i) (st.slot i).record ((st.slot i).next.map st.ref)

/-- A read of a named slot, or of the head of a list (R11). -/
def Store.read (st : Store) (list : ListId) : Option SlotRef → ReadAnswer
  | none =>
      match (st.desc list).head with
      | none => .empty
      | some i => st.readSlot i
  | some r => if st.found list r then st.readSlot r.slot else .moved

/-- The record after a write of named fields at minute N; `none` where the record is not of the kind that the
fields belong to (R12, R49, R55, R150). -/
def applyFields (n : Nat) : WriteFields → Record → Option Record
  | .prepare base, .compartment c => some (.compartment { c with base, figure := none })
  | .fill net product fills figure overfull amended, .compartment c =>
      some (.compartment
        { c with net, product := some product, fills, lastFill := some n, figure := some figure,
                 overfull, amended })
  | .complete minute, .logHead h => some (.logHead { h with mark := .complete, clearMinute := some minute })
  | _, _ => none

/-- Only the slots of COMP lists and the heads of PENDING lists are written (R12). -/
def ListId.writable : ListId → Bool
  | .comp _ | .pend _ => true
  | _ => false

/-- A write at minute N (R12); `none` is the answer MOVED. -/
def Store.write (st : Store) (n : Nat) (list : ListId) (r : SlotRef) (f : WriteFields) : Option Store :=
  if list.writable && st.found list r then
    (applyFields n f (st.slot r.slot).record).map fun record =>
      st.setSlot r.slot { st.slot r.slot with record }
  else none

/-! ### Stamped and head splices (R14, R15) -/

/-- A head as a stamped splice writes it (R14). -/
def stampRecord (seq : Nat) (outcome : LogOutcome) (pass : Option Nat) : Record → Record
  | .logHead h => .logHead { h with seq := some seq, outcome := some outcome, passMinute := pass }
  | r => r

/-- The record count of a log (R5). -/
def Store.records (st : Store) : LogId → Nat
  | .log => st.logRecords
  | .exception => st.excRecords

def Store.setRecords (st : Store) (l : LogId) (n : Nat) : Store :=
  match l with
  | .log => { st with logRecords := n }
  | .exception => { st with excRecords := n }

/-- A stamped splice of a visit's PENDING list: the head takes the next sequence number, the outcome and any
pass minute, and the chain moves to its log (R14). An empty list draws no number. -/
def State.stamp (s : State) (v : VisitNo) (outcome : LogOutcome) (pass : Option Nat) : State × Option Nat :=
  match (s.store.desc (.pend v)).head with
  | none => (s, none)
  | some i =>
      let seq := s.logs.seqs + 1
      let x := s.store.slot i
      let st := s.store.setSlot i { x with record := stampRecord seq outcome pass x.record }
      let st := st.splice (.pend v) outcome.target.list
      let st := st.setRecords outcome.target (st.records outcome.target + 1)
      ((s.setStore st).setLogs { s.logs with seqs := seq }, some seq)

/-- How many slots a head splice of `k` moves: the first `k`, and the LOG_COMPARTMENT slots that would be
left at the head (R15). -/
def Store.headSpan (st : Store) (l : LogId) (k : Nat) : Nat :=
  if k = 0 then 0
  else
    let c := st.chain l.list
    min k c.length + ((c.drop k).takeWhile fun i => (st.slot i).record.isLogComp).length

/-- A head splice: the store after it, the slots moved and the records moved (R15). -/
def Store.headSplice (st : Store) (l : LogId) (k : Nat) : Store × Nat × Nat :=
  let n := st.headSpan l k
  let heads := ((st.chain l.list).take n).countP fun i => (st.slot i).record.isHead
  let st' := st.move l.list .free n
  (st'.setRecords l (st.records l - heads), n, heads)

/-! ### The service table (R18, R19) -/

/-- The requesters as SERVICE_LOAD carries them (section 1.3's table, R198). -/
def requester? : Nat → Option Requester
  | 0 => some .p0 | 1 => some .p1 | 2 => some .p2 | 3 => some .p3
  | 4 => some .check | 5 => some .sweep | 6 => some .expiry
  | _ => none

def Requester.all : List Requester := [.p0, .p1, .p2, .p3, .check, .sweep, .expiry]

/-- The requester of a link (R190), and the link of a requester. -/
def linkRequester : LinkNo → Requester
  | .office => .p0 | .loading => .p1 | .gate => .p2 | .audit => .p3

def Requester.link : Requester → Option LinkNo
  | .p0 => some .office | .p1 => some .loading | .p2 => some .gate | .p3 => some .audit
  | .check | .sweep | .expiry => none

namespace State

/-- Whether any requester has a request waiting (R18). -/
def anyWaiting (s : State) : Bool := Requester.all.any fun p => (s.request p).isSome

/-- The requester whose turn it is, where the store takes a turn at all (R18). -/
def turn (s : State) : Option Requester :=
  if s.alive && s.anyWaiting then s.service[s.index]? else none

/-- The index advances by one, from the last entry to 0 (R18). -/
def advance (s : State) : State :=
  { s with index := if s.index + 1 < s.service.length then s.index + 1 else 0 }

/-- The grant that the next turn gives: the requester named and its waiting request (R18). -/
def grant (s : State) : Option (Requester × Request) :=
  match s.turn with
  | none => none
  | some p => (s.request p).map fun r => (p, r)

/-- A grant uses its turn, and its request no longer waits (R8, R18). -/
def granted (s : State) (p : Requester) : State := s.advance.setRequest p none

end State

/-! ### Lookups by card and number -/

namespace State

/-- The entry that holds a card; cards in the table are unique (R105). -/
def entryOf (s : State) (card : Nat) : Option EntryNo :=
  (List.finRange 256).find? fun e =>
    match s.driver e with
    | some d => d.card == card
    | none => false

/-- The lowest-numbered FREE context (R28). -/
def freeVisit (s : State) : Option VisitNo :=
  (List.finRange 48).find? fun v => decide ((s.visit v).state = .free)

/-- Marks a visit FREE, keeping its tag (R25). -/
def freeUp (s : State) (v : VisitNo) : State := s.setVisit v (Visit.freed (s.visit v).tag)

/-- The visit of a finished piece of work becomes FREE from the transient state of that work (R29, R34, R40,
R41). -/
def freeFrom (s : State) (v : VisitNo) (st : VisitState) : State :=
  s.changeVisit v st fun x => Visit.freed x.tag

end State

end Sys2Proof.Machine
end

