-- ==== Sys2Proof/Machine/Flags.lean ====
section
/-! DEFINITION. The attention flags (R196, R197): event flags set by the step of their event, condition flags
that follow a condition of the store (R17, R170, R171), and the ATTENTION outputs. -/

namespace Sys2Proof.Machine

/-- The eleven flags, in the order of their positions (R196). -/
inductive Flag where
  | telegramError | overrun | paperClosed | unrecorded | mapMiss | checkDone | clearanceLapsed | sweepDone
  | logReady | excReady | storeLow
  deriving DecidableEq, Repr

/-- The position of a flag (R196). -/
def Flag.position : Flag → Nat
  | .telegramError => 0 | .overrun => 1 | .paperClosed => 2 | .unrecorded => 3 | .mapMiss => 4
  | .checkDone => 5 | .clearanceLapsed => 6 | .sweepDone => 7 | .logReady => 8 | .excReady => 9
  | .storeLow => 10

/-- The flag word with one position set. -/
def Flag.bit (f : Flag) : FlagWord := 1#16 <<< f.position

/-- The positions of the condition flags (R196). -/
def conditionBits : FlagWord := Flag.logReady.bit ||| Flag.excReady.bit ||| Flag.storeLow.bit

/-- The positions a link carries (R196). -/
def carried : LinkNo → FlagWord
  | .office => Flag.telegramError.bit ||| Flag.overrun.bit ||| Flag.paperClosed.bit |||
      Flag.unrecorded.bit ||| conditionBits
  | .loading => Flag.telegramError.bit ||| Flag.overrun.bit ||| Flag.mapMiss.bit
  | .gate => Flag.telegramError.bit ||| Flag.overrun.bit ||| Flag.checkDone.bit |||
      Flag.clearanceLapsed.bit
  | .audit => Flag.telegramError.bit ||| Flag.overrun.bit ||| Flag.sweepDone.bit ||| Flag.logReady.bit

/-- A flag word with a position set or clear. -/
def putFlag (w : FlagWord) (f : Flag) (b : Bool) : FlagWord :=
  if b then w ||| f.bit else w &&& ~~~f.bit

/-- Whether a position of a flag word is set. -/
def hasFlag (w : FlagWord) (f : Flag) : Bool := w.getLsbD f.position

/-! ### Links by number -/

/-- The controller of a link, and the links with one replaced. -/
def Links.get (k : Links) : LinkNo → Link
  | .office => k.office | .loading => k.loading | .gate => k.gate | .audit => k.audit

def Links.put (k : Links) (l : LinkNo) (x : Link) : Links :=
  match l with
  | .office => { k with office := x }
  | .loading => { k with loading := x }
  | .gate => { k with gate := x }
  | .audit => { k with audit := x }

namespace State

def link (s : State) (l : LinkNo) : Link := s.links.get l
def setLink (s : State) (l : LinkNo) (x : Link) : State := s.setLinks (s.links.put l x)

/-- An event raises its flag on a link, and a flag already set stays set (R196). -/
def raise (s : State) (l : LinkNo) (f : Flag) : State :=
  s.setLink l { s.link l with flags := putFlag (s.link l).flags f true }

/-! ### Conditions -/

/-- STORE_LOW (R17), LOG_READY (R170) and EXC_READY (R171). -/
def storeLow (s : State) : Bool := decide (s.store.freeCount ≤ s.reserve)
def logReady (s : State) : Bool := decide (s.logs.threshold ≤ s.store.logRecords)
def excReady (s : State) : Bool := decide (0 < (s.store.desc .exception).count)

/-- The condition flags of the OFFICE and AUDIT links follow their conditions (R17, R170, R171, R196). -/
def follow (s : State) : State :=
  let o := s.link .office
  let a := s.link .audit
  (s.setLink .office
      { o with flags := putFlag (putFlag (putFlag o.flags .storeLow s.storeLow) .logReady s.logReady) .excReady s.excReady }).setLink
    .audit { a with flags := putFlag a.flags .logReady s.logReady }

/-- A link's ATTENTION output: high while a flag is set with its mask position set, and low in BACKUP and
while RST is asserted (R196, R202). -/
def attention (s : State) (l : LinkNo) : Bool :=
  s.alive && decide ((s.link l).flags &&& (s.link l).mask ≠ 0)

end State

end Sys2Proof.Machine
end

