-- ==== Sys2Proof/Machine/Operands.lean ====
section
/-! DEFINITION. Items and replies at the Station Link Controllers: how an item is taken and checked (R190,
R191), how it is answered and the reply is built (R192), and the byte layouts of the reply data (R198, R199,
R200). -/

namespace Sys2Proof.Machine

/-! ### Named values as bytes (R198) -/

/-- The value of an outcome code (R195). -/
def Code.value : Code → Nat
  | .done => 0 | .doneClamped => 1 | .donePartial => 2 | .ignored => 3 | .already => 4
  | .abortedUnrecorded => 5
  | .rights => 16 | .state => 17 | .busy => 18 | .staleVisit => 19 | .notMapped => 20
  | .mixedProduct => 21 | .visitsFull => 22 | .driversFull => 23 | .driverOnSite => 24
  | .storeFull => 25 | .queueFull => 26 | .bayBusy => 27 | .paperPresent => 28 | .clockUnset => 29
  | .late => 30 | .badCode => 31 | .locked => 32 | .tableInvalid => 33 | .malformed => 34

def VisitState.value : VisitState → Nat
  | .free => 0 | .arrived => 1 | .assigned => 2 | .loading => 3 | .loaded => 4 | .queued => 5
  | .checking => 6 | .cleared => 7 | .held => 8 | .releasing => 9 | .lapsing => 10 | .aborting => 11

def PaperState.value : PaperState → Nat
  | .none => 0 | .opened => 1 | .complete => 2 | .short => 3 | .truncated => 4

def CheckOutcome.value : CheckOutcome → Nat
  | .none => 0 | .pass => 1 | .fail => 2 | .retry => 3 | .logFull => 4

def Reason.value : Reason → Nat
  | .paperIncomplete => 1 | .paperTruncated => 2 | .unclassified => 3 | .compartmentOver => 4
  | .lineMissing => 5 | .duplicateLine => 6 | .productMismatch => 7 | .quantityOut => 8
  | .lineUnmatched => 9 | .segregation => 10 | .breakDue => 11 | .dayShort => 12 | .weekShort => 13
  | .spanShort => 14 | .overstay => 15 | .restOnSite => 16

def reasonValue : Option Reason → Nat
  | none => 0
  | some r => r.value

def LogOutcome.value : LogOutcome → Nat
  | .released => 1 | .lapsed => 2 | .aborted => 3 | .resetLapsed => 4

def Activity.value : Activity → Nat
  | .absent => 0 | .duty => 1 | .onBreak => 2

def BreakCase.value : BreakCase → Nat
  | .rest => 0 | .qualifying => 1 | .fragment => 2 | .tooShort => 3

def SweepState.value : SweepState → Nat
  | .idle => 0 | .running => 1 | .pass => 2 | .fail => 3 | .unsupported => 4 | .aborted => 5

def Requester.value (p : Requester) : Nat := p.ix.val

def RunState.value : RunState → Nat
  | .config => 0 | .run => 1

def BuildMark.value : BuildMark → Nat
  | .building => 0 | .complete => 1

/-- The kind and number of a failing item in a visit status reply (R200). -/
def failItemBytes : Option FailItem → List Byte
  | none => put8 0 ++ put8 0
  | some (.compartment n) => put8 1 ++ put8 n
  | some (.line n) => put8 2 ++ put8 n
  | some .driver => put8 3 ++ put8 0
  | some .coDriver => put8 4 ++ put8 0

/-- A byte of flags, bit 0 first (R199, R200). -/
def bits (bs : List Bool) : Nat := bs.foldr (fun b n => (if b then 1 else 0) + 2 * n) 0

/-! ### Reply data -/

/-- The time report (R99). -/
def timeReport (t : TimeBase) : List Byte :=
  putBit t.set ++ put32 t.minutes ++ put8 t.seconds ++
    putOpt put8 (if t.set then some (60 - t.seconds + (if t.hold then 1 else 0)) else none) ++
    putInt16 t.slew

/-- The eight figures as stored, each in the width of its range (R107, R108, R198). -/
def rulesBytes (r : RuleSet) : List Byte :=
  put16 r.lDay ++ put16 r.lCont ++ put16 r.lWeek ++ put16 r.lSpan ++ put8 r.b ++ put8 r.f ++ put16 r.r ++
    put16 r.reclaim

/-- A take record: a presence byte, first and last sequence numbers, record and slot counts (R199). -/
def takeRecordBytes : Option TakeRecord → List Byte
  | none => putBit false ++ put32 0 ++ put32 0 ++ put8 0 ++ put8 0
  | some t => putBit true ++ put32 t.first ++ put32 t.last ++ put8 t.records ++ put8 t.slots

/-- The head of a log record, 40 bytes (R199). -/
def headBytes (h : LogHead) : List Byte :=
  put32 (h.seq.getD 0) ++ put8 ((h.outcome.map LogOutcome.value).getD 0) ++
    put8 (bits [h.paperNo.isSome, h.clearMinute.isSome, h.passMinute.isSome]) ++
    put8 h.visit.val ++ put16 h.tag.toNat ++ put32 h.tanker ++ put32 h.driver ++ put32 (h.coDriver.getD 0) ++
    put32 (h.paperNo.getD 0) ++ put8 ((h.bay.map bayNumber).getD 0) ++
    put32 (h.clearMinute.getD 0) ++ put32 (h.passMinute.getD 0) ++ put16 h.p ++ putInt16 h.margin ++
    put8 h.checkOutcome.value ++ put8 h.compCount

/-- A compartment entry of a log record, 13 bytes (R199). -/
def logCompBytes (c : LogComp) : List Byte :=
  put8 c.number ++ put8 (bits [c.amended, c.declared.isSome]) ++ put16 c.product ++ put8 c.group ++
    put16 c.net ++ put16 (c.declared.getD 0) ++ putInt32 (c.deviation.getD 0)

def logRecordBytes (r : LogRecord) : List Byte := headBytes r.head ++ r.comps.flatMap logCompBytes

/-- The reply data of LOG_PEEK and EXC_PEEK; a take's opens with the terminal identity besides (R199). -/
def peekBytes (t : Option TakeRecord) (rs : List LogRecord) : List Byte :=
  takeRecordBytes t ++ put8 rs.length ++ rs.flatMap logRecordBytes

def takeBytes (identity : Option Nat) (t : Option TakeRecord) (rs : List LogRecord) : List Byte :=
  put32 (identity.getD 0) ++ peekBytes t rs

/-- A compartment entry of a visit status reply, 18 bytes (R200). -/
def compBytes (c : Compartment) : List Byte :=
  put8 c.number ++
    put8 (bits [c.overfull, c.amended, c.product.isSome, c.figure.isSome, c.lastFill.isSome]) ++
    put16 (c.capacity.getD 0) ++ put16 (c.product.getD 0) ++ put16 c.net ++ put16 c.base ++
    put16 (c.figure.getD 0) ++ put16 c.fills ++ put32 (c.lastFill.getD 0)

/-- The first 24 bytes of the visit status reply: the context and what ARRIVE gave it (R200). -/
def visitHeadBytes (v : VisitNo) (x : Visit) : List Byte :=
  put8 v.val ++ put16 x.tag.toNat ++ put8 x.state.value ++
    put8 (bits [x.arrivalMark, x.heldOrigin, x.lapsed, x.declarationLow, x.recheckFail]) ++
    put8 (bits [x.arrival.isSome, x.paper.isSome, (x.paper.bind Paper.q).isSome, x.lastCheck.isSome,
      x.clearance.isSome, x.passMinute.isSome]) ++
    put32 ((x.arrival.map Arrival.tanker).getD 0) ++ put32 ((x.arrival.map Arrival.driver).getD 0) ++
    put32 ((x.arrival.bind Arrival.coDriver).getD 0) ++ put8 ((x.arrival.map Arrival.compCount).getD 0) ++
    put32 ((x.arrival.map Arrival.minute).getD 0) ++ put8 ((x.bay.map bayNumber).getD 0)

/-- The 11 bytes of the paper in the visit status reply (R200). -/
def visitPaperBytes (x : Visit) : List Byte :=
  put8 x.paperState.value ++ put32 ((x.paper.map Paper.number).getD 0) ++
    put16 ((x.paper.map Paper.p).getD 0) ++ put16 ((x.paper.bind Paper.q).getD 0) ++
    put8 ((x.paper.bind Paper.expected).getD 0) ++ put8 x.accepted

/-- The 17 bytes of the last check record, the clearance and the pass in the visit status reply (R200). -/
def visitCheckBytes (x : Visit) : List Byte :=
  put8 ((x.lastCheck.map CheckRecord.outcome).getD .none).value ++
    put8 (reasonValue (x.lastCheck.bind CheckRecord.reason)) ++
    failItemBytes (x.lastCheck.bind CheckRecord.item) ++
    put8 ((x.lastCheck.map CheckRecord.count).getD 0) ++
    putInt16 ((x.lastCheck.map CheckRecord.margin).getD 0) ++
    put16 ((x.clearance.map Clearance.code).getD 0) ++ put32 ((x.clearance.map Clearance.deadline).getD 0) ++
    put32 (x.passMinute.getD 0)

/-- The visit status reply, 53 bytes and 18 for each compartment record (R200). -/
def visitBytes (v : VisitNo) (x : Visit) (cs : List Compartment) : List Byte :=
  visitHeadBytes v x ++ visitPaperBytes x ++ visitCheckBytes x ++ put8 cs.length ++ cs.flatMap compBytes

/-- The status record of the Sweep Unit (R174, R184). -/
def sweepBytes (t : SweepStatus) : List Byte :=
  put8 t.state.value ++ putOpt put8 t.opcode ++
    (match t.scope with
      | none => putBit false ++ put8 0 ++ put8 0
      | some (.single i) => putBit true ++ put8 0 ++ put8 i
      | some .all => putBit true ++ put8 1 ++ put8 0) ++
    putOpt put8 t.position ++ put16 t.examined ++ put16 t.failures ++
    (match t.first with
      | none => putBit false ++ put8 0 ++ put8 0
      | some (i, r) => putBit true ++ put8 i ++ put8 r.value) ++
    putOpt put8 t.last

/-- The identity and the unit label, each with its presence (R207). -/
def identBytes (c : Control) : List Byte := putOpt put32 c.identity ++ putLabel c.label

/-! ### The largest reply an item can need (R192) -/

/-- The largest reply data of an item. -/
def replyRoom : Instr → Nat
  | .logTake _ n | .excTake _ n => 16 + 144 * n
  | .logPeek _ _ n | .excPeek _ _ n => 12 + 144 * n
  | .visitRead _ _ c => if c then 197 else 53
  | _ => 64

/-! ### Rights and run states (R194, R203) -/

/-- Whether a link may send a kind (R194): kinds 1 to 18 are OFFICE's, 19 to 22 LOADING's, 23 to 27 and
VISIT_ABORT GATE's, 28 to 33 AUDIT's, 34 to 38 every link's. -/
def mayUse (l : LinkNo) (k : Nat) : Bool :=
  (34 ≤ k && k ≤ 38) ||
  match l with
  | .office => 1 ≤ k && k ≤ 18
  | .loading => 19 ≤ k && k ≤ 22
  | .gate => (23 ≤ k && k ≤ 27) || k == 16
  | .audit => 28 ≤ k && k ≤ 33

/-- The kinds refused STATE in CONFIG (R203). -/
def configRefuses (k : Nat) : Bool :=
  k == 14 || k == 15 || k == 17 || k == 18 || (19 ≤ k && k ≤ 27)

/-! ### The executing telegram -/

/-- A reply item: kind and item tag echoed, its length, the outcome, and its data (11.6). -/
def replyItem (kind tag : Nat) (c : Code) (data : List Byte) : List Byte :=
  put8 kind ++ put8 tag ++ put16 (5 + data.length) ++ put8 c.value ++ data

/-- Answers MALFORMED to the items at the front that match no kind's form (R191, order 2): they spell no
command of the table. DESIGN CHOICE (log 5): they are answered in the step in which they come up. -/
def refuseFormless (l : LinkNo) : List RawItem → List Byte → List RawItem × List Byte
  | [], reply => ([], reply)
  | i :: is, reply =>
      match decodeItem l i with
      | some _ => (i :: is, reply)
      | none => refuseFormless l is (reply ++ replyItem i.kind.toNat i.tag.toNat .malformed [])

/-- The buffer of a telegram whose item in flight has completed: still EXECUTING with items left, or
REPLYING with the whole reply (R188, R192). -/
def Execution.onward (l : LinkNo) (e : Execution) : Buffer :=
  let next := refuseFormless l e.left e.reply
  if next.1.isEmpty then .replying (putFrame e.number e.count next.2) e.restart
  else .executing { e with left := next.1, reply := next.2, cur := none }

/-- The buffer of an accepted telegram that begins to execute (R190). -/
def beginTelegram (l : LinkNo) (t : Telegram) : Buffer :=
  Execution.onward l
    { number := t.number, count := t.items.length, left := t.items, cur := none, reply := [],
      restart := false }

/-- The telegram executing on a link, in whichever buffer holds it (R188). -/
def Link.executing (k : Link) : Option Execution :=
  match k.bufA, k.bufB with
  | .executing e, _ => some e
  | _, .executing e => some e
  | _, _ => none

/-- Replaces the buffer whose telegram is executing. -/
def Link.putExecuting (k : Link) (b : Buffer) : Link :=
  match k.bufA, k.bufB with
  | .executing _, _ => { k with bufA := b }
  | _, .executing _ => { k with bufB := b }
  | _, _ => k

namespace State

/-- The telegram executing on a link. -/
def executing (s : State) (l : LinkNo) : Option Execution := (s.link l).executing

/-- Replaces the executing buffer of a link. -/
def putExecuting (s : State) (l : LinkNo) (b : Buffer) : State :=
  s.setLink l ((s.link l).putExecuting b)

/-- The course of the item in flight on a link. -/
def job (s : State) (l : LinkNo) : Option Job := (s.executing l).bind fun e => e.cur.map CurItem.job

/-- The item in flight on a link goes on with another course. -/
def setJob (s : State) (l : LinkNo) (j : Job) : State :=
  match s.executing l with
  | some e =>
      match e.cur with
      | some c => s.putExecuting l (.executing { e with cur := some { c with job := j } })
      | none => s
  | none => s

/-- The item in flight on a link completes with an outcome and its reply data (R190, R192, R195). -/
def answer (s : State) (l : LinkNo) (c : Code) (data : List Byte) : State :=
  match s.executing l with
  | some e =>
      match e.cur with
      | some i =>
          s.putExecuting l (Execution.onward l { e with reply := e.reply ++ replyItem i.kind i.tag c data })
      | none => s
  | none => s

/-- A refused item carries no reply data (R195). -/
def refuse (s : State) (l : LinkNo) (c : Code) : State := s.answer l c []

/-- The command that the next item of a link's executing telegram spells, where the link is about to take
one: no item of the telegram is in flight (R190). -/
def nextItem (s : State) (l : LinkNo) : Option Instr :=
  if s.alive then
    match s.executing l with
    | some e =>
        match e.cur, e.left with
        | none, i :: _ => decodeItem l i
        | _, _ => none
    | none => none
  else none

/-- The next item is taken: it leaves the items to come and is in flight (R190). -/
def begin (s : State) (h : Head) (i : Instr) : State :=
  match s.executing h.link with
  | some e =>
      s.putExecuting h.link (.executing { e with left := e.left.tail, cur := some ⟨i.kind, h.tag, .taken⟩ })
  | none => s

/-- The check of an item at the SL (R191): the refusal, or `none` where it is handed on. Order 2 is
`decodeItem`'s. -/
def slRefusal (s : State) (l : LinkNo) (i : Instr) : Option Code :=
  match s.executing l with
  | none => none
  | some e =>
      if e.restart then some .malformed
      else if mayUse l i.kind = false then some .rights
      else if s.cc.run = .config ∧ configRefuses i.kind = true then some .state
      else if Config.replyBytes < 7 + e.reply.length + 5 + replyRoom i then some .malformed
      else none

/-- An item command: where it is the next item of its link, it is taken, checked at the SL, and handed to its
block (R190, R191). Anywhere else the part takes no such item, and nothing changes (log 1). -/
def takeItem (s : State) (h : Head) (i : Instr) (block : State → State) : State :=
  if s.nextItem h.link = some i then
    match s.slRefusal h.link i with
    | some c => (s.begin h i).refuse h.link c
    | none => block (s.begin h i)
  else s

/-- An item in flight presents a request by its link's requester (R190). -/
def ask (s : State) (l : LinkNo) (j : Job) (r : Request) : State :=
  (s.setJob l j).present (linkRequester l) r

end State

/-- A step of the part as an outcome: no rule of the manual stops the part. -/
def done (s : State) : Host.Outcome State Fault Refusal := .next s

end Sys2Proof.Machine
end

