-- ==== Sys2Proof/Machine/Hours.lean ====
section
/-! DEFINITION. The Hours Unit's arithmetic (chapter 7 and section 8.4): the end of a break, effective
figures, the verdict, the commit of a trip, and the admission of a driver. -/

namespace Sys2Proof.Machine

/-! ### Breaks (R117, R118) -/

/-- The case of a break of L minutes with a credit (R117). -/
def breakCase (r : RuleSet) (credit l : Nat) : BreakCase :=
  if r.r ≤ l then .rest
  else if r.f ≤ l ∧ r.b ≤ credit + l then .qualifying
  else if r.f ≤ l then .fragment
  else .tooShort

/-- The length of an entry's open break at N (R117). -/
def Driver.breakLength (d : Driver) (n : Nat) : Nat := n - d.breakStart.getD n

/-- The figures of an entry after a break of L minutes ended at N (R117). -/
def Driver.applyBreak (d : Driver) (r : RuleSet) (n l : Nat) : Driver :=
  match breakCase r d.credit l with
  | .rest => { d with day := 0, cont := 0, credit := 0, spanStart := n, floors := none }
  | .qualifying => { d with cont := 0, credit := 0 }
  | .fragment => { d with credit := d.credit + l }
  | .tooShort => d

/-- BREAK_END on an entry: its open break is ended at N, and the activity becomes DUTY (R117). An entry not
in BREAK is unchanged. -/
def Driver.endBreak (d : Driver) (r : RuleSet) (n : Nat) : Driver :=
  if d.activity = .onBreak then
    { d.applyBreak r n (d.breakLength n) with activity := .duty, breakStart := none }
  else d

/-! ### The verdict (R140 to R142) -/

/-- The smaller and the limits of a margin (R142). -/
def saturateMargin (m : Int) : Int := clampInt (-32768) 32767 m

/-- The used span, clamped to 0 to 65535 (R140, step 2). -/
def Driver.used (d : Driver) (n : Nat) : Nat := min (n - d.spanStart) 65535

/-- The remaining figures of a driver (R140, steps 1 and 2). -/
structure Remaining where
  day  : Int
  week : Int
  cont : Int
  span : Int
  deriving DecidableEq, Repr

def Driver.remaining (d : Driver) (r : RuleSet) (n : Nat) : Remaining :=
  { day := (r.lDay : Int) - d.day, week := (r.lWeek : Int) - d.week, cont := (r.lCont : Int) - d.cont,
    span := (r.lSpan : Int) - d.used n }

/-- Step 8 of R140: the verdict of a driver from a drive margin and a span margin. -/
def stepEight (m : Remaining) (drive span : Int) : Verdict :=
  if drive < 0 then (if m.day ≤ m.week then .dayShort else .weekShort)
  else if span < 0 then .spanShort
  else .hoursOk

/-- The qualifying breaks that a solo trip needs on the road (R121, R140 step 5). -/
def roadBreaks (r : RuleSet) (p : Nat) (remCont : Int) : Nat :=
  if (p : Int) ≤ remCont then 0 else ceilDiv ((p : Int) - remCont).toNat r.lCont

/-- The answer of the Hours Unit to a verdict request: the verdict, the margin, and the failing drivers with
the verdict of each, the driver before the co-driver (R120, R138, R141). -/
structure HoursAnswer where
  verdict : Verdict
  margin  : Int
  fails   : List (FailItem × Verdict)
  deriving DecidableEq, Repr

/-- A driver's failure, if its verdict is one. -/
def failOf (who : FailItem) (v : Verdict) : List (FailItem × Verdict) :=
  if v = .hoursOk then [] else [(who, v)]

/-- The verdict of a solo driver (R140). -/
def soloVerdict (r : RuleSet) (n p q : Nat) (d : Driver) : HoursAnswer :=
  let m := d.remaining r n
  if m.cont ≤ 0 then ⟨.breakDue, saturateMargin m.cont, [(.driver, .breakDue)]⟩
  else
    let t : Int := (q + roadBreaks r p m.cont * r.b : Nat)
    let drive := min m.day m.week - p
    let span := m.span - t
    let v := stepEight m drive span
    ⟨v, saturateMargin (min drive span), failOf .driver v⟩

/-- Half a trip, rounded up (R122, R141). -/
def halfTrip (p : Nat) : Nat := ceilDiv p 2

/-- The verdict of a crew (R141). -/
def crewVerdict (r : RuleSet) (n p q : Nat) (d co : Driver) : HoursAnswer :=
  let h := halfTrip p
  let m := d.remaining r n
  let k := co.remaining r n
  let drive := min m.day m.week - h
  let span := m.span - q
  let codrive := min k.day k.week - h
  let cospan := k.span - q
  let fails := failOf .driver (stepEight m drive span) ++ failOf .coDriver (stepEight k codrive cospan)
  let margin := saturateMargin (min (min drive span) (min codrive cospan))
  match fails with
  | [] => ⟨.hoursOk, margin, []⟩
  | f :: _ => ⟨f.2, margin, fails⟩

/-- The reason that a failing verdict gives (R138). -/
def Verdict.reason : Verdict → Option Reason
  | .hoursOk => none
  | .breakDue => some .breakDue
  | .dayShort => some .dayShort
  | .weekShort => some .weekShort
  | .spanShort => some .spanShort

/-! ### Departure (R121 to R124) -/

/-- The figures of a solo driver after a trip of P minutes (R121). -/
def Driver.commitSolo (d : Driver) (r : RuleSet) (p : Nat) : Driver :=
  let remCont : Int := (r.lCont : Int) - d.cont
  let k := roadBreaks r p remCont
  { d with
    day := min (d.day + p) 2047
    week := min (d.week + p) 8191
    cont := if k = 0 then min (d.cont + p) 2047
      else ((p : Int) - remCont - ((k : Int) - 1) * r.lCont).toNat
    credit := if k = 0 then d.credit else 0 }

/-- The figures of one driver of a crew after a trip of P minutes (R122). -/
def Driver.commitCrew (d : Driver) (r : RuleSet) (p : Nat) : Driver :=
  { d with
    day := min (d.day + halfTrip p) 2047
    week := min (d.week + halfTrip p) 8191
    cont := min (d.cont + halfTrip p) r.lCont }

/-- An entry is unlinked at N (R123 step 4, R124). -/
def Driver.unlink (d : Driver) (n : Nat) : Driver :=
  { d with activity := .absent, lastDeparture := some n, breakStart := none, linked := none }

/-- The floors take the figures that stand before the trip (R123 step 2). -/
def Driver.setFloors (d : Driver) : Driver := { d with floors := some ⟨d.day, d.cont, d.week⟩ }

/-- The commit of one driver (R123). -/
def Driver.depart (d : Driver) (r : RuleSet) (n p : Nat) (crew : Bool) : Driver :=
  let d := (d.endBreak r n).setFloors
  (if crew then d.commitCrew r p else d.commitSolo r p).unlink n

/-! ### Admission (R110 to R114) -/

/-- The declared figures after the clamps of R111, and whether a step changed one. -/
def clampFigures (r : RuleSet) (f : Figures) : Figures × Bool :=
  let day := min f.day 1440
  let week := max (min f.week 8191) day
  let cont := min f.cont day
  let c := min f.c (r.b - 1)
  let u := min f.u 1440
  let g : Figures := ⟨day, cont, week, u, c⟩
  (g, decide (g ≠ f))

/-- What an admission answers for one driver: the entry as admitted, whether a figure was clamped and whether
the declaration was floored (R111 to R113). -/
structure Admission where
  entry   : Driver
  clamped : Bool
  floored : Bool
  deriving DecidableEq, Repr

/-- The admission of a card's declaration at N into the entry that holds the card, if one does (R111 to
R113). -/
def admission (r : RuleSet) (n : Nat) (v : VisitNo) (card : Nat) (f : Figures) (old : Option Driver) :
    Admission :=
  let (g, clamped) := clampFigures r f
  let declared := n - g.u
  let fresh (day cont week start : Nat) (floors : Option Floors) : Driver :=
    { card, activity := .duty, day, cont, week, spanStart := start, credit := g.c, breakStart := none,
      lastDeparture := old.bind Driver.lastDeparture, floors, linked := some v }
  match old with
  | some d =>
      match d.floors with
      | some w =>
          if n - d.spanStart < r.lSpan then
            let start := min declared d.spanStart
            ⟨fresh (max g.day w.day) (max g.cont w.cont) (max g.week w.week) start (some w), clamped,
              decide (g.day < w.day) || decide (g.cont < w.cont) || decide (g.week < w.week) ||
                decide (start < declared)⟩
          else ⟨fresh g.day g.cont g.week declared none, clamped, false⟩
      | none => ⟨fresh g.day g.cont g.week declared none, clamped, false⟩
  | none => ⟨fresh g.day g.cont g.week declared none, clamped, false⟩

/-- Whether an entry is reclaimable at N under a reclaim age, for an item that carries two cards (R110). -/
def Driver.reclaimable (d : Driver) (age n : Nat) (cards : List Nat) : Bool :=
  decide (d.activity = .absent) &&
    (match d.lastDeparture with
      | some t => decide (age ≤ n - t)
      | none => false) &&
    !cards.contains d.card

/-- Whether an entry is available to new cards: empty, or reclaimable (R110). -/
def availableEntry (age n : Nat) (cards : List Nat) : Option Driver → Bool
  | none => true
  | some d => d.reclaimable age n cards

namespace State

/-- The entries of a driver table that a test picks. -/
def entriesWhere (s : State) (p : Option Driver → Bool) : List EntryNo :=
  (List.finRange 256).filter fun e => p (s.driver e)

/-- Whether a card is held by an entry in DUTY or BREAK (R110, check 6). -/
def onSite (s : State) (card : Nat) : Bool :=
  match (s.entryOf card).bind s.driver with
  | some d => decide (d.activity ≠ .absent)
  | none => false

/-- Check 7 of R27: the cards that no entry holds are no more than the entries available (R110). -/
def driversFit (s : State) (cards : List Nat) : Bool :=
  decide ((cards.filter fun c => (s.entryOf c).isNone).length ≤
    (s.entriesWhere (availableEntry s.rules.reclaim s.now cards)).length)

/-- Of the entries listed, the one whose last departure is earliest, the lowest-numbered on a tie (R114). -/
def earliest (s : State) : List EntryNo → Option EntryNo
  | [] => none
  | e :: es =>
      let t (i : EntryNo) : Nat := ((s.driver i).bind Driver.lastDeparture).getD 0
      match s.earliest es with
      | none => some e
      | some f => if t e ≤ t f then some e else some f

/-- The entry that a card is admitted into: its own, else the lowest-numbered empty one, else the reclaimable
one whose last departure is earliest (R113, R114). An entry counts as reclaimable under the rule set as it
stands, or where check 7 of the same ARRIVE found it so (R110). -/
def entryFor (s : State) (w : ArriveWork) (cards : List Nat) (card : Nat) : Option EntryNo :=
  match s.entryOf card with
  | some e => some e
  | none =>
      match s.entriesWhere Option.isNone with
      | e :: _ => some e
      | [] =>
          s.earliest (s.entriesWhere fun
            | none => false
            | some d => d.reclaimable s.rules.reclaim s.now cards || d.reclaimable w.reclaim w.minute cards)

/-- Admits one driver of a visit; the answer is the entry taken and the admission (R111 to R114). -/
def admitDriver (s : State) (w : ArriveWork) (cards : List Nat) (v : VisitNo) (card : Nat) (f : Figures) :
    State × Option (EntryNo × Admission) :=
  match s.entryFor w cards card with
  | none => (s, none)
  | some e =>
      let old := (s.driver e).filter fun d => d.card == card
      let a := admission s.rules s.now v card f old
      (s.setDriver e (some a.entry), some (e, a))

/-- The cards of a visit: the driver's, then the co-driver's (R25). -/
def cardsOf (s : State) (v : VisitNo) : List Nat :=
  match (s.visit v).arrival with
  | none => []
  | some a => a.driver :: a.coDriver.toList

/-- Applies a change to each entry that holds one of a visit's cards and is linked to it, driver first. -/
def changeLinked (s : State) (v : VisitNo) (f : Driver → Driver) : List Nat → State
  | [] => s
  | c :: cs =>
      let s :=
        match s.entryOf c with
        | none => s
        | some e =>
            match s.driver e with
            | some d => if d.linked = some v then s.setDriver e (some (f d)) else s
            | none => s
      s.changeLinked v f cs

/-- TRIP_COMMIT at an accepted GATE_PASSED, with P of the visit's paper (R121 to R123). -/
def commitTrip (s : State) (v : VisitNo) : State :=
  let p := ((s.visit v).paper.map Paper.p).getD 0
  let crew := ((s.visit v).arrival.bind Arrival.coDriver).isSome
  s.changeLinked v (fun d => d.depart s.rules s.now p crew) (s.cardsOf v)

/-- ABORT_RELEASE at an accepted VISIT_ABORT: breaks are ended and no trip is committed (R124). -/
def releaseDrivers (s : State) (v : VisitNo) : State :=
  s.changeLinked v (fun d => (d.endBreak s.rules s.now).unlink s.now) (s.cardsOf v)

/-- The entry of a card with its effective figures at N (R118); an entry of zero figures where no entry holds
the card, which R105 and R30 rule out for the cards of a visit under check. -/
def effective (s : State) (card : Nat) : Driver :=
  match (s.entryOf card).bind s.driver with
  | some d => d.endBreak s.rules s.now
  | none =>
      { card, activity := .absent, day := 0, cont := 0, week := 0, spanStart := s.now, credit := 0,
        breakStart := none, lastDeparture := none, floors := none, linked := none }

/-- The hours verdict of a visit's driver or crew (R120, R140, R141); Q is P where absent. -/
def verdictFor (s : State) (driver : Nat) (coDriver : Option Nat) (p : Nat) (q : Option Nat) : HoursAnswer :=
  match coDriver with
  | none => soloVerdict s.rules s.now p (q.getD p) (s.effective driver)
  | some co => crewVerdict s.rules s.now p (q.getD p) (s.effective driver) (s.effective co)

end State

/-- A break credit of B or more becomes B − 1 (R109, R127). -/
def Driver.capCredit (d : Driver) (b : Nat) : Driver :=
  if b ≤ d.credit then { d with credit := b - 1 } else d

/-- The rule set clamped to its ranges, F after B (R107, R108). -/
def clampRules (r : RuleSet) : RuleSet :=
  let b := clamp 5 120 r.b
  { lDay := clamp 60 1440 r.lDay, lCont := clamp 30 600 r.lCont, lWeek := clamp 600 8191 r.lWeek,
    lSpan := clamp 60 1440 r.lSpan, b, f := clamp 1 b r.f, r := clamp 240 1440 r.r,
    reclaim := clamp 1440 20160 r.reclaim }

end Sys2Proof.Machine
end

