-- ==== Sys2Proof/Machine/Abort.lean ====
section
/-! DEFINITION. The grants of an abort, shared by VISIT_ABORT, by the grants that answer it, and by the end of
an abandoned check or of a paper item it waits for (R38 to R41, R89). -/

namespace Sys2Proof.Machine

/-- The head of an ABORTED record, from the context as it stands from the abort's acceptance on (R41). -/
def abortHead (v : VisitNo) (x : Visit) : Record :=
  .logHead
    { mark := .complete
      seq := none
      outcome := none
      visit := v
      tag := x.tag
      tanker := (x.arrival.map Arrival.tanker).getD 0
      driver := (x.arrival.map Arrival.driver).getD 0
      coDriver := x.arrival.bind Arrival.coDriver
      paperNo := x.paper.map Paper.number
      bay := x.bay
      clearMinute := none
      passMinute := none
      p := (x.paper.map Paper.p).getD 1
      margin := (x.lastCheck.map CheckRecord.margin).getD 0
      checkOutcome := (x.lastCheck.map CheckRecord.outcome).getD .none
      compCount := 0 }

/-- The next request of an abort course after the grants already answered: R40's three for a visit that was
CLEARED, R41's five for any other. `none` after the last. -/
def abortRequest (v : VisitNo) (x : Visit) (c : AbortCourse) : Option Request :=
  if c.fromClearance then
    match c.answered with
    | 0 => some (.stamped v .aborted none)
    | 1 => some (.splice (.comp v) .free)
    | 2 => some (.splice (.paper v) .free)
    | _ => none
  else
    match c.answered with
    | 0 => some (.splice (.comp v) .free)
    | 1 => some (.splice (.paper v) .free)
    | 2 => some (.splice (.pend v) .free)
    | 3 => some (.alloc (.pend v) .bounded (abortHead v x))
    | 4 => some (.stamped v .aborted none)
    | _ => none

namespace State

/-- Whether the abort of a visit is in flight on a link. -/
def aborts (s : State) (v : VisitNo) (l : LinkNo) : Bool :=
  match s.job l with
  | some (.abort w _) => w == v
  | _ => false

/-- Whether a paper item of a visit is in flight on the OFFICE link (R89). -/
def paperItemHeld (s : State) (v : VisitNo) : Bool :=
  match s.job .office with
  | some (.paperOpen w _ _) => w == v
  | some (.paperLines w _ _ _ _ _) => w == v
  | _ => false

/-- Whether the check in flight is of a visit (R39). -/
def checkHeld (s : State) (v : VisitNo) : Bool :=
  match s.dcu.check with
  | some c => c.visit == v
  | none => false

/-- An abort presents its next grant by the requester of its link (R38). -/
def presentAbort (s : State) (v : VisitNo) (l : LinkNo) : State :=
  match (s.visit v).abort with
  | none => s
  | some c =>
      match abortRequest v (s.visit v) c with
      | none => s
      | some r => s.present (linkRequester l) r

/-- An abort presents its first grant, once no paper item of the visit is in flight and the DCU holds no check
of it (R39, R89). -/
def startAbort (s : State) (v : VisitNo) : State :=
  if s.paperItemHeld v || s.checkHeld v then s
  else if s.aborts v .office then s.presentAbort v .office
  else if s.aborts v .gate then s.presentAbort v .gate
  else s

/-- The last grant of an abort is answered: the context becomes FREE and the item ends DONE with the sequence
number drawn (R40, R41). -/
def endAbort (s : State) (l : LinkNo) (v : VisitNo) (seq : Option Nat) : State :=
  (s.freeFrom v .aborting).answer l .done (put32 (seq.getD 0))

/-- The answer of a grant of an abort: the number answered grows by 1, and the next grant is presented or the
abort ends (R25, R40, R41). `seq` is the sequence number drawn so far, by this grant or an earlier one. -/
def abortAnswered (s : State) (l : LinkNo) (v : VisitNo) (seq : Option Nat) : State :=
  match (s.visit v).abort with
  | none => s
  | some c =>
      let c := { c with answered := c.answered + 1 }
      match abortRequest v (s.visit v) c with
      | some r => (s.setVisit v { s.visit v with abort := some c }).ask l (.abort v seq) r
      | none => s.endAbort l v seq

/-- The head allocation of an abort is answered STORE_FULL: the context becomes FREE without a record, and
UNRECORDED is raised on the OFFICE link (R41). -/
def abortUnrecorded (s : State) (l : LinkNo) (v : VisitNo) : State :=
  ((s.freeFrom v .aborting).raise .office .unrecorded).answer l .abortedUnrecorded []

end State

end Sys2Proof.Machine
end

