-- ==== Sys2Proof/Machine/Classes.lean ====
section
/-! DEFINITION. The Class Table's answers (R64 to R66, R69): floors, lookups, coverage and pair tests. -/

namespace Sys2Proof.Machine

namespace ClassTable

/-- The upper limits of the bands, from band 0. -/
def limits (t : ClassTable) : List Nat := t.bands.toList.map Band.upper

/-- The floor of a band: the greatest upper limit among the bands before it, 0 for band 0 (R64). -/
def floor (t : ClassTable) (i : Nat) : Nat := maxOf (t.limits.take i)

/-- The codes a band covers, lowest and highest; `none` for an empty band (R64). -/
def coverage (t : ClassTable) (i : Fin 16) : Option (Nat × Nat) :=
  let upper := (tget t.bands i).upper
  if t.floor i.val < upper then some (t.floor i.val, upper - 1) else none

/-- A lookup: the lowest-numbered band whose upper limit is greater than the code (R64, R65). -/
def lookup (t : ClassTable) (code : Nat) : ClassAnswer :=
  match (List.finRange 16).find? fun i => decide (code < (tget t.bands i).upper) with
  | some i => .band i.val (tget t.bands i)
  | none => .unclassified

/-- The band table covers codes when the highest upper limit is 1 or more (R64). -/
def covers (t : ClassTable) : Bool := decide (1 ≤ maxOf t.limits)

/-- The place of an entry of the segregation matrix. -/
def cell (a b : Fin 16) : Fin 256 := ⟨16 * a.val + b.val, by omega⟩

/-- A pair test of two hazard groups (R69); `true` is MARKED. A group above 15 is in no band. -/
def marked (t : ClassTable) (g h : Nat) : Bool :=
  match fin? 16 g, fin? 16 h with
  | some a, some b => tget t.matrix (cell a b)
  | _, _ => false

/-- Both entries of a pair take a setting (R70). -/
def mark (t : ClassTable) (a b : Fin 16) (m : Bool) : ClassTable :=
  { t with matrix := tset (tset t.matrix (cell a b) m) (cell b a) m }

end ClassTable

end Sys2Proof.Machine
end

