-- ==== Sys2Proof/Machine/Judge.lean ====
section
/-! DEFINITION. What a dispatch check and a PAPER_RECHECK judge (R132 to R139, R181): the walk of a visit's
two chains, the compartment step with its quantity test, the line step, the segregation step, and the
failures kept. Nothing here reads the machine's state: the lookups and pair tests are asked for and their
answers handed in. -/

namespace Sys2Proof.Machine

namespace Judge

/-- A judging at its beginning: nothing gathered and no failure (R131). -/
def start : Judge :=
  { lines := [], done := [], todo := [], pairs := [], reason := none, item := none, count := 0 }

/-- A failure: the first sets the reason and the item, and every one adds 1 to the count, saturating at 255
(R139). -/
def fail (j : Judge) (r : Reason) (item : Option FailItem) : Judge :=
  { j with
    reason := some (j.reason.getD r)
    item := if j.reason.isNone then item else j.item
    count := min (j.count + 1) 255 }

/-- The failure of a step, if it has one. -/
def failIf (j : Judge) (item : FailItem) : Option Reason → Judge
  | none => j
  | some r => j.fail r (some item)

end Judge

/-! ### The paper state step (R133) -/

/-- The reason that a paper state gives in the paper state step (R133, R86). -/
def PaperState.reason : PaperState → Option Reason
  | .complete => Option.none
  | .none | .opened | .short => some .paperIncomplete
  | .truncated => some .paperTruncated

/-- The paper state step: its failure carries no item (R133). -/
def Judge.paperStep (j : Judge) (p : PaperState) : Judge :=
  match p.reason with
  | none => j
  | some r => j.fail r none

/-! ### The compartment step and the quantity test (R134, R135) -/

/-- A compartment is loaded when its net litres are above 0 (R133). -/
def Compartment.loaded (c : Compartment) : Bool := decide (0 < c.net)

/-- The allowed difference of a band for declared litres (R135). -/
def Band.allowed (b : Band) (declared : Nat) : Nat := max b.litres (declared * b.permille / 1000)

/-- The quantity test of a compartment against its one line: the failure, if any, and the declared litres and
the deviation, kept either way (R135). -/
def quantityTest (b : Band) (net declared : Nat) : Option Reason × Option (Nat × Int) :=
  let deviation : Int := (net : Int) - declared
  (if deviation.natAbs ≤ b.allowed declared then none else some .quantityOut, some (declared, deviation))

/-- The compartment step for one loaded compartment: the first case of R134's table that holds. -/
def compartmentCase (lines : List PaperLine) (c : Compartment) :
    ClassAnswer → Option Reason × Option (Nat × Int)
  | .unclassified => (some .unclassified, none)
  | .band _ b =>
      if c.overfull then (some .compartmentOver, none)
      else if b.paperRequired = false then (none, none)
      else
        match lines.filter fun l => l.comp == c.number with
        | [] => (some .lineMissing, none)
        | [l] =>
            if c.product = some l.product then quantityTest b c.net l.declared
            else (some .productMismatch, none)
        | _ => (some .duplicateLine, none)

/-! ### The line step (R136) -/

/-- Whether a line carries the number and the product code of a loaded compartment (R136). -/
def lineMatches (done : List WorkComp) (l : PaperLine) : Bool :=
  done.any fun w => w.comp.loaded && w.comp.number == l.comp && w.comp.product == some l.product

/-- The line step over the lines from a position on (R136). -/
def Judge.lineStep (j : Judge) : Nat → List PaperLine → Judge
  | _, [] => j
  | n, l :: ls =>
      (if lineMatches j.done l then j else j.fail .lineUnmatched (some (.line n))).lineStep (n + 1) ls

/-! ### The segregation step (R137) -/

/-- The loaded compartments of a hazard group, by number, lowest first (R137). -/
def Judge.ofGroup (j : Judge) (g : Nat) : List Nat :=
  j.done.filterMap fun w =>
    match w.cls with
    | some (.band _ b) => if w.comp.loaded && b.group == g then some w.comp.number else none
    | _ => none

/-- Whether a pair of groups is tested (R137). -/
def Judge.pairTested (j : Judge) (g h : Nat) : Bool :=
  if g = h then decide (2 ≤ (j.ofGroup g).length)
  else decide (g < h) && !(j.ofGroup g).isEmpty && !(j.ofGroup h).isEmpty

/-- The pairs to test, in ascending order of g and then of h (R137). -/
def Judge.pairsOf (j : Judge) : List (Nat × Nat) :=
  (List.range 16).flatMap fun g =>
    ((List.range 16).filter fun h => j.pairTested g h).map fun h => (g, h)

/-- The failing compartment of a MARKED pair: the lowest-numbered of group h, or the second-lowest of the
group of a diagonal pair (R137). -/
def Judge.pairItem (j : Judge) (g h : Nat) : Option FailItem :=
  (if g = h then (j.ofGroup g)[1]? else (j.ofGroup h).head?).map FailItem.compartment

/-! ### The course of judging -/

/-- Compartments that are not loaded take no lookup: they pass to those judged (R133). -/
def Judge.settle (j : Judge) : Judge :=
  { j with
    done := j.done ++ (j.todo.takeWhile fun c => !c.loaded).map fun c => WorkComp.mk c none none
    todo := j.todo.dropWhile fun c => !c.loaded }

/-- The next pair test to ask for, where one is left (R137). -/
def Judge.nextPair (j : Judge) : Option Ask := j.pairs.head?.map fun p => .pair p.1 p.2

/-- The judging goes on: the lookup of the next loaded compartment is asked for, and after the last the line
step is taken and the pairs are formed (R134 to R137). `none` where nothing is left to ask. -/
def Judge.onward (j : Judge) : Judge × Option Ask :=
  let j := j.settle
  match j.todo with
  | c :: _ => (j, some (.lookup (c.product.getD 0)))
  | [] =>
      let j := j.lineStep 1 j.lines
      let j := { j with pairs := j.pairsOf }
      (j, j.nextPair)

/-- The answer of a lookup is taken by the compartment that asked for it (R134). -/
def Judge.takeLookup (j : Judge) (a : ClassAnswer) : Judge × Option Ask :=
  match j.todo with
  | [] => j.onward
  | c :: cs =>
      let r := compartmentCase j.lines c a
      let j := j.failIf (.compartment c.number) r.1
      Judge.onward { j with done := j.done ++ [WorkComp.mk c (some a) r.2], todo := cs }

/-- The answer of a pair test is taken (R137). -/
def Judge.takePair (j : Judge) (marked : Bool) : Judge × Option Ask :=
  match j.pairs with
  | [] => (j, none)
  | (g, h) :: ps =>
      let j := if marked then j.fail .segregation (j.pairItem g h) else j
      let j := { j with pairs := ps }
      (j, j.nextPair)

/-- The hours step: one failure for each failing driver (R138). -/
def Judge.hoursStep (j : Judge) : List (FailItem × Verdict) → Judge
  | [] => j
  | (who, v) :: fs => (j.failIf who v.reason).hoursStep fs

/-! ### The walk of a visit's chains (R132, R180) -/

/-- A record read joins the working lines or the working compartments (R132). -/
def Judge.gather (j : Judge) : Record → Judge
  | .paperLine l => { j with lines := j.lines ++ [l] }
  | .compartment c => { j with todo := j.todo ++ [c] }
  | _ => j

/-- What a walk does after the answer to one of its reads. -/
inductive WalkStep where
  | read (j : Judge) (list : ListId) (slot : Option SlotRef)
  | finished (j : Judge)
  | moved
  deriving DecidableEq, Repr

/-- After the last slot of a list: the COMP list follows the PAPER list, and the walk ends after it (R132). -/
def walkNext (v : VisitNo) (j : Judge) : ListId → WalkStep
  | .paper _ => .read j (.comp v) none
  | _ => .finished j

/-- One answer of a walk of a visit's PAPER list and then its COMP list (R132, R180). -/
def walk (v : VisitNo) (list : ListId) (j : Judge) : ReadAnswer → WalkStep
  | .moved => .moved
  | .empty => walkNext v j list
  | .slot _ record none => walkNext v (j.gather record) list
  | .slot _ record (some next) => .read (j.gather record) list (some next)

/-! ### The clearance record (R148, R149) -/

/-- The loaded compartments of a judging, in ascending compartment number (R148). -/
def Judge.loadedComps (j : Judge) : List WorkComp := j.done.filter fun w => w.comp.loaded

/-- A LOG_COMPARTMENT record of a clearance (R149). A passing check has every loaded compartment classified
and with a product. -/
def WorkComp.record (w : WorkComp) : Record :=
  .logComp
    { number := w.comp.number
      product := w.comp.product.getD 0
      group := match w.cls with
        | some (.band _ b) => b.group
        | _ => 0
      net := w.comp.net
      declared := w.quantity.map Prod.fst
      deviation := w.quantity.map Prod.snd
      amended := w.comp.amended }

end Sys2Proof.Machine
end

