-- ==== Sys2Proof/Machine/Check.lean ====
section
/-! DEFINITION. The Dispatch Check Unit (chapter 8): the taking of a visit, its walk and judging, the stale
mark, abandonment, and the building of the clearance record. The meanings of its own steps (CHECK_TAKE,
HOURS_VERDICT) stand at the end; its grants and lookups are answered through the operations here. -/

namespace Sys2Proof.Machine

/-- The margin that an outcome or a clearance carries: that of the hours step, or the 0 of R138. DESIGN CHOICE
(log 26): 0 as well while it is absent, which no run comes to. -/
def Check.marginTaken (c : Check) : Int := c.margin.getD 0

namespace State

def setCheck (s : State) (c : Option Check) : State := s.setDcu { s.dcu with check := c }

/-! ### The end of a check (R152) -/

/-- A check ends in one step: the Visit Controller takes its outcome, check record and any clearance, CHECK_DONE
is raised on the GATE link, and the DCU becomes IDLE (R33, R152). -/
def endCheck (s : State) (c : Check) (r : CheckRecord) (st : VisitState) (cl : Option Clearance) : State :=
  ((s.changeVisit c.visit .checking fun x =>
      { x with state := st, heldOrigin := false, lastCheck := some r, clearance := cl }).setCheck none).raise
    .gate .checkDone

/-- The end of a check whose stale mark is set (R146). -/
def endRetry (s : State) (c : Check) : State := s.endCheck c ⟨.retry, none, none, 0, 0⟩ .loaded none

/-- The end of a check that failed (R143, R152). -/
def endFail (s : State) (c : Check) : State :=
  s.endCheck c ⟨.fail, c.judge.reason, c.judge.item, c.judge.count, c.marginTaken⟩ .held none

/-- The end of a check whose record could not be built (R151). -/
def endLogFull (s : State) (c : Check) : State := s.endCheck c ⟨.logFull, none, none, 0, c.marginTaken⟩ .held none

/-- The release code after one drawn: 65535 goes to 1 (R155). -/
def nextCode (n : Nat) : Nat := if n < Config.maxHalf then n + 1 else 1

/-- The end of a check that passed, at the answer of the completing write: a code is drawn and the deadline is
N plus the release window (R150, R155, R156). -/
def endPass (s : State) (c : Check) : State :=
  let code := nextCode s.logs.codes
  let deadline := min (s.now + s.logs.window) Config.maxWord
  (s.setLogs { s.logs with codes := code }).endCheck c ⟨.pass, none, none, 0, c.marginTaken⟩ .cleared
    (some ⟨code, deadline⟩)

/-! ### Stale mark and abandonment (R144 to R147) -/

/-- Whether a request of the check is presented and not answered (R130). -/
def checkWaits (s : State) (c : Check) : Bool := (s.request .check).isSome || c.ask.isSome

/-- A report reaches the DCU, of one visit or (`none`) of whatever visit is CHECKING: in READ or JUDGE it sets
the stale mark, and the check ends at once where nothing is waiting (R144, R146). -/
def report (s : State) (v : Option VisitNo) : State :=
  match s.dcu.check with
  | none => s
  | some c =>
      if (c.phase = .read ∨ c.phase = .judge) ∧ (v = none ∨ v = some c.visit) then
        if s.checkWaits c then s.setCheck (some { c with stale := true })
        else s.endRetry c
      else s

/-- The DCU reports an abandoned check to the Visit Controller and becomes IDLE; the abort goes on (R39,
R147). -/
def abandoned (s : State) (c : Check) : State := (s.setCheck none).startAbort c.visit

/-- The Visit Controller tells the DCU to abandon the check of a visit (R147). -/
def abandonCheck (s : State) (v : VisitNo) : State :=
  match s.dcu.check with
  | none => s
  | some c =>
      if c.visit = v then
        if s.checkWaits c then s.setCheck (some { c with phase := .abandon, abandon := true })
        else s.setCheck none
      else s

/-! ### Building the clearance (R148 to R151) -/

/-- The head of a clearance record as it is allocated (R148). -/
def clearanceHead (c : Check) : Record :=
  .logHead
    { mark := .building
      seq := none
      outcome := none
      visit := c.visit
      tag := c.tag
      tanker := c.tanker
      driver := c.driver
      coDriver := c.coDriver
      paperNo := c.paper.map Paper.number
      bay := c.bay
      clearMinute := none
      passMinute := none
      p := (c.paper.map Paper.p).getD 1
      margin := c.marginTaken
      checkOutcome := .pass
      compCount := c.judge.loadedComps.length }

/-- CHECK presents an open allocation onto the PENDING list of its visit (R148). -/
def checkPlaces (s : State) (c : Check) (r : Record) : State :=
  s.present .check (.alloc (.pend c.visit) .opened r)

/-- BUILD begins with the allocation of the head (R148). -/
def beginBuild (s : State) (c : Check) : State :=
  let c := { c with phase := .build, ask := none, left := c.judge.loadedComps }
  (s.setCheck (some c)).checkPlaces c (clearanceHead c)

/-- The outcome is decided: FAIL ends the check, and a check without failures goes on to BUILD (R143). -/
def decideOutcome (s : State) (c : Check) : State :=
  if 0 < c.judge.count then s.endFail c else s.beginBuild c

/-- An allocation of BUILD is answered DONE: the next compartment is placed, or the head is completed with N
as the write is formed (R148, R150). -/
def buildGoesOn (s : State) (c : Check) (ref : SlotRef) : State :=
  let build := c.build ++ [ref]
  match c.left with
  | w :: ws =>
      let c := { c with build, left := ws }
      (s.setCheck (some c)).checkPlaces c w.record
  | [] =>
      (s.setCheck (some { c with build })).present .check
        (.write (.pend c.visit) (build.headD ref) (.complete s.now))

/-- A refused allocation of BUILD: UNWIND returns what was placed (R151). -/
def beginUnwind (s : State) (c : Check) : State :=
  (s.setCheck (some { c with phase := .unwind })).present .check (.splice (.pend c.visit) .free)

/-! ### Judging (R133 to R139) -/

/-- The judging of a check goes on: to the question asked, else to the hours step where a paper was opened,
else with the margin 0 to the decision (R138, R143). -/
def judgeGoesOn (s : State) (c : Check) (j : Judge × Option Ask) : State :=
  let c := { c with phase := .judge, judge := j.1 }
  match j.2 with
  | some a => s.setCheck (some { c with ask := some a })
  | none =>
      if c.paperState = .none then s.decideOutcome { c with ask := none, margin := some 0 }
      else s.setCheck (some { c with ask := some .verdict })

/-- JUDGE begins with the paper state step (R133). -/
def enterJudge (s : State) (c : Check) (j : Judge) : State :=
  s.judgeGoesOn c (j.paperStep c.paperState).onward

/-! ### Answers taken by the DCU -/

/-- An answer to the DCU: in ABANDON it is discarded and the check is reported abandoned (R147). -/
def checkTakes (s : State) (f : Check → State) : State :=
  match s.dcu.check with
  | none => s
  | some c => if c.phase = .abandon then s.abandoned c else f c

/-- An answer in READ or JUDGE: with the stale mark set it is discarded and the check ends RETRY (R146). -/
def checkJudges (s : State) (f : Check → State) : State :=
  s.checkTakes fun c => if c.stale then s.endRetry c else f c

/-- The answer of a read of the walk (R132). A read answered MOVED with both marks clear is the fault
`Fault.neverTaken` of SLOT_READ. -/
def checkRead (s : State) (list : ListId) (a : ReadAnswer) : State :=
  s.checkJudges fun c =>
    match walk c.visit list c.judge a with
    | .read j l r => (s.setCheck (some { c with judge := j })).present .check (.read l r)
    | .finished j => s.enterJudge c j
    | .moved => s

/-- Whether a read of the dispatch check is answered MOVED with neither mark set: R132 says that such an answer
is never taken. -/
def checkReadLost (s : State) (a : ReadAnswer) : Bool :=
  match s.dcu.check with
  | none => false
  | some c => decide (c.phase ≠ .abandon) && !c.stale && decide (a = .moved)

/-- The answer of a lookup (R134). -/
def checkLookup (s : State) (a : ClassAnswer) : State :=
  s.checkJudges fun c => s.judgeGoesOn c (c.judge.takeLookup a)

/-- The answer of a pair test (R137). -/
def checkPair (s : State) (marked : Bool) : State :=
  s.checkJudges fun c => s.judgeGoesOn c (c.judge.takePair marked)

/-- The answer of the verdict request: the hours step is taken and the outcome is decided (R138, R143). -/
def checkVerdict (s : State) (a : HoursAnswer) : State :=
  s.checkJudges fun c =>
    s.decideOutcome
      { c with
        judge := c.judge.hoursStep a.fails, verdict := some a.verdict, margin := some a.margin,
        party := a.fails.head?.map Prod.fst, ask := none }

/-- The answer of an allocation of BUILD: the slot placed, or STORE_FULL (R148, R151). -/
def checkAlloc (s : State) : Option SlotRef → State
  | some ref => s.checkTakes fun c => s.buildGoesOn c ref
  | none => s.checkTakes fun c => s.beginUnwind c

/-- The answer of the completing write. MOVED cannot come about (log 20); it is taken as a refused build. -/
def checkWrite (s : State) (written : Bool) : State :=
  s.checkTakes fun c => if written then s.endPass c else s.beginUnwind c

/-- The answer of UNWIND's return (R151). -/
def checkSplice (s : State) : State := s.checkTakes fun c => s.endLogFull c

/-- The question that the DCU has put to the Class Table or the Hours Unit, where one is due (R130). -/
def checkAsk (s : State) : Option Ask := if s.alive then s.dcu.check.bind Check.ask else none

/-- The question is answered: it no longer waits. -/
def checkAnswered (s : State) : State :=
  match s.dcu.check with
  | none => s
  | some c => s.setCheck (some { c with ask := none })

end State

/-- The working record that the DCU sets up when it takes a visit (R131). -/
def Check.taken (v : VisitNo) (x : Visit) : Check :=
  { phase := .read
    visit := v
    tag := x.tag
    tanker := (x.arrival.map Arrival.tanker).getD 0
    driver := (x.arrival.map Arrival.driver).getD 0
    coDriver := x.arrival.bind Arrival.coDriver
    compCount := (x.arrival.map Arrival.compCount).getD 0
    bay := x.bay
    paperState := x.paperState
    paper := x.paper
    judge := Judge.start
    verdict := none
    margin := none
    party := none
    stale := false
    abandon := false
    ask := none
    build := []
    left := [] }

/-- CHECK_TAKE (R131, R132): IDLE with a visit at the head of the queue, the DCU takes it and presents the read
of the head of its PAPER list. Otherwise nothing is due (log 1). -/
def execCheckTake (s : State) : Host.Outcome State Fault Refusal :=
  done <|
    match s.alive, s.dcu.check, s.dcu.queue with
    | true, none, v :: queue =>
        ((s.changeVisit v .queued fun x => { x with state := .checking }).setDcu
          { queue, check := some (Check.taken v (s.visit v)) }).present .check (.read (.paper v) none)
    | _, _, _ => s

/-- HOURS_VERDICT (R120, R138, R143): the Hours Unit answers the verdict request of the check in flight. -/
def execHoursVerdict (s : State) : Host.Outcome State Fault Refusal :=
  done <|
    match s.checkAsk, s.dcu.check with
    | some .verdict, some c =>
        s.checkAnswered.checkVerdict
          (s.verdictFor c.driver c.coDriver ((c.paper.map Paper.p).getD 0) (c.paper.bind Paper.q))
    | _, _ => s

end Sys2Proof.Machine
end

