-- ==== Sys2Proof/Machine/Setup.lean ====
section
/-! DEFINITION. The setup items of the OFFICE link (chapters 4, 7 and 12) and the items of every link that read
or clear the link's flags and read the identity (R197, R207). Each `on…` operation is the part of the item that
its block carries out once the SL has handed it on (R191, order 6). -/

namespace Sys2Proof.Machine

namespace State

/-- A write of the rule set or the class table under LOCKED is refused LOCKED, after its form is checked
(R67, R206). -/
def unlessLocked (s : State) (l : LinkNo) (wellFormed : Bool) (f : State) : State :=
  if wellFormed = false then s.refuse l .malformed
  else if s.cc.locked then s.refuse l .locked
  else f

/-- The outcome of an item that was or was not clamped. -/
def doneOr (clamped : Bool) : Code := if clamped then .doneClamped else .done

/-! ### RULES_LOAD (R108, R109) -/

/-- The rule set in force, with every break credit capped below the new B (R109, R127). -/
def withRules (s : State) (r : RuleSet) : State :=
  { s with rules := r, drivers := s.drivers.map fun d => d.map fun d => d.capCredit r.b }

def onRulesLoad (s : State) (l : LinkNo) (r : RuleSet) : State :=
  s.unlessLocked l true
    (((s.withRules (clampRules r)).report none).answer l (doneOr (decide (clampRules r ≠ r)))
      (rulesBytes (clampRules r)))

/-! ### BAND_LOAD, SEG_LOAD, CHUNK_SIZE (R67, R68, R70 to R72) -/

/-- The class table after an accepted write, reported to the DCU (R72). -/
def writeClasses (s : State) (t : ClassTable) : State := (s.setClasses t).report none

/-- A band as the BAND_LOAD reply carries it: its fields as stored, and its coverage (R68). -/
def bandBytes (t : ClassTable) (i : Fin 16) : List Byte :=
  let b := tget t.bands i
  put16 b.upper ++ put8 b.group ++ put8 b.permille ++ put16 b.litres ++ putBit b.paperRequired ++
    (match t.coverage i with
      | none => putBit false ++ put16 0 ++ put16 0
      | some (lo, hi) => putBit true ++ put16 lo ++ put16 hi)

def onBandLoad (s : State) (l : LinkNo) (band upper group permille litres : Nat) (paperRequired : Bool) :
    State :=
  match fin? 16 band with
  | none => s.refuse l .malformed
  | some i =>
      let b : Band := ⟨upper, group, min permille 100, min litres 1000, paperRequired⟩
      let t := { s.classes with bands := tset s.classes.bands i b }
      s.unlessLocked l (decide (upper ≤ 10000) && decide (group ≤ 15))
        ((s.writeClasses t).answer l (doneOr (decide (100 < permille) || decide (1000 < litres)))
          (bandBytes t i))

/-- The settings of SEG_LOAD, numbered as R70 lists them: 0 MARKED, 1 CLEAR (log 15). -/
def segSetting? : Nat → Option Bool
  | 0 => some true
  | 1 => some false
  | _ => none

def onSegLoad (s : State) (l : LinkNo) (a b setting : Nat) : State :=
  match fin? 16 a, fin? 16 b, segSetting? setting with
  | some i, some j, some m =>
      s.unlessLocked l true
        ((s.writeClasses (s.classes.mark i j m)).answer l .done (put8 a ++ put8 b ++ put8 setting))
  | _, _, _ => s.refuse l .malformed

def onChunkSize (s : State) (l : LinkNo) (size : Nat) : State :=
  s.unlessLocked l (decide (1 ≤ size) && decide (size ≤ 8))
    ((s.writeClasses { s.classes with chunk := size }).answer l .done (put8 size))

/-! ### SERVICE_LOAD (R19) -/

/-- The entries as requesters; `none` where one names no requester. -/
def serviceEntries : List Nat → Option (List Requester)
  | [] => some []
  | n :: ns =>
      match requester? n, serviceEntries ns with
      | some p, some ps => some (p :: ps)
      | _, _ => none

/-- Whether a list names every requester (R19). -/
def namesAll (ps : List Requester) : Bool := Requester.all.all fun p => ps.contains p

def onServiceLoad (s : State) (l : LinkNo) (entries : List Nat) : State :=
  if entries.length < 1 ∨ 32 < entries.length then s.refuse l .malformed
  else
    match serviceEntries entries with
    | none => s.refuse l .malformed
    | some ps =>
        if namesAll ps then s.ask l .serviceLoad (.serviceTable ps)
        else s.refuse l .tableInvalid

/-! ### SETTINGS (R205) -/

/-- Whether a SETTINGS is of the form that R205 asks. -/
def settingsValid (reserve window threshold : Option Nat) : Bool :=
  (reserve.isSome || window.isSome || threshold.isSome) &&
    (match window with
      | some w => decide (1 ≤ w) && decide (w ≤ 60)
      | none => true) &&
    (match threshold with
      | some t => decide (1 ≤ t)
      | none => true)

def onSettings (s : State) (l : LinkNo) (reserve window threshold : Option Nat) : State :=
  if settingsValid reserve window threshold then
    let r := reserve.getD s.reserve
    let w := window.getD s.logs.window
    let t := threshold.getD s.logs.threshold
    let s := ({ s with reserve := r }).setLogs { s.logs with window := w, threshold := t }
    s.follow.answer l .done (put8 r ++ put8 w ++ put8 t)
  else s.refuse l .malformed

/-! ### IDENT_WRITE, IDENT_READ (R207) -/

/-- A field already present is left as it is (R207). -/
def keepPresent {α : Type} (held carried : Option α) : Option α :=
  match held with
  | some x => some x
  | none => carried

/-- Whether a carried field is written, one for written and one for carried. -/
def writes {α : Type} (held carried : Option α) : Nat := if held.isNone && carried.isSome then 1 else 0
def carries {α : Type} (carried : Option α) : Nat := if carried.isSome then 1 else 0

def onIdentWrite (s : State) (l : LinkNo) (identity : Option Nat) (label : Option (List Byte)) : State :=
  if (identity.isNone && label.isNone) || decide (identity = some 0) then s.refuse l .malformed
  else
    let written := writes s.cc.identity identity + writes s.cc.label label
    let carried := carries identity + carries label
    let code : Code := if written = carried then .done else if written = 0 then .ignored else .donePartial
    let cc := { s.cc with
      identity := keepPresent s.cc.identity identity, label := keepPresent s.cc.label label }
    (s.setCc cc).answer l code (identBytes cc)

def onIdentRead (s : State) (l : LinkNo) : State :=
  s.answer l .done
    (identBytes s.cc ++ put8 s.cc.run.value ++ putBit s.cc.locked ++ putBit s.cc.keep)

/-! ### START, LOCK, KEEP, RESTART (R193, R204, R206) -/

def onStart (s : State) (l : LinkNo) : State :=
  if s.cc.run = .run then s.answer l .already []
  else if s.classes.covers then (s.setCc { s.cc with run := .run }).answer l .done []
  else s.refuse l .tableInvalid

def onLock (s : State) (l : LinkNo) : State :=
  if s.cc.locked then s.answer l .already []
  else if s.classes.covers then (s.setCc { s.cc with locked := true }).answer l .done []
  else s.refuse l .tableInvalid

def onKeep (s : State) (l : LinkNo) : State :=
  if s.cc.keep then s.answer l .already []
  else (s.setCc { s.cc with keep := true }).answer l .done []

/-- A RESTART answered DONE marks its telegram: no later item of it executes, and its reply ends in a soft
reset (R191 order 1, R193). -/
def onRestart (s : State) (l : LinkNo) : State :=
  match s.executing l with
  | none => s
  | some e => (s.putExecuting l (.executing { e with restart := true })).answer l .done []

/-! ### NOTE_READ, NOTE_CLEAR (R197) -/

def onNoteRead (s : State) (l : LinkNo) : State :=
  s.answer l .done (put16 (s.link l).flags.toNat ++ put16 (s.link l).mask.toNat)

/-- A link after a NOTE_CLEAR: the named event flags are clear, and a mask carried is stored without the
positions the link does not carry (R197). -/
def clearNotes (l : LinkNo) (k : Link) (clear : FlagWord) (mask : Option FlagWord) : Link :=
  { k with
    flags := k.flags &&& ~~~(clear &&& ~~~conditionBits)
    mask := match mask with
      | none => k.mask
      | some m => m &&& carried l }

def onNoteClear (s : State) (l : LinkNo) (clear : FlagWord) (mask : Option FlagWord) : State :=
  let k := clearNotes l (s.link l) clear mask
  (s.setLink l k).answer l .done
    (put16 (s.link l).flags.toNat ++ put16 k.flags.toNat ++ put16 k.mask.toNat)

end State

/-! ### The meanings -/

/-- RULES_LOAD (R108, R109). -/
def execRulesLoad (h : Head) (r : RuleSet) (s : State) : Host.Outcome State Fault Refusal :=
  done (s.takeItem h (.rulesLoad h r) fun s => s.onRulesLoad h.link r)

/-- BAND_LOAD (R67, R68). -/
def execBandLoad (h : Head) (band upper group permille litres : Nat) (paperRequired : Bool) (s : State) :
    Host.Outcome State Fault Refusal :=
  done (s.takeItem h (.bandLoad h band upper group permille litres paperRequired) fun s =>
    s.onBandLoad h.link band upper group permille litres paperRequired)

/-- SEG_LOAD (R67, R70). -/
def execSegLoad (h : Head) (a b setting : Nat) (s : State) : Host.Outcome State Fault Refusal :=
  done (s.takeItem h (.segLoad h a b setting) fun s => s.onSegLoad h.link a b setting)

/-- CHUNK_SIZE (R67, R71). -/
def execChunkSize (h : Head) (size : Nat) (s : State) : Host.Outcome State Fault Refusal :=
  done (s.takeItem h (.chunkSize h size) fun s => s.onChunkSize h.link size)

/-- SERVICE_LOAD (R19): the table changes at P0's grant (SERVICE_TABLE_GRANT). -/
def execServiceLoad (h : Head) (entries : List Nat) (s : State) : Host.Outcome State Fault Refusal :=
  done (s.takeItem h (.serviceLoad h entries) fun s => s.onServiceLoad h.link entries)

/-- SETTINGS (R205). -/
def execSettings (h : Head) (reserve window threshold : Option Nat) (s : State) :
    Host.Outcome State Fault Refusal :=
  done (s.takeItem h (.settings h reserve window threshold) fun s =>
    s.onSettings h.link reserve window threshold)

/-- IDENT_WRITE (R207). -/
def execIdentWrite (h : Head) (identity : Option Nat) (label : Option (List Byte)) (s : State) :
    Host.Outcome State Fault Refusal :=
  done (s.takeItem h (.identWrite h identity label) fun s => s.onIdentWrite h.link identity label)

/-- START (R204). -/
def execStart (h : Head) (s : State) : Host.Outcome State Fault Refusal :=
  done (s.takeItem h (.start h) fun s => s.onStart h.link)

/-- LOCK (R206). -/
def execLock (h : Head) (s : State) : Host.Outcome State Fault Refusal :=
  done (s.takeItem h (.lock h) fun s => s.onLock h.link)

/-- KEEP (R206). -/
def execKeep (h : Head) (s : State) : Host.Outcome State Fault Refusal :=
  done (s.takeItem h (.keep h) fun s => s.onKeep h.link)

/-- RESTART (R193): the soft reset comes at REPLY_SENT. -/
def execRestart (h : Head) (s : State) : Host.Outcome State Fault Refusal :=
  done (s.takeItem h (.restart h) fun s => s.onRestart h.link)

/-- NOTE_READ (R197). -/
def execNoteRead (h : Head) (s : State) : Host.Outcome State Fault Refusal :=
  done (s.takeItem h (.noteRead h) fun s => s.onNoteRead h.link)

/-- NOTE_CLEAR (R197). -/
def execNoteClear (h : Head) (clear : FlagWord) (mask : Option FlagWord) (s : State) :
    Host.Outcome State Fault Refusal :=
  done (s.takeItem h (.noteClear h clear mask) fun s => s.onNoteClear h.link clear mask)

/-- IDENT_READ (R207). -/
def execIdentRead (h : Head) (s : State) : Host.Outcome State Fault Refusal :=
  done (s.takeItem h (.identRead h) fun s => s.onIdentRead h.link)

end Sys2Proof.Machine
end

