-- ==== Sys2Proof/Machine/Time.lean ====
section
/-! DEFINITION. The Time Base (chapter 6): SET_TIME, ADJUST_TIME, the pulses of TBASE and the minute end. -/

namespace Sys2Proof.Machine

namespace TimeBase

/-- The minute count at a minute end (R94). -/
def counted (t : TimeBase) : TimeBase :=
  if t.minutes < Config.maxWord then { t with minutes := t.minutes + 1 } else t

/-- The minute that begins, shaped by the pending slew (R98). -/
def shaped (t : TimeBase) : TimeBase :=
  if 0 < t.slew then { t with seconds := 1, hold := false, slew := t.slew - 1 }
  else if t.slew = 0 then { t with seconds := 0, hold := false }
  else { t with seconds := 0, hold := true, slew := t.slew + 1 }

/-- A pulse that is no minute end, in SET (R93). -/
def counts (t : TimeBase) : TimeBase :=
  if t.hold then { t with hold := false } else { t with seconds := t.seconds + 1 }

/-- Whether the next pulse is a minute end: SET, no hold mark, and the counter at 59 (R93). -/
def atEnd (t : TimeBase) : Bool := t.set && !t.hold && decide (59 ≤ t.seconds)

end TimeBase

namespace State

/-- A minute end (R93, R94, R98). The minute event, where there is one, goes to the Visit Controller, which is
not there to be told in BACKUP or while RST is asserted (R103, R104). -/
def minuteEnds (s : State) : State :=
  let t := s.time.counted
  let events :=
    if s.alive && decide (s.time.minutes < Config.maxWord) then t.events ++ [t.minutes] else t.events
  s.setTime { t.shaped with events }

/-- Whether the Time Base is supplied: it takes pulses in MAIN and BACKUP alike, and through a line reset
(R103, R104). -/
def timeAlive (s : State) : Bool := decide (s.power ≠ .lost)

/-- One pulse of TBASE (R93). -/
def pulse (s : State) : State :=
  if s.timeAlive && s.time.set then
    if s.time.atEnd then s.minuteEnds else s.setTime s.time.counts
  else s

def onSetTime (s : State) (l : LinkNo) (minute seconds : Nat) : State :=
  if 59 < seconds then s.refuse l .malformed
  else if s.time.set then s.answer l .ignored (timeReport s.time)
  else
    let t := { s.time with set := true, minutes := minute, seconds, hold := false }
    (s.setTime t).answer l .done (timeReport t)

def onAdjustTime (s : State) (l : LinkNo) (offset : Int) : State :=
  if s.time.set then
    let slew := clampInt (-Config.maxSlew) Config.maxSlew offset
    let t := { s.time with slew }
    (s.setTime t).answer l (doneOr (decide (slew ≠ offset))) (timeReport t)
  else s.refuse l .clockUnset

end State

/-- SET_TIME (R97). -/
def execSetTime (h : Head) (minute seconds : Nat) (s : State) : Host.Outcome State Fault Refusal :=
  done (s.takeItem h (.setTime h minute seconds) fun s => s.onSetTime h.link minute seconds)

/-- ADJUST_TIME (R98). -/
def execAdjustTime (h : Head) (offset : Int) (s : State) : Host.Outcome State Fault Refusal :=
  done (s.takeItem h (.adjustTime h offset) fun s => s.onAdjustTime h.link offset)

/-- TBASE_PULSE (R93): every pulse, the minute end that a pulse passing 59 is included (log 11). -/
def execTbasePulse (s : State) : Host.Outcome State Fault Refusal := done s.pulse

/-- MINUTE_END (R93, R94, R98): the pulse that passes 59; not due at any other count (log 1). -/
def execMinuteEnd (s : State) : Host.Outcome State Fault Refusal :=
  done (if s.timeAlive && s.time.atEnd then s.minuteEnds else s)

end Sys2Proof.Machine
end

