-- ==== Sys2Proof/Machine/Papers.lean ====
section
/-! DEFINITION. Items that address a visit (R26), and the Paper Assembler (chapter 5): PAPER_OPEN,
PAPER_LINES and the answers to their grants. -/

namespace Sys2Proof.Machine

/-- The visit states in which every addressing item but GATE_PASSED is refused BUSY, with the arrival mark
(R26, order 3). -/
def Visit.busy (x : Visit) : Bool :=
  x.arrivalMark || x.state == .releasing || x.state == .lapsing || x.state == .aborting

namespace State

/-- Orders 1 to 3 of R26: the form of the item, the tag, and whether the visit is busy. -/
def addressed (s : State) (l : LinkNo) (wellFormed : Bool) (visit tag : Nat) (f : VisitNo → State) : State :=
  match fin? 48 visit with
  | none => s.refuse l .malformed
  | some v =>
      if wellFormed = false then s.refuse l .malformed
      else if (s.visit v).tag.toNat ≠ tag then s.refuse l .staleVisit
      else if (s.visit v).busy then s.refuse l .busy
      else f v

/-! ### PAPER_OPEN (R77 to R79) -/

/-- The paper fields as PAPER_OPEN stores them, Q clamped after P, and whether one was clamped (R78). -/
def paperFields (number p : Nat) (q expected : Option Nat) : Paper × Bool :=
  let x : Paper :=
    ⟨number, clamp 1 1440 p, q.map (clamp (clamp 1 1440 p) 1440), expected.map (clamp 1 16)⟩
  (x, decide (x ≠ ⟨number, p, q, expected⟩))

/-- The reply data of PAPER_OPEN: the visit and the fields as stored (R78). -/
def paperBytes (v : VisitNo) (x : Option Paper) : List Byte :=
  put8 v.val ++ put32 ((x.map Paper.number).getD 0) ++ put16 ((x.map Paper.p).getD 0) ++
    putOpt put16 (x.bind Paper.q) ++ putOpt put8 (x.bind Paper.expected)

/-- Whether the check of a visit has passed its deciding step (R77, order 6). -/
def decided (s : State) (v : VisitNo) : Bool :=
  match s.dcu.check with
  | some c => c.visit == v && (c.phase == .build || c.phase == .unwind)
  | none => false

/-- Whether a visit's state takes a paper item (R36, R77 order 4, R80 order 4). -/
def paperRefused (x : Visit) : Bool := x.state == .free || x.state == .cleared

/-- An accepted PAPER_OPEN sets the paper fields in one step, reported to the DCU (R78, R88). -/
def openPaper (s : State) (v : VisitNo) (x : Paper) : State :=
  (s.setVisit v { s.visit v with paperState := .opened, paper := some x, accepted := 0 }).report (some v)

def onPaperOpen (s : State) (l : LinkNo) (visit tag number p : Nat) (q expected : Option Nat)
    (replace : Bool) : State :=
  s.addressed l true visit tag fun v =>
    if paperRefused (s.visit v) then s.refuse l .state
    else if (s.visit v).paperState ≠ .none ∧ replace = false then s.refuse l .paperPresent
    else if (s.visit v).state = .checking ∧ s.decided v = true then s.refuse l .busy
    else
      let x := paperFields number p q expected
      if (s.visit v).paperState = .none then
        (s.openPaper v x.1).answer l (doneOr x.2) (paperBytes v (some x.1))
      else (s.openPaper v x.1).ask l (.paperOpen v (s.visit v).tag x.2) (.splice (.paper v) .free)

/-- Whether a context still holds the tag of a paper item and is not ABORTING (R89). -/
def paperStands (s : State) (v : VisitNo) (tag : Tag) : Bool :=
  decide ((s.visit v).tag = tag) && decide ((s.visit v).state ≠ .aborting)

/-- A paper item cut short by an abort is refused BUSY, and the abort presents its first grant (R89). -/
def endPaperItem (s : State) (l : LinkNo) (v : VisitNo) (data : List Byte) : State :=
  (s.answer l .busy data).startAbort v

/-- The return of a PAPER_OPEN with REPLACE is answered (R79, R89). -/
def paperReturned (s : State) (l : LinkNo) (v : VisitNo) (tag : Tag) (clamped : Bool) : State :=
  if s.paperStands v tag then s.answer l (doneOr clamped) (paperBytes v (s.visit v).paper)
  else s.endPaperItem l v []

/-! ### PAPER_LINES (R80 to R85) -/

/-- The lines that a paper may hold (R81). -/
def paperLimit (x : Option Paper) : Nat := (x.bind Paper.expected).getD Config.paperLines

/-- The paper state after a chunk (R83). -/
def paperAfter (x : Visit) (dropped : Nat) (short : Bool) : PaperState :=
  if 0 < dropped then .truncated
  else if x.paper.bind Paper.expected = some x.accepted then .complete
  else if short then
    if (x.paper.bind Paper.expected).isSome then .short else .complete
  else .opened

/-- The reply data of PAPER_LINES (R84). -/
def linesBytes (placed dropped accepted : Nat) (p : PaperState) : List Byte :=
  put8 placed ++ put8 dropped ++ put8 accepted ++ put8 p.value

/-- The chunk's lines are all placed: the paper state is decided, and a paper that leaves OPEN raises
PAPER_CLOSED (R83, R85, R88). -/
def decidePaper (s : State) (v : VisitNo) (dropped : Nat) (short : Bool) : State :=
  let p := paperAfter (s.visit v) dropped short
  let s := (s.setVisit v { s.visit v with paperState := p }).report (some v)
  if p = .opened then s else s.raise .office .paperClosed

/-- The end of a PAPER_LINES whose lines were all placed (R84). -/
def endLines (s : State) (l : LinkNo) (v : VisitNo) (placed dropped : Nat) (short : Bool) : State :=
  let s := s.decidePaper v dropped short
  s.answer l (if 0 < dropped then .donePartial else .done)
    (linesBytes placed dropped (s.visit v).accepted (s.visit v).paperState)

/-- The PA presents the allocation of a line (R81). -/
def placeLine (s : State) (l : LinkNo) (v : VisitNo) (tag : Tag) (line : PaperLine) (left : List PaperLine)
    (placed dropped : Nat) (short : Bool) : State :=
  s.ask l (.paperLines v tag left placed dropped short) (.alloc (.paper v) .bounded (.paperLine line))

def onPaperLines (s : State) (l : LinkNo) (visit tag : Nat) (lines : List PaperLine) : State :=
  s.addressed l (decide (lines.length ≤ 8) && lines.all fun x => decide (x.product ≤ 9999)) visit tag
    fun v =>
      let x := s.visit v
      if paperRefused x then s.refuse l .state
      else if x.paperState ≠ .opened then s.refuse l .state
      else if s.classes.chunk < lines.length then s.refuse l .malformed
      else
        let placed := lines.take (paperLimit x.paper - x.accepted)
        let dropped := lines.length - placed.length
        let short := decide (lines.length < s.classes.chunk)
        match placed with
        | [] => s.endLines l v 0 dropped short
        | line :: left => s.placeLine l v x.tag line left 0 dropped short

/-- An allocation of PAPER_LINES is answered DONE: the accepted line count grows and the next line follows
(R81), unless an abort has cut the item short (R89). -/
def linePlaced (s : State) (l : LinkNo) (v : VisitNo) (tag : Tag) (left : List PaperLine)
    (placed dropped : Nat) (short : Bool) : State :=
  if s.paperStands v tag then
    let s := (s.setVisit v { s.visit v with accepted := (s.visit v).accepted + 1 }).report (some v)
    match left with
    | [] => s.endLines l v (placed + 1) dropped short
    | line :: left => s.placeLine l v tag line left (placed + 1) dropped short
  else s.endPaperItem l v (put8 (placed + 1))

/-- An allocation of PAPER_LINES is answered STORE_FULL: the paper stays OPEN (R82, R84). -/
def lineRefused (s : State) (l : LinkNo) (v : VisitNo) (tag : Tag) (placed : Nat) : State :=
  if s.paperStands v tag then
    s.answer l .storeFull (linesBytes placed 0 (s.visit v).accepted .opened)
  else s.endPaperItem l v (put8 placed)

end State

/-- PAPER_OPEN (R77 to R79). -/
def execPaperOpen (h : Head) (visit tag number p : Nat) (q expected : Option Nat) (replace : Bool)
    (s : State) : Host.Outcome State Fault Refusal :=
  done (s.takeItem h (.paperOpen h visit tag number p q expected replace) fun s =>
    s.onPaperOpen h.link visit tag number p q expected replace)

/-- PAPER_LINES (R80 to R85). -/
def execPaperLines (h : Head) (visit tag : Nat) (lines : List PaperLine) (s : State) :
    Host.Outcome State Fault Refusal :=
  done (s.takeItem h (.paperLines h visit tag lines) fun s => s.onPaperLines h.link visit tag lines)

end Sys2Proof.Machine
end

