-- ==== Sys2Proof/Machine/Bays.lean ====
section
/-! DEFINITION. Bay windows and fill reports (chapter 3): BAY_ASSIGN, BAY_RELEASE, FILL, LOAD_END and the
answers to their grants. -/

namespace Sys2Proof.Machine

namespace State

/-! ### BAY_ASSIGN (R48 to R50) -/

/-- The binding of a window and the visit's side of it, in one step (R31, R49). -/
def bindBay (s : State) (b : BayIx) (v : VisitNo) : State :=
  let x := s.visit v
  (s.setWindow b (some
    { visit := v, tag := x.tag, span := (x.arrival.map Arrival.compCount).getD 0, access := .read,
      map := [] })).setVisit v
    { x with state := .assigned, bay := some b, heldOrigin := x.state == .held }

def onBayAssign (s : State) (l : LinkNo) (visit tag bay : Nat) : State :=
  s.addressed l (bay? bay).isSome visit tag fun v =>
    match bay? bay with
    | none => s.refuse l .malformed
    | some b =>
        if (s.visit v).state ≠ .arrived ∧ (s.visit v).state ≠ .held then s.refuse l .state
        else if (s.window b).isSome then s.refuse l .bayBusy
        else (s.bindBay b v).ask l (.bayRead b v (s.visit v).tag) (.read (.comp v) none)

/-- Whether a window still holds a visit and tag (R50, R54). -/
def windowHolds (s : State) (b : BayIx) (v : VisitNo) (tag : Tag) : Bool :=
  match s.window b with
  | some w => w.visit == v && w.tag == tag
  | none => false

/-- A window with its fields changed, where it is valid. -/
def changeWindow (s : State) (b : BayIx) (f : Window → Window) : State :=
  s.setWindow b ((s.window b).map f)

/-- The preparation of a session is complete: the window takes FILL access and the item ends (R49). -/
def bayReady (s : State) (l : LinkNo) (b : BayIx) : State :=
  (s.changeWindow b fun w => { w with access := .fill }).answer l .done
    (put8 (bayNumber b) ++ put8 (((s.window b).map Window.span).getD 0))

/-- The answer of a preparation's read: the write to the slot just read is presented (R49, R50). -/
def bayRead (s : State) (l : LinkNo) (b : BayIx) (v : VisitNo) (tag : Tag) (a : ReadAnswer) : State :=
  if s.windowHolds b v tag then
    match a with
    | .slot ref (.compartment c) next =>
        s.ask l (.bayWrite b v tag c.number ref next) (.write (.comp v) ref (.prepare c.net))
    | .empty => s.bayReady l b
    | _ => s.refuse l .busy
  else s.refuse l .busy

/-- The answer of a preparation's write: the slot enters the compartment map, and the next slot is read or the
preparation is complete (R49, R50). -/
def bayWritten (s : State) (l : LinkNo) (b : BayIx) (v : VisitNo) (tag : Tag) (comp : Nat) (ref : SlotRef)
    (next : Option SlotRef) (written : Bool) : State :=
  if s.windowHolds b v tag && written then
    let s := s.changeWindow b fun w => { w with map := w.map ++ [⟨comp, ref⟩] }
    match next with
    | some r => s.ask l (.bayRead b v tag) (.read (.comp v) (some r))
    | none => s.bayReady l b
  else s.refuse l .busy

/-! ### BAY_RELEASE, LOAD_END (R51, R52) -/

/-- The two items that name a valid window's bay: their form, and the window (R51, R52). -/
def atBay (s : State) (l : LinkNo) (bay : Nat) (f : BayIx → Window → State) : State :=
  match bay? bay with
  | none => s.refuse l .malformed
  | some b =>
      match s.window b with
      | none => s.refuse l .notMapped
      | some w => f b w

/-- A window is unbound, and its visit leaves the bay (R51, R52). -/
def leaveBay (s : State) (b : BayIx) (v : VisitNo) (st : VisitState) : State :=
  (s.setWindow b none).setVisit v { s.visit v with state := st, heldOrigin := false }

def onBayRelease (s : State) (l : LinkNo) (bay : Nat) : State :=
  s.atBay l bay fun b w =>
    if (s.visit w.visit).state = .assigned then
      (s.leaveBay b w.visit (if (s.visit w.visit).heldOrigin then .held else .arrived)).answer l .done []
    else s.refuse l .state

def onLoadEnd (s : State) (l : LinkNo) (bay : Nat) : State :=
  s.atBay l bay fun b w =>
    if (s.visit w.visit).state = .loading then (s.leaveBay b w.visit .loaded).answer l .done []
    else s.refuse l .state

/-! ### FILL (R53 to R58) -/

/-- A FILL refused NOT_MAPPED raises MAP_MISS on the LOADING link (R53 to R55). -/
def notMapped (s : State) (l : LinkNo) : State := (s.raise .loading .mapMiss).refuse l .notMapped

/-- The slot that a FILL resolves to through its window (R53). -/
def resolve (s : State) (b : BayIx) (comp : Nat) : Option (Window × SlotRef) :=
  match s.window b with
  | none => none
  | some w =>
      if w.access = .fill ∧ 1 ≤ comp ∧ comp ≤ w.span then
        (w.map.find? fun m => m.comp == comp).map fun m => (w, m.slot)
      else none

def onFill (s : State) (l : LinkNo) (bay comp product figure : Nat) : State :=
  match bay? bay with
  | none => s.refuse l .malformed
  | some b =>
      if 9999 < product then s.refuse l .malformed
      else
        match s.resolve b comp with
        | none => s.notMapped l
        | some (w, slot) =>
            s.ask l (.fillRead b w.visit w.tag slot product figure) (.read (.comp w.visit) (some slot))

/-- The product check (R54): a loaded compartment takes no other product. -/
def mixed (c : Compartment) (product : Nat) : Bool :=
  match c.product with
  | some p => decide (p ≠ product) && decide (0 < c.net)
  | none => false

/-- The net litres after a fill (R55). -/
def fillNet (c : Compartment) (figure : Nat) : Nat := min (c.base + figure) Config.maxHalf

/-- OVER after a fill (R56). -/
def fillOver (c : Compartment) (net : Nat) : Bool :=
  match c.capacity with
  | some cap => decide (cap < net)
  | none => false

/-- AMENDED after a fill (R57). -/
def fillAmended (c : Compartment) (figure : Nat) : Bool :=
  c.amended ||
    match c.figure with
    | some f => decide (figure < f)
    | none => false

/-- The answer of a FILL's read: the product check, and the write worked out from the record (R54, R55). -/
def fillRead (s : State) (l : LinkNo) (b : BayIx) (v : VisitNo) (tag : Tag) (slot : SlotRef)
    (product figure : Nat) (a : ReadAnswer) : State :=
  match a with
  | .slot _ (.compartment c) _ =>
      if s.windowHolds b v tag = false then s.notMapped l
      else if mixed c product then s.refuse l .mixedProduct
      else
        let net := fillNet c figure
        let overfull := fillOver c net
        let amended := fillAmended c figure
        s.ask l (.fillWrite v net overfull amended)
          (.write (.comp v) slot
            (.fill net product (min (c.fills + 1) Config.maxHalf) figure overfull amended))
  | _ => s.notMapped l

/-- The answer of a FILL's write: an ASSIGNED visit becomes LOADING (R55, R58). -/
def fillWritten (s : State) (l : LinkNo) (v : VisitNo) (net : Nat) (overfull amended written : Bool) : State :=
  if written then
    (s.changeVisit v .assigned fun x => { x with state := .loading }).answer l .done
      (put16 net ++ putBit overfull ++ putBit amended)
  else s.notMapped l

/-- The window bound to a visit, unbound at an abort (R38, R47). -/
def unbind (s : State) (v : VisitNo) : State :=
  { s with windows := s.windows.map fun w => w.filter fun w => w.visit != v }

end State

/-- BAY_ASSIGN (R48 to R50). -/
def execBayAssign (h : Head) (visit tag bay : Nat) (s : State) : Host.Outcome State Fault Refusal :=
  done (s.takeItem h (.bayAssign h visit tag bay) fun s => s.onBayAssign h.link visit tag bay)

/-- BAY_RELEASE (R51). -/
def execBayRelease (h : Head) (bay : Nat) (s : State) : Host.Outcome State Fault Refusal :=
  done (s.takeItem h (.bayRelease h bay) fun s => s.onBayRelease h.link bay)

/-- FILL (R53 to R58). -/
def execFill (h : Head) (bay comp product figure : Nat) (s : State) : Host.Outcome State Fault Refusal :=
  done (s.takeItem h (.fill h bay comp product figure) fun s => s.onFill h.link bay comp product figure)

/-- LOAD_END (R52). -/
def execLoadEnd (h : Head) (bay : Nat) (s : State) : Host.Outcome State Fault Refusal :=
  done (s.takeItem h (.loadEnd h bay) fun s => s.onLoadEnd h.link bay)

end Sys2Proof.Machine
end

