-- ==== Sys2Proof/Machine/Visits.lean ====
section
/-! DEFINITION. The Visit Controller (chapters 2 and 9): ARRIVE, DISPATCH, GATE_PASSED, VISIT_ABORT,
VISIT_READ, the minute event, and the answers to their grants. -/

namespace Sys2Proof.Machine

/-- A COMPARTMENT record at its allocation (R2, R28). -/
def freshCompartment (number : Nat) (capacity : Option Nat) : Record :=
  .compartment
    { number, capacity, product := none, net := 0, base := 0, figure := none, fills := 0, lastFill := none,
      overfull := false, amended := false }

namespace State

/-! ### ARRIVE (R27 to R30, R110 to R115) -/

/-- The cards of an ARRIVE, the driver's first. -/
def arriveCards (driver : Nat) (co : Option CoDriver) : List Nat := driver :: (co.map CoDriver.card).toList

/-- Check 3 of R27, with capacities of 1 litre or more (log 14). -/
def arriveFormed (tanker driver : Nat) (co : Option CoDriver) (capacities : List (Option Nat)) : Bool :=
  decide (1 ≤ capacities.length) && decide (capacities.length ≤ 8) && decide (tanker ≠ 0) &&
    decide (driver ≠ 0) && decide (co.map CoDriver.card ≠ some 0) &&
    capacities.all fun c => decide (c ≠ some 0)

/-- Checks 2 to 8 of R27, in order; check 1 is the SL's (R191). -/
def arriveRefusal (s : State) (tanker driver : Nat) (co : Option CoDriver) (capacities : List (Option Nat)) :
    Option Code :=
  let cards := arriveCards driver co
  if s.time.set = false then some .clockUnset
  else if arriveFormed tanker driver co capacities = false then some .malformed
  else if co.map CoDriver.card = some driver then some .malformed
  else if s.freeVisit = none then some .visitsFull
  else if cards.any s.onSite then some .driverOnSite
  else if s.driversFit cards = false then some .driversFull
  else if s.store.freeCount < s.reserve + capacities.length then some .storeFull
  else none

/-- The claim of a context (R25, R26, R28). -/
def claim (s : State) (v : VisitNo) (tanker driver : Nat) (co : Option Nat) (n : Nat) : State :=
  s.setVisit v
    { Visit.freed ((s.visit v).tag + 1) with
      state := .arrived
      arrivalMark := true
      arrival := some ⟨tanker, driver, co, n, s.now⟩ }

/-- The bounded allocation of a compartment of an ARRIVE (R28). -/
def placeCompartment (s : State) (l : LinkNo) (v : VisitNo) (w : ArriveWork) (capacity : Option Nat) : State :=
  s.ask l (.arrive v w) (.alloc (.comp v) .bounded (freshCompartment w.number capacity))

def onArrive (s : State) (l : LinkNo) (tanker driver : Nat) (figures : Figures) (co : Option CoDriver)
    (capacities : List (Option Nat)) : State :=
  match s.arriveRefusal tanker driver co capacities, s.freeVisit, capacities with
  | some c, _, _ => s.refuse l c
  | none, some v, capacity :: left =>
      (s.claim v tanker driver (co.map CoDriver.card) capacities.length).placeCompartment l v
        ⟨figures, co, left, 1, s.now, s.rules.reclaim⟩ capacity
  | none, _, _ => s.refuse l .malformed

/-- What the ARRIVE reply carries for one driver: the entry taken and whether its declaration was floored
(R115). -/
def admissionBytes : Option (EntryNo × Admission) → List Byte
  | some (e, a) => put8 e.val ++ putBit a.floored
  | none => put8 0 ++ putBit false

def admissionClamped : Option (EntryNo × Admission) → Bool
  | some (_, a) => a.clamped || a.floored
  | none => false

def admissionFloored : Option (EntryNo × Admission) → Bool
  | some (_, a) => a.floored
  | none => false

/-- The admission of a visit's co-driver, where it has one. -/
def admitCo (s : State) (w : ArriveWork) (cards : List Nat) (v : VisitNo) :
    State × Option (EntryNo × Admission) :=
  match w.coDriver with
  | none => (s, none)
  | some c => s.admitDriver w cards v c.card c.figures

/-- The completion of an arrival in one step: the drivers are admitted, DECLARATION_LOW is set for a floored
declaration, and the arrival mark is cleared (R30, R112, R115). -/
def completeArrival (s : State) (l : LinkNo) (v : VisitNo) (w : ArriveWork) : State :=
  let cards := s.cardsOf v
  let one := s.admitDriver w cards v (cards.headD 0) w.figures
  let two := one.1.admitCo w cards v
  let s := two.1
  let x := s.visit v
  let floored := admissionFloored one.2 || admissionFloored two.2
  (s.setVisit v { x with arrivalMark := false, declarationLow := x.declarationLow || floored }).answer l
    (if admissionClamped one.2 || admissionClamped two.2 then .doneClamped else .done)
    (put8 v.val ++ put16 x.tag.toNat ++ admissionBytes one.2 ++ putBit w.coDriver.isSome ++
      admissionBytes two.2)

/-- An allocation of an ARRIVE is answered DONE (R28, R30). -/
def compartmentPlaced (s : State) (l : LinkNo) (v : VisitNo) (w : ArriveWork) : State :=
  match w.left with
  | capacity :: left => s.placeCompartment l v { w with left, number := w.number + 1 } capacity
  | [] => s.completeArrival l v w

/-- An allocation of an ARRIVE is refused: the arrival is undone (R29). -/
def undoArrival (s : State) (l : LinkNo) (v : VisitNo) : State :=
  s.ask l (.arriveUndo v) (.splice (.comp v) .free)

/-- The return of an undone arrival is answered: the context becomes FREE with its new tag (R29). -/
def arrivalUndone (s : State) (l : LinkNo) (v : VisitNo) : State := (s.freeFrom v .arrived).refuse l .storeFull

/-! ### DISPATCH (R32, R128) -/

/-- The place of a visit in the check queue, 1 at the head (R128). -/
def placeIn (v : VisitNo) : List VisitNo → Nat
  | [] => 0
  | w :: ws => if w = v then 1 else placeIn v ws + 1

/-- The visit joins the tail of the check queue (R32, R128). -/
def joinQueue (s : State) (v : VisitNo) (held : Bool) : State :=
  (s.setVisit v { s.visit v with state := .queued, heldOrigin := held, lapsed := false }).setDcu
    { s.dcu with queue := s.dcu.queue ++ [v] }

def onDispatch (s : State) (l : LinkNo) (visit tag : Nat) : State :=
  s.addressed l true visit tag fun v =>
    match (s.visit v).state with
    | .loaded | .held =>
        if s.dcu.queue.length < Config.queuePlaces then
          (s.joinQueue v (decide ((s.visit v).state = .held))).answer l .done
            (put8 (s.dcu.queue.length + 1))
        else s.refuse l .queueFull
    | .queued => s.answer l .already (put8 (placeIn v s.dcu.queue))
    | .checking => s.answer l .already (put8 0)
    | _ => s.refuse l .state

/-! ### GATE_PASSED (R34, R157, R158) -/

/-- The refusal of a GATE_PASSED by the visit it addresses, after the tag (R157, orders 3 to 7). -/
def passRefusal (x : Visit) (code : Nat) : Option Code :=
  if x.arrivalMark || x.state == .releasing || x.state == .aborting then some .busy
  else if x.state = .lapsing then some .late
  else if x.state = .loaded ∧ x.lapsed = true then some .late
  else if x.state ≠ .cleared then some .state
  else if code = 0 ∨ x.clearance.map Clearance.code ≠ some code then some .badCode
  else none

/-- An accepted pass: the visit becomes RELEASING with its pass minute, and the trip is committed (R34). -/
def passAccepted (s : State) (v : VisitNo) : State :=
  (s.commitTrip v).setVisit v { s.visit v with state := .releasing, passMinute := some s.now }

def onGatePassed (s : State) (l : LinkNo) (visit tag code : Nat) : State :=
  match fin? 48 visit with
  | none => s.refuse l .malformed
  | some v =>
      if (s.visit v).tag.toNat ≠ tag then s.refuse l .staleVisit
      else
        match passRefusal (s.visit v) code with
        | some c => s.refuse l c
        | none => (s.passAccepted v).ask l (.release v) (.splice (.comp v) .free)

/-- A return of a release is answered: PAPER follows COMP, and the stamped splice follows PAPER (R34). -/
def releaseReturned (s : State) (l : LinkNo) (v : VisitNo) : ListId → State
  | .comp _ => s.ask l (.release v) (.splice (.paper v) .free)
  | _ => s.ask l (.release v) (.stamped v .released (s.visit v).passMinute)

/-- The stamped splice of a release is answered: the context becomes FREE and the item ends (R34, R158). -/
def endRelease (s : State) (l : LinkNo) (v : VisitNo) (seq : Option Nat) : State :=
  (s.freeFrom v .releasing).answer l .done (put32 (seq.getD 0) ++ put32 ((s.visit v).passMinute.getD 0))

/-! ### VISIT_ABORT (R38) -/

/-- The acceptance of an abort, before any grant: the visit becomes ABORTING with its course; its window is
unbound, it leaves the queue, its check is abandoned, its clearance is void, and its drivers are released
(R38, R124). -/
def abortAccepted (s : State) (v : VisitNo) : State :=
  let x := s.visit v
  let s := s.releaseDrivers v
  let s := s.setVisit v
    { x with state := .aborting, clearance := none, abort := some ⟨x.state == .cleared, 0⟩ }
  let s := s.unbind v
  let s := s.setDcu { s.dcu with queue := s.dcu.queue.filter fun w => w != v }
  s.abandonCheck v

def onVisitAbort (s : State) (l : LinkNo) (visit tag : Nat) : State :=
  s.addressed l true visit tag fun v =>
    if (s.visit v).state = .free then s.refuse l .state
    else ((s.abortAccepted v).setJob l (.abort v none)).startAbort v

/-! ### VISIT_READ (R37) -/

def onVisitRead (s : State) (l : LinkNo) (visit : Nat) (compartments : Bool) : State :=
  match fin? 48 visit with
  | none => s.refuse l .malformed
  | some v =>
      if compartments && (s.visit v).state != .free then
        s.ask l (.visitRead v (s.visit v) []) (.read (.comp v) none)
      else s.answer l .done (visitBytes v (s.visit v) [])

/-- A COMPARTMENT record read joins those of the reply. -/
def gatherCompartment (got : List Compartment) : Record → List Compartment
  | .compartment c => got ++ [c]
  | _ => got

/-- The answer of a read of VISIT_READ's walk (R37). -/
def visitReadAnswered (s : State) (l : LinkNo) (v : VisitNo) (x : Visit) (got : List Compartment) :
    ReadAnswer → State
  | .moved => s.answer l .donePartial (visitBytes v x got)
  | .empty => s.answer l .done (visitBytes v x got)
  | .slot _ record none => s.answer l .done (visitBytes v x (gatherCompartment got record))
  | .slot _ record (some next) =>
      s.ask l (.visitRead v x (gatherCompartment got record)) (.read (.comp v) (some next))

/-! ### Minute events and lapses (R35, R160) -/

/-- Whether a visit lapses at a minute event with count N (R35). -/
def lapses (n : Nat) (x : Visit) : Bool :=
  x.state == .cleared &&
    match x.clearance with
    | some c => decide (c.deadline ≤ n)
    | none => false

/-- A visit made LAPSING: its release code and deadline are void (R35). -/
def lapseVisit (n : Nat) (x : Visit) : Visit :=
  if lapses n x then { x with state := .lapsing, clearance := none } else x

/-- EXPIRY presents the stamped splice of the head of its lapse list, where it presents none yet (R160). -/
def expiryPresents (s : State) : State :=
  match s.logs.lapses, s.request .expiry with
  | v :: _, none => s.present .expiry (.stamped v .lapsed none)
  | _, _ => s

/-- A minute event at the Visit Controller (R35, R95, R160). -/
def minuteEvent (s : State) (n : Nat) : State :=
  let fallen := (List.finRange 48).filter fun v => lapses n (s.visit v)
  (({ s with visits := s.visits.map (lapseVisit n) }).setLogs
    { s.logs with lapses := s.logs.lapses ++ fallen }).expiryPresents

/-- The stamped splice of a lapse is answered: the visit becomes LOADED with LAPSED set, CLEARANCE_LAPSED is
raised, and EXPIRY takes the next head (R35, R160). -/
def lapsed (s : State) (v : VisitNo) : State :=
  (((s.changeVisit v .lapsing fun x => { x with state := .loaded, lapsed := true }).setLogs
    { s.logs with lapses := s.logs.lapses.tail }).raise .gate .clearanceLapsed).expiryPresents

end State

/-- ARRIVE (R27 to R30). -/
def execArrive (h : Head) (tanker driver : Nat) (figures : Figures) (co : Option CoDriver)
    (capacities : List (Option Nat)) (s : State) : Host.Outcome State Fault Refusal :=
  done (s.takeItem h (.arrive h tanker driver figures co capacities) fun s =>
    s.onArrive h.link tanker driver figures co capacities)

/-- DISPATCH (R32, R128). -/
def execDispatch (h : Head) (visit tag : Nat) (s : State) : Host.Outcome State Fault Refusal :=
  done (s.takeItem h (.dispatch h visit tag) fun s => s.onDispatch h.link visit tag)

/-- GATE_PASSED (R157, R158). -/
def execGatePassed (h : Head) (visit tag code : Nat) (s : State) : Host.Outcome State Fault Refusal :=
  done (s.takeItem h (.gatePassed h visit tag code) fun s => s.onGatePassed h.link visit tag code)

/-- VISIT_ABORT (R38). -/
def execVisitAbort (h : Head) (visit tag : Nat) (s : State) : Host.Outcome State Fault Refusal :=
  done (s.takeItem h (.visitAbort h visit tag) fun s => s.onVisitAbort h.link visit tag)

/-- VISIT_READ (R37). -/
def execVisitRead (h : Head) (visit : Nat) (compartments : Bool) (s : State) :
    Host.Outcome State Fault Refusal :=
  done (s.takeItem h (.visitRead h visit compartments) fun s => s.onVisitRead h.link visit compartments)

/-- MINUTE_EVENT (R35, R95): the oldest minute event not yet taken, taken at the Visit Controller. -/
def execMinuteEvent (s : State) : Host.Outcome State Fault Refusal :=
  done <|
    match s.alive, s.time.events with
    | true, n :: events => (s.setTime { s.time with events }).minuteEvent n
    | _, _ => s

end Sys2Proof.Machine
end

