-- ==== Sys2Proof/Machine/Drivers.lean ====
section
/-! DEFINITION. The Hours Unit's own items (chapter 7): BREAK_START, BREAK_END and DRIVER_READ. -/

namespace Sys2Proof.Machine

/-- The figures of an entry as the BREAK_END reply carries them (R117). -/
def figureBytes (d : Driver) : List Byte :=
  put16 d.day ++ put16 d.cont ++ put16 d.week ++ put32 d.spanStart ++ put8 d.credit

/-- The effective figures of an entry and the case of its break, as the DRIVER_READ reply carries them: day drive,
continuous drive, break credit and span start, in R118's order, and the case (R125). -/
def effectiveBytes (d : Driver) (k : BreakCase) : List Byte :=
  put16 d.day ++ put16 d.cont ++ put8 d.credit ++ put32 d.spanStart ++ put8 k.value

/-- Every field of a held entry, each optional one with its presence (R125). DESIGN CHOICE (log 30): the three
floors, which are present or absent together (R105), stand behind one presence byte. -/
def driverBytes (d : Driver) : List Byte :=
  put32 d.card ++ put8 d.activity.value ++ figureBytes d ++ putOpt put32 d.breakStart ++
    putOpt put32 d.lastDeparture ++
    (match d.floors with
      | none => putBit false ++ put16 0 ++ put16 0 ++ put16 0
      | some w => putBit true ++ put16 w.day ++ put16 w.cont ++ put16 w.week) ++
    putOpt put8 (d.linked.map Fin.val)

/-- The bytes of an absent group of fields (R198). -/
def zeros (n : Nat) : List Byte := List.replicate n 0

namespace State

/-- An entry changed by a break item, reported to the DCU with its visit (R106, R119). -/
def breakItem (s : State) (e : EntryNo) (d : Driver) : State :=
  match d.linked with
  | some v => (s.setDriver e (some d)).report (some v)
  | none => s.setDriver e (some d)

/-- The held entry of a card of a break item: the form, and an entry on site (R116). -/
def atCard (s : State) (l : LinkNo) (card : Nat) (f : EntryNo → Driver → State) : State :=
  if card = 0 then s.refuse l .malformed
  else
    match s.entryOf card with
    | none => s.refuse l .state
    | some e =>
        match s.driver e with
        | none => s.refuse l .state
        | some d => if d.activity = .absent then s.refuse l .state else f e d

def onBreakStart (s : State) (l : LinkNo) (card : Nat) : State :=
  s.atCard l card fun e d =>
    if d.activity = .onBreak then s.answer l .already (put32 (d.breakStart.getD 0))
    else
      (s.breakItem e { d with activity := .onBreak, breakStart := some s.now }).answer l .done (put32 s.now)

def onBreakEnd (s : State) (l : LinkNo) (card : Nat) : State :=
  s.atCard l card fun e d =>
    if d.activity = .onBreak then
      let n := d.breakLength s.now
      let d' := d.endBreak s.rules s.now
      (s.breakItem e d').answer l .done
        (put8 (breakCase s.rules d.credit n).value ++ put32 n ++ figureBytes d')
    else s.answer l .already []

/-- The reply of DRIVER_READ: the entry number, whether it is empty, its fields, N, and the effective figures
and case of an open break (R118, R125). DESIGN CHOICE (log 30): for a card that no entry holds the entry number is
absent and the empty mark is set; and the effective figures and the case stand behind one presence byte. -/
def driverReport (s : State) (e : Option EntryNo) : List Byte :=
  let d := e.bind s.driver
  putOpt put8 (e.map Fin.val) ++ putBit d.isNone ++
    (match d with
      | none => zeros 35
      | some d => driverBytes d) ++
    put32 s.now ++
    (match d with
      | none => putBit false ++ zeros 10
      | some d =>
          if d.activity = .onBreak then
            putBit true ++ effectiveBytes (d.endBreak s.rules s.now)
              (breakCase s.rules d.credit (d.breakLength s.now))
          else putBit false ++ zeros 10)

def onDriverRead (s : State) (l : LinkNo) (selector value : Nat) : State :=
  match selector with
  | 0 => if value = 0 then s.refuse l .malformed else s.answer l .done (s.driverReport (s.entryOf value))
  | 1 =>
      match fin? 256 value with
      | none => s.refuse l .malformed
      | some e => s.answer l .done (s.driverReport (some e))
  | _ => s.refuse l .malformed

end State

/-- BREAK_START (R116). -/
def execBreakStart (h : Head) (card : Nat) (s : State) : Host.Outcome State Fault Refusal :=
  done (s.takeItem h (.breakStart h card) fun s => s.onBreakStart h.link card)

/-- BREAK_END (R117). -/
def execBreakEnd (h : Head) (card : Nat) (s : State) : Host.Outcome State Fault Refusal :=
  done (s.takeItem h (.breakEnd h card) fun s => s.onBreakEnd h.link card)

/-- DRIVER_READ (R125). -/
def execDriverRead (h : Head) (selector value : Nat) (s : State) : Host.Outcome State Fault Refusal :=
  done (s.takeItem h (.driverRead h selector value) fun s => s.onDriverRead h.link selector value)

end Sys2Proof.Machine
end

