-- ==== Sys2Proof/Machine/Logs.lean ====
section
/-! DEFINITION. Taking and reading the logs (R165 to R169), and STORE_READ (R22). -/

namespace Sys2Proof.Machine

/-- The least sequence number of a record that a walk gathers is `Gather.start`: a record read whole is
gathered at or above it and passed over below it (R165, R168). -/
def Gather.whole (g : Gather) (r : LogRecord) : Gather :=
  if g.start ≤ r.head.seq.getD 0 then
    { g with got := g.got ++ [r], slots := g.slots + 1 + r.comps.length, cur := none }
  else { g with cur := none }

/-- A slot read by the walk: a head begins a record, a compartment joins it, and a record is whole with as many
compartments as its head gives (R165). -/
def Gather.take (g : Gather) : Record → Gather
  | .logHead h =>
      if h.compCount = 0 then g.whole ⟨h, []⟩ else { g with cur := some ⟨h, []⟩ }
  | .logComp c =>
      match g.cur with
      | none => g
      | some r =>
          let r : LogRecord := ⟨r.head, r.comps ++ [c]⟩
          if r.head.compCount ≤ r.comps.length then g.whole r else { g with cur := some r }
  | _ => g

/-- What a walk of a log does after an answer. -/
inductive LogWalk where
  | read (g : Gather) (slot : SlotRef)
  | stop (g : Gather)
  | moved (g : Gather)
  deriving DecidableEq, Repr

/-- One answer of a walk of a log: it stops with the records asked for, at END, or on an empty list
(R165, R168). -/
def Gather.walk (g : Gather) : ReadAnswer → LogWalk
  | .moved => .moved g
  | .empty => .stop g
  | .slot _ record next =>
      let g := g.take record
      if g.want ≤ g.got.length then .stop g
      else
        match next with
        | none => .stop g
        | some r => .read g r

/-- The take record of a take that returned records (R167). -/
def Gather.takeRecord (g : Gather) : Option TakeRecord :=
  match g.got.head?, g.got.getLast? with
  | some f, some l => some ⟨f.head.seq.getD 0, l.head.seq.getD 0, g.got.length, g.slots⟩
  | _, _ => none

/-- The take record of a log (R167). -/
def LogUnit.takeOf (u : LogUnit) : LogId → Option TakeRecord
  | .log => u.takeLog
  | .exception => u.takeExc

def LogUnit.setTake (u : LogUnit) (l : LogId) (t : Option TakeRecord) : LogUnit :=
  match l with
  | .log => { u with takeLog := t }
  | .exception => { u with takeExc := t }

namespace State

/-- A count outside 1 to 8 is refused; otherwise the walk reads the head of the log (R165, R168). -/
def beginWalk (s : State) (l : LinkNo) (g : Gather) (job : Gather → Job) : State :=
  if g.want < 1 ∨ 8 < g.want then s.refuse l .malformed
  else s.ask l (job g) (.read g.log.list none)

/-- A walk that begins at the head of a log. -/
def gather (which : LogId) (want start : Nat) : Gather :=
  { log := which, want, start, got := [], cur := none, slots := 0 }

/-- The reply of a take (R165, R199). -/
def takeReply (s : State) (l : LinkNo) (g : Gather) : State :=
  s.answer l .done (takeBytes s.cc.identity (s.logs.takeOf g.log) g.got)

/-- The answer of a read of a take: a walk that stops with records presents the head splice of exactly their
slots, and one without ends the item (R165). A read of a take is never answered MOVED. -/
def takeRead (s : State) (l : LinkNo) (g : Gather) (a : ReadAnswer) : State :=
  match g.walk a with
  | .read g r => s.ask l (.take g) (.read g.log.list (some r))
  | .stop g | .moved g =>
      if g.got.isEmpty then s.takeReply l g else s.ask l (.take g) (.headSplice g.log g.slots)

/-- The head splice of a take is answered: the take record is set in its grant and the item ends (R167). -/
def taken (s : State) (l : LinkNo) (g : Gather) : State :=
  (s.setLogs (s.logs.setTake g.log g.takeRecord)).takeReply l g

/-- The reply of a peek (R168, R199). -/
def peekReply (s : State) (l : LinkNo) (c : Code) (g : Gather) : State :=
  s.answer l c (peekBytes (s.logs.takeOf g.log) g.got)

/-- The answer of a read of a peek; MOVED ends it DONE_PARTIAL with the records gathered whole (R168, R169). -/
def peekRead (s : State) (l : LinkNo) (g : Gather) (a : ReadAnswer) : State :=
  match g.walk a with
  | .read g r => s.ask l (.peek g) (.read g.log.list (some r))
  | .stop g => s.peekReply l .done g
  | .moved g => s.peekReply l .donePartial g

/-! ### STORE_READ (R22) -/

/-- Begins the read of the counts; a visit number is checked where one is carried (R22). -/
def onStoreRead (s : State) (l : LinkNo) (visit : Option Nat) : State :=
  match visit with
  | none => s.ask l .storeRead (.storeCounts none)
  | some n =>
      match fin? 48 n with
      | none => s.refuse l .malformed
      | some v => s.ask l .storeRead (.storeCounts (some v))

/-- The build mark of the head of a PENDING list (R22). -/
def pendMark (st : Store) (v : VisitNo) : Option BuildMark :=
  match (st.desc (.pend v)).head with
  | none => none
  | some i =>
      match (st.slot i).record with
      | .logHead h => some h.mark
      | _ => none

/-- The reply data of STORE_READ (R22). -/
def storeBytes (s : State) (visit : Option VisitNo) : List Byte :=
  put16 s.store.freeCount ++ put8 s.reserve ++ putBit s.storeLow ++
    put16 (s.store.desc .log).count ++ put16 s.store.logRecords ++
    put16 (s.store.desc .exception).count ++ put16 s.store.excRecords ++
    put8 s.service.length ++ s.service.flatMap (fun p => put8 p.value) ++ put8 s.index ++
    (match visit with
      | none => []
      | some v =>
          put16 (s.store.desc (.comp v)).count ++ put16 (s.store.desc (.paper v)).count ++
            put16 (s.store.desc (.pend v)).count ++ putOpt put8 ((pendMark s.store v).map BuildMark.value))

end State

/-- LOG_TAKE (R165). -/
def execLogTake (h : Head) (count : Nat) (s : State) : Host.Outcome State Fault Refusal :=
  done (s.takeItem h (.logTake h count) fun s => s.beginWalk h.link (State.gather .log count 0) .take)

/-- EXC_TAKE (R166). -/
def execExcTake (h : Head) (count : Nat) (s : State) : Host.Outcome State Fault Refusal :=
  done (s.takeItem h (.excTake h count) fun s => s.beginWalk h.link (State.gather .exception count 0) .take)

/-- LOG_PEEK (R168). -/
def execLogPeek (h : Head) (first count : Nat) (s : State) : Host.Outcome State Fault Refusal :=
  done (s.takeItem h (.logPeek h first count) fun s =>
    s.beginWalk h.link (State.gather .log count first) .peek)

/-- EXC_PEEK (R168). -/
def execExcPeek (h : Head) (first count : Nat) (s : State) : Host.Outcome State Fault Refusal :=
  done (s.takeItem h (.excPeek h first count) fun s =>
    s.beginWalk h.link (State.gather .exception count first) .peek)

/-- STORE_READ (R22): the counts are read at P3's grant (STORE_COUNTS_GRANT). -/
def execStoreRead (h : Head) (visit : Option Nat) (s : State) : Host.Outcome State Fault Refusal :=
  done (s.takeItem h (.storeRead h visit) fun s => s.onStoreRead h.link visit)

end Sys2Proof.Machine
end

