-- ==== Sys2Proof/Machine/Sweeps.lean ====
section
/-! DEFINITION. The Sweep Unit (chapter 10): SWEEP_START, SWEEP_STOP, SWEEP_READ, the courses of HOURS_SCAN
and PAPER_RECHECK, and the two steps that take no grant of the store. -/

namespace Sys2Proof.Machine

/-- The last index of a sweep (R174, R176). -/
def lastIndex (opcode : Option Nat) : Nat := if opcode = some 1 then 255 else 47

namespace State

def setSweepStatus (s : State) (t : SweepStatus) : State := s.setSweep { s.sweep with status := t }
def setSweepWork (s : State) (w : SweepWork) : State := s.setSweep { s.sweep with work := w }

/-- A run presents a store request; while the request of a stopped run still waits, its first store request is held
back (R8, R175). -/
def sweepAsks (s : State) (w : SweepWork) (r : Request) : State :=
  let s := s.setSweepWork w
  if (s.request .sweep).isSome then s.setSweep { s.sweep with deferred := some r }
  else s.present .sweep r

/-- The run considers the record at its position: HOURS_SCAN by its slot grant (R179), PAPER_RECHECK by the
visit's context (R180). DESIGN CHOICE (log 31): while the request of a stopped run still waits at the store, only a
store request is held back (R175), and the context, which is no request at the store, is asked for at once. -/
def consider (s : State) : State :=
  if s.sweep.status.opcode = some 1 then s.sweepAsks .hoursGrant (.read .free none)
  else s.setSweepWork .context

/-- The run ends with an end state: SWEEP_DONE is raised on the AUDIT link (R176, R178, R183). -/
def endSweep (s : State) (st : SweepState) : State :=
  ((s.setSweepStatus { s.sweep.status with state := st, position := none }).setSweepWork .none).raise .audit
    .sweepDone

/-- The index at the position has been passed over or taken: the run goes on to the next of its scope, or ends
(R176). -/
def advanceSweep (s : State) : State :=
  let t := s.sweep.status
  let p := t.position.getD 0
  if t.scope = some .all ∧ p < lastIndex t.opcode then
    (s.setSweepStatus { t with position := some (p + 1) }).consider
  else s.endSweep (if 0 < t.failures then .fail else .pass)

/-- The status record after the result of one record (R176). -/
def resultOf (t : SweepStatus) (failed : Option Reason) : SweepStatus :=
  let p := t.position.getD 0
  match failed with
  | none => { t with examined := t.examined + 1 }
  | some r =>
      { t with
        examined := t.examined + 1
        failures := t.failures + 1
        first := some (t.first.getD (p, r))
        last := some p }

/-- The result of a record examined is taken in one step (R176). -/
def takeResult (s : State) (failed : Option Reason) : State :=
  (s.setSweepStatus (resultOf s.sweep.status failed)).advanceSweep

/-! ### SWEEP_START, SWEEP_STOP, SWEEP_READ (R175, R183, R184) -/

/-- The scope that an item carries (R201). -/
def scope? (scope index : Nat) : Option Scope :=
  match scope with
  | 0 => some (.single index)
  | 1 => some .all
  | _ => none

/-- The status record at the beginning of a run (R175, order 5). -/
def startedStatus (opcode : Nat) (sc : Scope) : SweepStatus :=
  { state := .running
    opcode := some opcode
    scope := some sc
    position := some (match sc with | .single i => i | .all => 0)
    examined := 0
    failures := 0
    first := none
    last := none }

/-- The status record of an opcode that is no sweep (R175, order 3). -/
def unsupportedStatus (opcode : Nat) : SweepStatus :=
  { state := .unsupported, opcode := some opcode, scope := none, position := none, examined := 0,
    failures := 0, first := none, last := none }

/-- Whether the index of a SINGLE scope is one of the sweep's (R175, order 4). -/
def scopeFits (opcode : Nat) : Scope → Bool
  | .all => true
  | .single i => decide (i ≤ lastIndex (some opcode))

def onSweepStart (s : State) (l : LinkNo) (opcode scope index : Nat) : State :=
  match scope? scope index with
  | none => s.refuse l .malformed
  | some sc =>
      if s.sweep.status.state = .running then s.refuse l .busy
      else if opcode ≠ 1 ∧ opcode ≠ 2 then
        ((s.setSweepStatus (unsupportedStatus opcode)).raise .audit .sweepDone).answer l .done
          (sweepBytes (unsupportedStatus opcode))
      else if scopeFits opcode sc = false then s.refuse l .malformed
      else
        ((s.setSweepStatus (startedStatus opcode sc)).consider).answer l .done
          (sweepBytes (startedStatus opcode sc))

/-- The run is stopped: a request of it that waits at the store is served and its answer discarded (R183). -/
def stopSweep (s : State) : State :=
  (s.endSweep .aborted).setSweep
    { (s.endSweep .aborted).sweep with orphan := (s.request .sweep).isSome, deferred := none }

def onSweepStop (s : State) (l : LinkNo) : State :=
  if s.sweep.status.state = .running then s.stopSweep.answer l .done []
  else s.answer l .already []

def onSweepRead (s : State) (l : LinkNo) : State := s.answer l .done (sweepBytes s.sweep.status)

/-! ### PAPER_RECHECK (R180, R181) -/

/-- The Visit Controller applies a result to RECHECK_FAIL, and the run counts the visit, where the context still
holds the tag kept and is not FREE; otherwise the visit is passed over (R181). -/
def recheckResult (s : State) (v : VisitNo) (tag : Tag) (j : Judge) : State :=
  if (s.visit v).tag = tag ∧ (s.visit v).state ≠ .free then
    (s.setVisit v { s.visit v with recheckFail := decide (0 < j.count) }).takeResult j.reason
  else s.advanceSweep

/-- The judging of a visit goes on to the question asked, or ends with its result (R181). -/
def recheckGoesOn (s : State) (v : VisitNo) (tag : Tag) (j : Judge × Option Ask) : State :=
  match j.2 with
  | some a => s.setSweepWork (.judging v tag j.1 a)
  | none => s.recheckResult v tag j.1

/-- The answer of a read of PAPER_RECHECK's walk (R180). -/
def recheckRead (s : State) (v : VisitNo) (tag : Tag) (j : Judge) (list : ListId) (a : ReadAnswer) : State :=
  match Sys2Proof.Machine.walk v list j a with
  | .read j l r => s.sweepAsks (.walk v tag j) (.read l r)
  | .finished j => s.recheckGoesOn v tag j.onward
  | .moved => s.advanceSweep

/-- The answer of a read to SWEEP. The answer to a stopped run is discarded, and the first store request of the next
run, if it waits, is presented (R175, R183). -/
def sweepRead (s : State) (list : ListId) (a : ReadAnswer) : State :=
  if s.sweep.orphan then
    let s' := s.setSweep { s.sweep with orphan := false, deferred := none }
    match s.sweep.deferred with
    | some r => s'.present .sweep r
    | none => s'
  else
    match s.sweep.work with
    | .hoursGrant => s.setSweepWork .hoursEntry
    | .walk v tag j => s.recheckRead v tag j list a
    | _ => s

/-- The question that the SU has put to the Class Table, where one is due. -/
def sweepAsk (s : State) : Option (VisitNo × Tag × Judge × Ask) :=
  match s.alive, s.sweep.work with
  | true, .judging v tag j a => some (v, tag, j, a)
  | _, _ => none

/-! ### HOURS_SCAN (R179) -/

/-- The first failing test of an entry on site, from the figures read (R179). -/
def hoursTest (r : RuleSet) (n : Nat) (d : Driver) : Option Reason :=
  let e := d.endBreak r n
  if r.lSpan ≤ e.used n then some .overstay
  else if r.lCont ≤ e.cont then some .breakDue
  else if d.activity = .onBreak ∧ r.r ≤ d.breakLength n then some .restOnSite
  else none

/-- The entry at the position of an HOURS_SCAN. -/
def sweepEntry (s : State) : Option Driver :=
  (fin? 256 (s.sweep.status.position.getD 0)).bind s.driver

/-- The answer of the Hours Unit to an entry read: an empty or ABSENT entry is passed over (R179). -/
def entryRead (s : State) : State :=
  match s.sweepEntry with
  | none => s.advanceSweep
  | some d => if d.activity = .absent then s.advanceSweep else s.takeResult (hoursTest s.rules s.now d)

/-- Whether a visit is one that PAPER_RECHECK examines (R180). -/
def recheckExamines (x : Visit) : Bool :=
  (x.state == .loaded || x.state == .queued || x.state == .held || x.state == .assigned) &&
    x.paperState == .complete

/-- The answer of the Visit Controller to PAPER_RECHECK's context request (R180). -/
def contextRead (s : State) : State :=
  match fin? 48 (s.sweep.status.position.getD 0) with
  | none => s.advanceSweep
  | some v =>
      if recheckExamines (s.visit v) then
        s.sweepAsks (.walk v (s.visit v).tag Judge.start) (.read (.paper v) none)
      else s.advanceSweep

end State

/-- SWEEP_START (R175). -/
def execSweepStart (h : Head) (opcode scope index : Nat) (s : State) : Host.Outcome State Fault Refusal :=
  done (s.takeItem h (.sweepStart h opcode scope index) fun s => s.onSweepStart h.link opcode scope index)

/-- SWEEP_STOP (R183). -/
def execSweepStop (h : Head) (s : State) : Host.Outcome State Fault Refusal :=
  done (s.takeItem h (.sweepStop h) fun s => s.onSweepStop h.link)

/-- SWEEP_READ (R184). -/
def execSweepRead (h : Head) (s : State) : Host.Outcome State Fault Refusal :=
  done (s.takeItem h (.sweepRead h) fun s => s.onSweepRead h.link)

/-- SWEEP_ENTRY_READ (R179): the Hours Unit reads the entry at the position of an HOURS_SCAN. -/
def execSweepEntryRead (s : State) : Host.Outcome State Fault Refusal :=
  done (if s.alive = true ∧ s.sweep.work = .hoursEntry then s.entryRead else s)

/-- RECHECK_CONTEXT_READ (R180): the Visit Controller answers PAPER_RECHECK's request for a context. -/
def execRecheckContextRead (s : State) : Host.Outcome State Fault Refusal :=
  done (if s.alive = true ∧ s.sweep.work = .context then s.contextRead else s)

end Sys2Proof.Machine
end

