-- ==== Sys2Proof/Machine/Grants.lean ====
section
/-! DEFINITION. The turns of the Record Store (R18) and its eight kinds of grant (R9 to R15, R19, R22), each
with the answer taken by the party that asked; and the answers of the Class Table (R65, R69). A grant's command
is due when the turn is that of a requester whose waiting request is of its kind (log 1). -/

namespace Sys2Proof.Machine

namespace State

/-- The store's report to the DCU of a grant on a COMP or PAPER list (R16). -/
def reportList (s : State) (list : ListId) : State :=
  match list.watched with
  | some v => s.report (some v)
  | none => s

/-- The store after a grant: the conditions that watch its counts are evaluated (R16, R17, R170, R171). -/
def withStore (s : State) (st : Store) : State := (s.setStore st).follow

/-- An allocation's answer, DONE with a slot or STORE_FULL, taken by the item of a link. -/
def linkAllocated (s : State) (l : LinkNo) (ref : Option SlotRef) : State :=
  match s.job l with
  | some (.paperLines v tag left placed dropped short) =>
      if ref.isSome then s.linePlaced l v tag left placed dropped short else s.lineRefused l v tag placed
  | some (.abort v seq) => if ref.isSome then s.abortAnswered l v seq else s.abortUnrecorded l v
  | some (.arrive v w) => if ref.isSome then s.compartmentPlaced l v w else s.undoArrival l v
  | _ => s

def allocated (s : State) (p : Requester) (ref : Option SlotRef) : State :=
  match p.link with
  | some l => s.linkAllocated l ref
  | none => if p = .check then s.checkAlloc ref else s

/-- A read's answer, taken by the item of a link. -/
def linkRead (s : State) (l : LinkNo) (a : ReadAnswer) : State :=
  match s.job l with
  | some (.bayRead b v tag) => s.bayRead l b v tag a
  | some (.fillRead b v tag slot product figure) => s.fillRead l b v tag slot product figure a
  | some (.take g) => s.takeRead l g a
  | some (.peek g) => s.peekRead l g a
  | some (.visitRead v x got) => s.visitReadAnswered l v x got a
  | _ => s

def readBy (s : State) (p : Requester) (list : ListId) (a : ReadAnswer) : State :=
  match p.link with
  | some l => s.linkRead l a
  | none =>
      match p with
      | .check => s.checkRead list a
      | .sweep => s.sweepRead list a
      | _ => s

/-- A write's answer, DONE or MOVED, taken by the item of a link. -/
def linkWritten (s : State) (l : LinkNo) (written : Bool) : State :=
  match s.job l with
  | some (.bayWrite b v tag comp ref next) => s.bayWritten l b v tag comp ref next written
  | some (.fillWrite v net overfull amended) => s.fillWritten l v net overfull amended written
  | _ => s

def writtenBy (s : State) (p : Requester) (written : Bool) : State :=
  match p.link with
  | some l => s.linkWritten l written
  | none => if p = .check then s.checkWrite written else s

/-- A whole-list splice's answer, taken by the item of a link. -/
def linkSpliced (s : State) (l : LinkNo) (source : ListId) : State :=
  match s.job l with
  | some (.paperOpen v tag clamped) => s.paperReturned l v tag clamped
  | some (.abort v seq) => s.abortAnswered l v seq
  | some (.release v) => s.releaseReturned l v source
  | some (.arriveUndo v) => s.arrivalUndone l v
  | _ => s

def splicedBy (s : State) (p : Requester) (source : ListId) : State :=
  match p.link with
  | some l => s.linkSpliced l source
  | none => if p = .check then s.checkSplice else s

/-- A stamped splice's answer, with any sequence number drawn, taken by the item of a link. -/
def linkStamped (s : State) (l : LinkNo) (seq : Option Nat) : State :=
  match s.job l with
  | some (.abort v held) => s.abortAnswered l v (keepPresent held seq)
  | some (.release v) => s.endRelease l v seq
  | _ => s

def stampedBy (s : State) (p : Requester) (v : VisitNo) (seq : Option Nat) : State :=
  match p.link with
  | some l => s.linkStamped l seq
  | none => if p = .expiry then s.lapsed v else s

/-- A head splice's answer, taken by the take that asked for it (R165, R167). -/
def headSplicedBy (s : State) (p : Requester) : State :=
  match p.link with
  | some l =>
      match s.job l with
      | some (.take g) => s.taken l g
      | _ => s
  | none => s

end State

/-- SERVICE_TURN (R18): a turn of a requester with nothing waiting passes without a grant. -/
def execServiceTurn (s : State) : Host.Outcome State Fault Refusal :=
  done <|
    match s.turn with
    | some p => if (s.request p).isNone then s.advance else s
    | none => s

/-- ALLOCATION (R9, R10): the head of FREE joins the target list with its record, or STORE_FULL is answered.
FREE without a head slot where the grant is not refused breaks R7: `Fault.chainBroken`. -/
def execAllocation (s : State) : Host.Outcome State Fault Refusal :=
  match s.grant with
  | some (p, .alloc target cls record) =>
      if s.allocRefused target cls record then done ((s.granted p).allocated p none)
      else
        match s.store.allocate target record with
        | none => .fault .chainBroken
        | some (st, ref) => done ((((s.granted p).withStore st).reportList target).allocated p (some ref))
  | _ => done s

/-- SLOT_READ (R11). A read of the dispatch check answered MOVED with neither of its marks set breaks R132:
`Fault.neverTaken`. -/
def execSlotRead (s : State) : Host.Outcome State Fault Refusal :=
  match s.grant with
  | some (p, .read list slot) =>
      let a := s.store.read list slot
      if p = .check ∧ s.checkReadLost a = true then .fault .neverTaken
      else done ((s.granted p).readBy p list a)
  | _ => done s

/-- SLOT_WRITE (R12). -/
def execSlotWrite (s : State) : Host.Outcome State Fault Refusal :=
  done <|
    match s.grant with
    | some (p, .write list ref fields) =>
        match s.store.write s.now list ref fields with
        | some st => (((s.granted p).setStore st).reportList list).writtenBy p true
        | none => (s.granted p).writtenBy p false
    | _ => s

/-- WHOLE_LIST_SPLICE (R13). -/
def execWholeListSplice (s : State) : Host.Outcome State Fault Refusal :=
  done <|
    match s.grant with
    | some (p, .splice source target) =>
        ((((s.granted p).withStore (s.store.splice source target)).reportList source)).splicedBy p source
    | _ => s

/-- STAMPED_SPLICE (R14). -/
def execStampedSplice (s : State) : Host.Outcome State Fault Refusal :=
  done <|
    match s.grant with
    | some (p, .stamped v outcome pass) =>
        let r := (s.granted p).stamp v outcome pass
        r.1.follow.stampedBy p v r.2
    | _ => s

/-- HEAD_SPLICE (R15). -/
def execHeadSplice (s : State) : Host.Outcome State Fault Refusal :=
  done <|
    match s.grant with
    | some (p, .headSplice l k) => ((s.granted p).withStore (s.store.headSplice l k).1).headSplicedBy p
    | _ => s

/-- SERVICE_TABLE_GRANT (R19): the table is replaced and the index becomes 0, with no advance. -/
def execServiceTableGrant (s : State) : Host.Outcome State Fault Refusal :=
  done <|
    match s.grant with
    | some (p, .serviceTable entries) =>
        let s := { s with service := entries, index := 0 }.setRequest p none
        match p.link with
        | some l => s.answer l .done []
        | none => s
    | _ => s

/-- STORE_COUNTS_GRANT (R22): the index is read as it stands after this grant advances it. -/
def execStoreCountsGrant (s : State) : Host.Outcome State Fault Refusal :=
  done <|
    match s.grant with
    | some (p, .storeCounts visit) =>
        let s := s.granted p
        match p.link with
        | some l => s.answer l .done (s.storeBytes visit)
        | none => s
    | _ => s

/-- CLASS_LOOKUP (R65): the Class Table answers the lookup of the check in flight or of the sweep. -/
def execClassLookup (a : Asker) (s : State) : Host.Outcome State Fault Refusal :=
  done <|
    match a with
    | .check =>
        match s.checkAsk with
        | some (.lookup code) => s.checkAnswered.checkLookup (s.classes.lookup code)
        | _ => s
    | .sweep =>
        match s.sweepAsk with
        | some (v, tag, j, .lookup code) => s.recheckGoesOn v tag (j.takeLookup (s.classes.lookup code))
        | _ => s

/-- PAIR_TEST (R69): the Class Table answers the pair test of the check in flight or of the sweep. -/
def execPairTest (a : Asker) (s : State) : Host.Outcome State Fault Refusal :=
  done <|
    match a with
    | .check =>
        match s.checkAsk with
        | some (.pair g h) => s.checkAnswered.checkPair (s.classes.marked g h)
        | _ => s
    | .sweep =>
        match s.sweepAsk with
        | some (v, tag, j, .pair g h) => s.recheckGoesOn v tag (j.takePair (s.classes.marked g h))
        | _ => s

end Sys2Proof.Machine
end

