-- ==== Sys2Proof/Machine/Resets.lean ====
section
/-! DEFINITION. The reset classes and the supplies (R24, R45, R46, R92, R202, R208, R209): cold start, line and
soft reset with their reset work, and the losses of the two supplies. -/

namespace Sys2Proof.Machine

namespace State

/-! ### The reset work (R24, R45, R46, R92) -/

/-- A return of a list in the reset work, outside the service table (R24). -/
def returned (s : State) (list : ListId) : State := s.setStore (s.store.splice list .free)

/-- A stamped splice in the reset work (R24). -/
def stampedNow (s : State) (v : VisitNo) (o : LogOutcome) (pass : Option Nat) : State := (s.stamp v o pass).1

/-- The visit of a check or a queue place that the reset ended (R45). -/
def unqueued (x : Visit) : Visit :=
  { x with state := if x.heldOrigin then .held else .loaded, heldOrigin := false }

/-- The visit of a clearance that the reset lapsed (R46). -/
def resetLapsed (x : Visit) : Visit := { x with state := .loaded, lapsed := true, clearance := none }

/-- An abort completed without a record in the reset work raises UNRECORDED (R41, R46). -/
def settledUnrecorded (s : State) (v : VisitNo) : State := (s.freeUp v).raise .office .unrecorded

/-- The answer of one grant of an abort in the reset work is counted. -/
def countAbort (s : State) (v : VisitNo) (c : AbortCourse) : State :=
  s.setVisit v { s.visit v with abort := some { c with answered := c.answered + 1 } }

/-- The grants of an abort not yet answered, in their order (R46). A course has at most five grants. -/
def settleAbort (v : VisitNo) : Nat → State → State
  | 0, s => s.freeUp v
  | fuel + 1, s =>
      match (s.visit v).abort with
      | none => s.freeUp v
      | some c =>
          match abortRequest v (s.visit v) c with
          | some (.splice source _) => settleAbort v fuel ((s.returned source).countAbort v c)
          | some (.stamped _ o pass) => settleAbort v fuel ((s.stampedNow v o pass).countAbort v c)
          | some (.alloc target cls record) =>
              if s.allocRefused target cls record then s.settledUnrecorded v
              else
                match s.store.allocate target record with
                | none => s.settledUnrecorded v
                | some (st, _) => settleAbort v fuel ((s.setStore st).countAbort v c)
          | _ => s.freeUp v

/-- The reset work of a visit's state (R45, R46). -/
def settleState (s : State) (v : VisitNo) : State :=
  let x := s.visit v
  match x.state with
  | .arrived => if x.arrivalMark then (s.returned (.comp v)).freeUp v else s
  | .queued => s.setVisit v (unqueued x)
  | .checking => (s.returned (.pend v)).setVisit v (unqueued x)
  | .cleared | .lapsing => (s.stampedNow v .resetLapsed none).setVisit v (resetLapsed x)
  | .releasing =>
      (((s.returned (.comp v)).returned (.paper v)).stampedNow v .released x.passMinute).freeUp v
  | .aborting => settleAbort v 5 s
  | _ => s

/-- The return owed by a PAPER_OPEN cut off before it was served (R92). -/
def settlePaper (s : State) (v : VisitNo) : State :=
  if (s.visit v).paperState = .opened ∧ (s.visit v).accepted = 0 ∧ (s.store.desc (.paper v)).count ≠ 0 then
    s.returned (.paper v)
  else s

/-- All the reset work of one visit, then of the next, in ascending visit number (R24). -/
def settleAll : List VisitNo → State → State
  | [], s => s
  | v :: vs, s => settleAll vs ((s.settleState v).settlePaper v)

/-! ### Line and soft reset (R209) -/

/-- A run of the Sweep Unit ends ABORTED at a line or soft reset, without SWEEP_DONE (R185). -/
def SweepUnit.cut (u : SweepUnit) : SweepUnit :=
  { status := if u.status.state = .running then { u.status with state := .aborted, position := none }
      else u.status
    work := .none
    orphan := false
    deferred := none }

/-- Whether the configuration is kept (R209, step 2). -/
def keeps (s : State) : Bool := s.cc.keep || s.cc.locked

/-- The configuration at its cold start defaults (R209, step 2; R109 as R127 gives). -/
def defaulted (s : State) : State :=
  let s := s.withRules defaultRules
  { s with
    classes := ClassTable.cold
    service := defaultService
    reserve := Config.defaultReserve
    logs := { s.logs with window := Config.defaultWindow, threshold := Config.defaultThreshold } }

/-- What every line and soft reset discards: the requests waiting at the store, the check queue and the check
in flight, the lapse list, the run of the Sweep Unit, and minute events not yet taken (R24, R104, R154, R173,
R185). The index of the service table becomes 0. -/
def discarded (s : State) : State :=
  { s with
    links := Links.reset
    index := 0
    requests := Vector.replicate 7 none
    dcu := Dcu.idle
    logs := { s.logs with lapses := [] }
    sweep := SweepUnit.cut s.sweep
    time := { s.time with events := [] } }

/-- A line or soft reset, in the order of R209. -/
def reset209 (s : State) : State :=
  let kept := s.keeps
  let s := s.discarded
  let s := if kept then s else s.defaulted
  let s := s.setCc { s.cc with keep := false }
  let s := (settleAll (List.finRange 48) s).follow
  s.setCc { s.cc with run := if kept && s.classes.covers then .run else .config }

/-- A line reset: the straps are sampled (R186), and the work of R209 is done. -/
def lineReset209 (s : State) (straps : Straps) : State :=
  { s with rate := BitRate.ofStraps straps.rate1 straps.rate0 }.reset209

/-! ### The supplies and RST (R208) -/

/-- A link whose work is cut off: its buffers and its receiver. Its flags and mask are cleared at the reset
that follows (log 9, log 10). -/
def cutLink (k : Link) : Link := { k with rx := .hunting, bufA := .empty, bufB := .empty }

def cutLinks (k : Links) : Links :=
  ⟨cutLink k.office, cutLink k.loading, cutLink k.gate, cutLink k.audit⟩

/-- The state that is not retained is lost with the main supply (R208). -/
def unpowered (s : State) : State :=
  { s with
    power := .backup
    links := cutLinks s.links
    requests := Vector.replicate 7 none
    dcu := Dcu.idle
    logs := { s.logs with lapses := [] }
    time := { s.time with events := [] } }

end State

/-- RST_ASSERT (R208): the links' work is cut off and the part is held; the work of R209 waits for the release.
-/
def execRstAssert (s : State) : Host.Outcome State Fault Refusal :=
  done { s with rst := true, links := State.cutLinks s.links }

/-- LINE_RESET (R208, R209). A release of RST in MAIN begins the work of R209. In BACKUP, and without a retained
memory, it leaves nothing to do: the work waits for the return of the main supply, or the cold start sets all.
A return of the main supply enters MAIN and begins the work, but under an asserted RST, where the work waits for
the release. A cause that is not there changes nothing (log 1, log 6). -/
def execLineReset (cause : ResetCause) (straps : Straps) (s : State) : Host.Outcome State Fault Refusal :=
  done <|
    match cause with
    | .rstReleased =>
        if s.rst = false then s
        else if s.power = .main then { s with rst := false }.lineReset209 straps
        else { s with rst := false }
    | .mainReturns =>
        if s.power ≠ .backup then s
        else if s.rst then { s with power := .main }
        else { s with power := .main }.lineReset209 straps

/-- COLD_START (R208, R209): every block takes its cold start values, and the straps are sampled (R186). An
asserted RST goes on holding the part (R208). -/
def execColdStart (rate1 rate0 : Bool) (s : State) : Host.Outcome State Fault Refusal :=
  done { State.cold (BitRate.ofStraps rate1 rate0) s.pending with rst := s.rst }

/-- MAIN_SUPPLY_LOSS (R208). -/
def execMainSupplyLoss (s : State) : Host.Outcome State Fault Refusal :=
  done (if s.power = .main then s.unpowered else s)

/-- BACKUP_SUPPLY_LOSS (R208): the retained memory is lost, and nothing works until a cold start (log 8). -/
def execBackupSupplyLoss (s : State) : Host.Outcome State Fault Refusal :=
  done { State.cold s.rate s.pending with power := .lost, rst := s.rst }

end Sys2Proof.Machine
end

