-- ==== Sys2Proof/Machine/Receivers.lean ====
section
/-! DEFINITION. The receivers and receive buffers of the station links (R187 to R189): characters, gaps, the
acceptance of telegrams, and the end of a reply with the soft reset of a RESTART (R193). -/

namespace Sys2Proof.Machine

/-- A buffer whose telegram is executing or whose reply is being sent (R188). -/
def Buffer.busy : Buffer → Bool
  | .executing _ | .replying _ _ => true
  | _ => false

namespace Link

/-- The bytes of the telegram being received, and whether one had a framing error (R187). -/
def filling (k : Link) : Option (List Byte × Bool) :=
  match k.bufA, k.bufB with
  | .filling bs f, _ => some (bs, f)
  | _, .filling bs f => some (bs, f)
  | _, _ => none

/-- Replaces the buffer that is FILLING. -/
def putFilling (k : Link) (b : Buffer) : Link :=
  match k.bufA, k.bufB with
  | .filling _ _, _ => { k with bufA := b }
  | _, .filling _ _ => { k with bufB := b }
  | _, _ => k

/-- The reply being sent, and whether a soft reset follows it (R188, R193). -/
def replying (k : Link) : Option (List Byte × Bool) :=
  match k.bufA, k.bufB with
  | .replying r f, _ => some (r, f)
  | _, .replying r f => some (r, f)
  | _, _ => none

/-- Replaces the buffer that is REPLYING. -/
def putReplying (k : Link) (b : Buffer) : Link :=
  match k.bufA, k.bufB with
  | .replying _ _, _ => { k with bufA := b }
  | _, .replying _ _ => { k with bufB := b }
  | _, _ => k

/-- Raises a flag on the link. -/
def raised (k : Link) (f : Flag) : Link := { k with flags := putFlag k.flags f true }

/-- A telegram is dropped: its buffer is EMPTY and TELEGRAM_ERROR is raised (R189). -/
def drop (k : Link) (rx : RxState) : Link :=
  { (k.putFilling .empty).raised .telegramError with rx }

/-- A telegram is accepted whole: it waits while the other buffer executes or replies, and otherwise begins to
execute (R188, R189). -/
def accept (l : LinkNo) (k : Link) (t : Telegram) : Link :=
  k.putFilling (if k.bufA.busy || k.bufB.busy then .waiting t else beginTelegram l t)

/-- The length field of a telegram being received, from its second byte on (R187). -/
def lengthField : List Byte → Option Nat
  | a :: b :: _ => some (nat16 a b)
  | _ => none

/-- Whether a length field is one that a telegram can end by (R187). -/
def validLength (n : Nat) : Bool := decide (8 ≤ n) && decide (n ≤ Config.bufferBytes)

/-- The telegram after a character is stored: it ends by its length field, or is dropped at its 512th byte
(R187, R189). -/
def received (l : LinkNo) (k : Link) (bytes : List Byte) (framing : Bool) : Link :=
  let k := k.putFilling (.filling bytes framing)
  match lengthField bytes with
  | none => k
  | some n =>
      if validLength n then
        if bytes.length = n then
          if framing then k.drop .hunting
          else
            match parseTelegram bytes with
            | none => k.drop .ready
            | some t => { Link.accept l k t with rx := .ready }
        else k
      else if bytes.length = Config.bufferBytes then k.drop .hunting
      else k

/-- The first byte of a telegram: it is taken into an EMPTY buffer, or dropped with OVERRUN (R188). DESIGN
CHOICE (log 19): where both buffers are EMPTY it takes buffer A. -/
def first (k : Link) (c : RxChar) : Link :=
  if k.bufA = .empty then { k with rx := .receiving, bufA := .filling [c.byte] c.framing }
  else if k.bufB = .empty then { k with rx := .receiving, bufB := .filling [c.byte] c.framing }
  else { k.raised .overrun with rx := .hunting }

/-- One character at the receiver (R187). -/
def rxChar (l : LinkNo) (k : Link) (c : RxChar) : Link :=
  match k.rx with
  | .hunting => k
  | .ready => k.first c
  | .receiving =>
      match k.filling with
      | none => k
      | some (bs, f) => received l k (bs ++ [c.byte]) (f || c.framing)

/-- A run of characters with no gap between them. -/
def rxChars (l : LinkNo) (k : Link) (cs : List RxChar) : Link := cs.foldl (rxChar l) k

/-- A gap at the receiver (R187). -/
def rxGap (k : Link) : Link :=
  match k.rx with
  | .hunting | .ready => { k with rx := .ready }
  | .receiving => k.drop .ready

/-- A WAITING telegram begins to execute once the other buffer is EMPTY (R188). -/
def wake (l : LinkNo) (k : Link) : Link :=
  match k.bufA, k.bufB with
  | .waiting t, b => if b.busy then k else { k with bufA := beginTelegram l t }
  | a, .waiting t => if a.busy then k else { k with bufB := beginTelegram l t }
  | _, _ => k

end Link

namespace State

/-- A link changes while the links are alive (R186, R202). -/
def changeLink (s : State) (l : LinkNo) (f : Link → Link) : State :=
  if s.alive then s.setLink l (f (s.link l)) else s

end State

/-- TELEGRAM_START (R187, R188): a character arrives; in READY it is the first of a telegram. -/
def execTelegramStart (l : LinkNo) (c : RxChar) (s : State) : Host.Outcome State Fault Refusal :=
  done (s.changeLink l fun k => Link.rxChar l k c)

/-- TELEGRAM_END (R187, R189): the characters that follow, up to the one that ends the telegram (log 4). -/
def execTelegramEnd (l : LinkNo) (cs : List RxChar) (s : State) : Host.Outcome State Fault Refusal :=
  done (s.changeLink l fun k => Link.rxChars l k cs)

/-- GAP (R187). -/
def execGap (l : LinkNo) (s : State) : Host.Outcome State Fault Refusal :=
  done (s.changeLink l Link.rxGap)

/-- REPLY_SENT (R188, R193): the last byte of a reply leaves TXD. The reply of an accepted RESTART ends in a
soft reset; after any other the buffer is EMPTY and a WAITING telegram begins to execute. -/
def execReplySent (l : LinkNo) (s : State) : Host.Outcome State Fault Refusal :=
  done <|
    match s.alive, (s.link l).replying with
    | true, some (_, true) => s.reset209
    | true, some (_, false) => s.setLink l (Link.wake l ((s.link l).putReplying .empty))
    | _, _ => s

end Sys2Proof.Machine
end

