-- ==== Sys2Proof/Machine/Dispatch.lean ====
section
/-! DEFINITION. The meaning of every command: one arm for each constructor of `Instr`. -/

namespace Sys2Proof.Machine

def exec (i : Instr) (s : State) : Host.Outcome State Fault Refusal :=
  match i with
  | .setTime h minute seconds => Sys2Proof.Machine.execSetTime h minute seconds s
  | .adjustTime h offset => Sys2Proof.Machine.execAdjustTime h offset s
  | .rulesLoad h rules => Sys2Proof.Machine.execRulesLoad h rules s
  | .bandLoad h band upper group permille litres paperRequired => Sys2Proof.Machine.execBandLoad h band upper group permille litres paperRequired s
  | .segLoad h a b setting => Sys2Proof.Machine.execSegLoad h a b setting s
  | .chunkSize h size => Sys2Proof.Machine.execChunkSize h size s
  | .serviceLoad h entries => Sys2Proof.Machine.execServiceLoad h entries s
  | .settings h reserve window threshold => Sys2Proof.Machine.execSettings h reserve window threshold s
  | .identWrite h identity label => Sys2Proof.Machine.execIdentWrite h identity label s
  | .start h => Sys2Proof.Machine.execStart h s
  | .lock h => Sys2Proof.Machine.execLock h s
  | .keep h => Sys2Proof.Machine.execKeep h s
  | .restart h => Sys2Proof.Machine.execRestart h s
  | .paperOpen h visit vtag number p q expected replace => Sys2Proof.Machine.execPaperOpen h visit vtag number p q expected replace s
  | .paperLines h visit vtag lines => Sys2Proof.Machine.execPaperLines h visit vtag lines s
  | .visitAbort h visit vtag => Sys2Proof.Machine.execVisitAbort h visit vtag s
  | .logTake h count => Sys2Proof.Machine.execLogTake h count s
  | .excTake h count => Sys2Proof.Machine.execExcTake h count s
  | .bayAssign h visit vtag bay => Sys2Proof.Machine.execBayAssign h visit vtag bay s
  | .bayRelease h bay => Sys2Proof.Machine.execBayRelease h bay s
  | .fill h bay comp product figure => Sys2Proof.Machine.execFill h bay comp product figure s
  | .loadEnd h bay => Sys2Proof.Machine.execLoadEnd h bay s
  | .arrive h tanker driver figures co capacities => Sys2Proof.Machine.execArrive h tanker driver figures co capacities s
  | .breakStart h card => Sys2Proof.Machine.execBreakStart h card s
  | .breakEnd h card => Sys2Proof.Machine.execBreakEnd h card s
  | .dispatch h visit vtag => Sys2Proof.Machine.execDispatch h visit vtag s
  | .gatePassed h visit vtag code => Sys2Proof.Machine.execGatePassed h visit vtag code s
  | .sweepStart h opcode scope index => Sys2Proof.Machine.execSweepStart h opcode scope index s
  | .sweepStop h => Sys2Proof.Machine.execSweepStop h s
  | .sweepRead h => Sys2Proof.Machine.execSweepRead h s
  | .logPeek h first count => Sys2Proof.Machine.execLogPeek h first count s
  | .excPeek h first count => Sys2Proof.Machine.execExcPeek h first count s
  | .storeRead h visit => Sys2Proof.Machine.execStoreRead h visit s
  | .visitRead h visit compartments => Sys2Proof.Machine.execVisitRead h visit compartments s
  | .driverRead h selector value => Sys2Proof.Machine.execDriverRead h selector value s
  | .noteRead h => Sys2Proof.Machine.execNoteRead h s
  | .noteClear h clear mask => Sys2Proof.Machine.execNoteClear h clear mask s
  | .identRead h => Sys2Proof.Machine.execIdentRead h s
  | .telegramStart l c => Sys2Proof.Machine.execTelegramStart l c s
  | .telegramEnd l cs => Sys2Proof.Machine.execTelegramEnd l cs s
  | .gap l => Sys2Proof.Machine.execGap l s
  | .replySent l => Sys2Proof.Machine.execReplySent l s
  | .rstAssert => Sys2Proof.Machine.execRstAssert s
  | .lineReset cause straps => Sys2Proof.Machine.execLineReset cause straps s
  | .coldStart rate1 rate0 => Sys2Proof.Machine.execColdStart rate1 rate0 s
  | .mainSupplyLoss => Sys2Proof.Machine.execMainSupplyLoss s
  | .backupSupplyLoss => Sys2Proof.Machine.execBackupSupplyLoss s
  | .tbasePulse => Sys2Proof.Machine.execTbasePulse s
  | .minuteEnd => Sys2Proof.Machine.execMinuteEnd s
  | .minuteEvent => Sys2Proof.Machine.execMinuteEvent s
  | .serviceTurn => Sys2Proof.Machine.execServiceTurn s
  | .allocation => Sys2Proof.Machine.execAllocation s
  | .slotRead => Sys2Proof.Machine.execSlotRead s
  | .slotWrite => Sys2Proof.Machine.execSlotWrite s
  | .wholeListSplice => Sys2Proof.Machine.execWholeListSplice s
  | .stampedSplice => Sys2Proof.Machine.execStampedSplice s
  | .headSplice => Sys2Proof.Machine.execHeadSplice s
  | .serviceTableGrant => Sys2Proof.Machine.execServiceTableGrant s
  | .storeCountsGrant => Sys2Proof.Machine.execStoreCountsGrant s
  | .checkTake => Sys2Proof.Machine.execCheckTake s
  | .classLookup a => Sys2Proof.Machine.execClassLookup a s
  | .pairTest a => Sys2Proof.Machine.execPairTest a s
  | .hoursVerdict => Sys2Proof.Machine.execHoursVerdict s
  | .sweepEntryRead => Sys2Proof.Machine.execSweepEntryRead s
  | .recheckContextRead => Sys2Proof.Machine.execRecheckContextRead s

end Sys2Proof.Machine
end

