-- ==== Sys2Proof/Safety.lean ====
section
/-! DEFINITION. What a sound state of the part is: the relations that the manual says hold at all times, block by
block. Each is stated of one state; the obligations say that every step keeps them. -/

namespace Sys2Proof.Machine

/-! ### The Record Store (R7) -/

/-- R7 of one list: its chain has as many slots as its count, reaches each once from its head, ends at its tail,
and holds the slots that the list owns. -/
structure Store.ListWhole (st : Store) (l : ListId) : Prop where
  length : (st.chain l).length = (st.desc l).count
  once   : (st.chain l).Nodup
  head   : (st.chain l).head? = (st.desc l).head
  tail   : (st.chain l).getLast? = (st.desc l).tail
  ends   : ∀ i, (st.desc l).tail = some i → (st.slot i).next = none
  owned  : ∀ i, i ∈ st.chain l ↔ (st.slot i).owner = l

/-- R7: every list is whole, so every slot is on exactly one list, its owner's. -/
def Store.Whole (st : Store) : Prop := ∀ l, st.ListWhole l

/-! ### Kinds of records (R6) -/

/-- Whether a record is of a kind that a list holds (R6). -/
def ListId.holds : ListId → Record → Prop
  | .free, .none => True
  | .comp _, .compartment _ => True
  | .paper _, .paperLine _ => True
  | .log, r | .exception, r | .pend _, r => r.isHead = true ∨ r.isLogComp = true
  | _, _ => False

/-- A request keeps the kinds: an allocation is onto a list of a visit, with a record of its kind, and a
whole-list splice is a return of a list of a visit. -/
def Request.KeepsKinds : Request → Prop
  | .alloc (.comp v) _ r => (ListId.comp v).holds r
  | .alloc (.paper v) _ r => (ListId.paper v).holds r
  | .alloc (.pend v) _ r => (ListId.pend v).holds r
  | .alloc _ _ _ => False
  | .splice (.comp _) .free | .splice (.paper _) .free | .splice (.pend _) .free => True
  | .splice _ _ => False
  | _ => True

/-- R6, kinds: every slot holds a record of a kind of its list, and no request that waits or is held back would
change that. -/
structure KindsSound (s : State) : Prop where
  slots   : ∀ i, (s.store.slot i).owner.holds (s.store.slot i).record
  waiting : ∀ p r, s.request p = some r → r.KeepsKinds
  held    : ∀ r, s.sweep.deferred = some r → r.KeepsKinds

/-! ### The check queue (R128) -/

/-- R128: at most 8 visits in the queue, none twice; a visit is in it exactly when it is QUEUED; and the one visit
that is CHECKING is that of the check in flight. In BACKUP the queue is lost, and after it and under an asserted RST
the reset settles the visits (R45, R208), so the relation is of a part that is neither. -/
structure QueueSound (s : State) : Prop where
  few      : s.dcu.queue.length ≤ Config.queuePlaces
  once     : s.dcu.queue.Nodup
  queued   : ∀ v, v ∈ s.dcu.queue ↔ (s.visit v).state = .queued
  checking : ∀ v, (s.visit v).state = .checking ↔
    ∃ c, s.dcu.check = some c ∧ c.visit = v ∧ c.phase ≠ .abandon

/-! ### Bay windows (R47) -/

/-- Whether a visit is in one of the two states with a window (R47). -/
def VisitState.atBay (st : VisitState) : Bool := st == .assigned || st == .loading

/-- R47: a valid window is bound to a visit in ASSIGNED or LOADING whose bay field names it and whose tag and
compartment count it holds; and each visit in one of these states is bound to a window. -/
structure WindowsSound (s : State) : Prop where
  bound : ∀ b w, s.window b = some w →
    (s.visit w.visit).state.atBay = true ∧ (s.visit w.visit).bay = some b ∧
      w.tag = (s.visit w.visit).tag ∧
      w.span = (((s.visit w.visit).arrival.map Arrival.compCount).getD 0)
  held : ∀ v, (s.visit v).state.atBay = true → ∃ b w, s.window b = some w ∧ w.visit = v

/-! ### The class table (R63, R69, R71) -/

/-- R69: the segregation matrix is symmetric. -/
def ClassTable.Symmetric (t : ClassTable) : Prop :=
  ∀ a b : Fin 16, tget t.matrix (ClassTable.cell a b) = tget t.matrix (ClassTable.cell b a)

/-- R63, R71: every field of a band and the chunk size lie in their ranges. -/
structure ClassTable.Ranged (t : ClassTable) : Prop where
  upper    : ∀ i : Fin 16, (tget t.bands i).upper ≤ 10000
  group    : ∀ i : Fin 16, (tget t.bands i).group ≤ 15
  permille : ∀ i : Fin 16, (tget t.bands i).permille ≤ 100
  litres   : ∀ i : Fin 16, (tget t.bands i).litres ≤ 1000
  chunk    : 1 ≤ t.chunk ∧ t.chunk ≤ 8

/-! ### Rule set and driver table (R105, R107) -/

/-- R107: the figures of the rule set lie in their ranges. -/
structure RulesRanged (x : RuleSet) : Prop where
  lDay    : 60 ≤ x.lDay ∧ x.lDay ≤ 1440
  lCont   : 30 ≤ x.lCont ∧ x.lCont ≤ 600
  lWeek   : 600 ≤ x.lWeek ∧ x.lWeek ≤ 8191
  lSpan   : 60 ≤ x.lSpan ∧ x.lSpan ≤ 1440
  b       : 5 ≤ x.b ∧ x.b ≤ 120
  f       : 1 ≤ x.f ∧ x.f ≤ x.b
  r       : 240 ≤ x.r ∧ x.r ≤ 1440
  reclaim : 1440 ≤ x.reclaim ∧ x.reclaim ≤ 20160

/-- Three figures in R105's order and within their ranges. -/
def FiguresOrdered (day cont week : Nat) : Prop := cont ≤ day ∧ day ≤ week ∧ day ≤ 2047 ∧ week ≤ 8191

/-- R105 of one held entry. -/
structure Driver.Sound (d : Driver) (r : RuleSet) : Prop where
  figures : FiguresOrdered d.day d.cont d.week
  floors  : ∀ w, d.floors = some w → FiguresOrdered w.day w.cont w.week
  credit  : d.credit < r.b
  linked  : d.linked.isSome = true ↔ d.activity ≠ .absent
  started : d.breakStart.isSome = true ↔ d.activity = .onBreak

/-- R105, R107: the rule set lies in its ranges, every held entry is sound, and cards are unique. -/
structure DriversSound (s : State) : Prop where
  rules  : RulesRanged s.rules
  sound  : ∀ e d, s.driver e = some d → d.Sound s.rules
  unique : ∀ e f d g, s.driver e = some d → s.driver f = some g → d.card = g.card → e = f

/-! ### The Time Base (section 6.1) -/

/-- The ranges of the Time Base's registers, and what they hold while the clock is UNSET (R93, R96, R102). -/
structure ClockSound (t : TimeBase) : Prop where
  seconds : t.seconds ≤ 59
  slew    : -300 ≤ t.slew ∧ t.slew ≤ 300
  unset   : t.set = false → t.minutes = 0 ∧ t.seconds = 0 ∧ t.hold = false ∧ t.slew = 0

/-! ### Flags (R17, R170, R171, R196) -/

/-- The condition flags follow their conditions (R17, R170, R171, R196). -/
structure FlagsFollow (s : State) : Prop where
  low    : hasFlag (s.link .office).flags .storeLow = s.storeLow
  log    : hasFlag (s.link .office).flags .logReady = s.logReady
  exc    : hasFlag (s.link .office).flags .excReady = s.excReady
  audit  : hasFlag (s.link .audit).flags .logReady = s.logReady

/-- A flag or mask position that a link does not carry stays clear there (R196, R197). -/
def FlagsCarried (s : State) : Prop :=
  ∀ l, (s.link l).flags &&& ~~~(carried l) = 0 ∧ (s.link l).mask &&& ~~~(carried l) = 0

/-! ### The service table (R18, R19) -/

/-- A table that SERVICE_LOAD accepts: 1 to 32 entries that name every requester (R19). -/
def TableValid (ps : List Requester) : Prop := 1 ≤ ps.length ∧ ps.length ≤ 32 ∧ ∀ p, p ∈ ps

/-- R18, R19: the table in force, and any that a SERVICE_LOAD has presented, is valid, and the index points into
it. The request that a run of the Sweep Unit holds back is none for a table. -/
structure ServiceSound (s : State) : Prop where
  table   : TableValid s.service
  index   : s.index < s.service.length
  waiting : ∀ p ps, s.request p = some (.serviceTable ps) → TableValid ps
  held    : ∀ ps, s.sweep.deferred ≠ some (.serviceTable ps)

/-! ### Lapses (R35, R160) -/

/-- R160, of a part neither in BACKUP nor held by RST: the lapse list holds the LAPSING visits, none twice, and
EXPIRY asks for the lapse of its head. -/
structure LapsesSound (s : State) : Prop where
  once    : s.logs.lapses.Nodup
  lapsing : ∀ v, v ∈ s.logs.lapses ↔ (s.visit v).state = .lapsing
  asked   : s.request .expiry = s.logs.lapses.head?.map fun v => .stamped v .lapsed none

/-! ### The settings and counters of the Log Unit and the store (R10, R155, R156, R170) -/

/-- The reserve, the release window, the LOG threshold and the release code counter lie in their ranges. -/
structure SettingsSound (s : State) : Prop where
  reserve   : s.reserve ≤ 255
  window    : 1 ≤ s.logs.window ∧ s.logs.window ≤ 60
  threshold : 1 ≤ s.logs.threshold ∧ s.logs.threshold ≤ 255
  codes     : s.logs.codes ≤ 65535

/-! ### Records on the logs and on the PENDING lists (R6, R43, R163, R164) -/

/-- The records of a list from head to tail. -/
def Store.recordsOn (st : Store) (l : ListId) : List Record := (st.chain l).map fun i => (st.slot i).record

/-- The slots of a log record: its head and then its compartments (R6). -/
def LogRecord.slots (r : LogRecord) : List Record := .logHead r.head :: r.comps.map .logComp

/-- R6 and R163 of one log: whole records with an outcome of the log, as many as its record count, each with a
number drawn, in strictly ascending order. -/
def LogSound (s : State) (m : LogId) : Prop :=
  ∃ rs : List LogRecord,
    s.store.recordsOn m.list = rs.flatMap LogRecord.slots ∧ rs.length = s.store.records m ∧
    (∀ r ∈ rs, r.head.mark = .complete ∧ r.head.compCount = r.comps.length ∧
      r.head.outcome.map LogOutcome.target = some m ∧ ∃ n, r.head.seq = some n ∧ 1 ≤ n ∧ n ≤ s.logs.seqs) ∧
    rs.Pairwise fun a b => a.head.seq.getD 0 < b.head.seq.getD 0

/-- A record not yet stamped, of which a number of compartment slots are still to be placed (R6, R148). -/
def Unstamped (rs : List Record) (missing : Nat) : Prop :=
  ∃ r : LogRecord, rs = r.slots ∧ r.head.seq = none ∧ r.head.outcome = none ∧
    r.head.compCount = r.comps.length + missing

/-- A whole record that awaits its stamp (R43, R150). -/
def AwaitsStamp (rs : List Record) : Prop :=
  ∃ r : LogRecord, rs = r.slots ∧ r.head.seq = none ∧ r.head.outcome = none ∧ r.head.mark = .complete ∧
    r.head.compCount = r.comps.length

/-- R43 of a PENDING list: what it holds by the state of its visit and the course of its abort (R25, R40, R41). A
check builds a record in CHECKING, and leaves what it built to the abort that cuts it off. -/
def PendingFits (x : Visit) (rs : List Record) : Prop :=
  match x.state, x.abort with
  | .cleared, none | .releasing, none | .lapsing, none => AwaitsStamp rs
  | .checking, none => rs = [] ∨ ∃ n, Unstamped rs n
  | .aborting, some ⟨true, n⟩ => (n = 0 ∧ AwaitsStamp rs) ∨ (1 ≤ n ∧ n ≤ 2 ∧ rs = [])
  | .aborting, some ⟨false, n⟩ =>
      (n ≤ 2 ∧ (rs = [] ∨ ∃ k, Unstamped rs k)) ∨ (n = 3 ∧ rs = []) ∨ (n = 4 ∧ AwaitsStamp rs)
  | .aborting, none => False
  | _, none => rs = []
  | _, some _ => False

/-- The visit whose PENDING list a request changes. -/
def Request.pendingOf : Request → Option VisitNo
  | .alloc (.pend v) _ _ | .write (.pend v) _ _ | .splice (.pend v) _ | .stamped v _ _ => some v
  | _ => none

/-- What a check waits for while it builds (R148 to R150): its head, a further compartment slot, or the completing
write to its head. -/
def Building (s : State) (c : Check) : Prop :=
  let rs := s.store.recordsOn (.pend c.visit)
  (∃ h : LogHead, s.request .check = some (.alloc (.pend c.visit) .opened (.logHead h)) ∧ rs = [] ∧
    h.seq = none ∧ h.outcome = none ∧ h.compCount = c.left.length) ∨
  (∃ k : LogComp, s.request .check = some (.alloc (.pend c.visit) .opened (.logComp k)) ∧
    Unstamped rs (c.left.length + 1)) ∨
  ∃ i minute, s.request .check = some (.write (.pend c.visit) (s.store.ref i) (.complete minute)) ∧
    (s.store.chain (.pend c.visit)).head? = some i ∧ c.left = [] ∧ Unstamped rs 0

/-- What the check in flight waits for, by its phase, and what its visit's PENDING list holds meanwhile (R130 to
R132, R147 to R151). An abandoned check waits for what it had asked, and its abort has had no grant (R39). -/
structure CheckSound (s : State) (c : Check) : Prop where
  build   : c.build = (s.store.chain (.pend c.visit)).map s.store.ref
  reads   : c.phase = .read → c.ask = none ∧ (∃ l i, s.request .check = some (.read l i)) ∧
    s.store.chain (.pend c.visit) = []
  judges  : c.phase = .judge → c.ask ≠ none ∧ s.request .check = none ∧ s.store.chain (.pend c.visit) = []
  builds  : c.phase = .build → c.ask = none ∧ c.stale = false ∧ Building s c
  unwinds : c.phase = .unwind → c.ask = none ∧ c.stale = false ∧
    s.request .check = some (.splice (.pend c.visit) .free)
  leaves  : c.phase = .abandon →
    (s.visit c.visit).state = .aborting ∧ (s.visit c.visit).abort = some ⟨false, 0⟩ ∧
      ((c.ask ≠ none ∧ s.request .check = none) ∨
        (c.ask = none ∧ ((∃ l i, s.request .check = some (.read l i)) ∨ Building s c ∨
          s.request .check = some (.splice (.pend c.visit) .free))))

/-- The abort or the release of a visit is in flight on a link (R34, R38). -/
def EndsVisit (s : State) (l : LinkNo) (v : VisitNo) : Prop :=
  (∃ seq, s.job l = some (.abort v seq)) ∨ s.job l = some (.release v)

/-- Who changes the PENDING lists of a part neither in BACKUP nor held by RST: the one item that aborts or releases
the visit, in the order of its course, the check in flight, and EXPIRY (R34, R35, R38 to R41, R148 to R151). -/
structure WorkSound (s : State) : Prop where
  onebusy  : ∀ l, ((s.link l).bufA.busy && (s.link l).bufB.busy) = false
  idle     : ∀ l, s.job l = none → s.request (linkRequester l) = none
  aborts   : ∀ l v seq, s.job l = some (.abort v seq) →
    (s.visit v).state = .aborting ∧ ∃ c, (s.visit v).abort = some c ∧
      ((c.answered = 0 ∧ s.request (linkRequester l) = none) ∨
        (s.checkHeld v = false ∧ ∃ r, abortRequest v (s.visit v) c = some r ∧
          s.request (linkRequester l) = some r))
  releases : ∀ l v, s.job l = some (.release v) → (s.visit v).state = .releasing ∧
    (s.request (linkRequester l) = some (.splice (.comp v) .free) ∨
      s.request (linkRequester l) = some (.splice (.paper v) .free) ∨
      s.request (linkRequester l) = some (.stamped v .released (s.visit v).passMinute))
  single   : ∀ l m v, EndsVisit s l v → EndsVisit s m v → l = m
  owned    : ∀ l r v, s.request (linkRequester l) = some r → r.pendingOf = some v → EndsVisit s l v
  checks   : ∀ c, s.dcu.check = some c → CheckSound s c
  rests    : s.dcu.check = none → s.request .check = none
  sweeps   : ∀ r, s.request .sweep = some r ∨ s.sweep.deferred = some r → r.pendingOf = none

/-- R6, R43, R163, R164: what the PENDING lists and the two logs hold, that a number is left for every head on a
PENDING list, and who changes these lists. -/
structure RecordsSound (s : State) : Prop where
  pending : ∀ v, PendingFits (s.visit v) (s.store.recordsOn (.pend v))
  logs    : ∀ m, LogSound s m
  once    : ∀ i j h k, (s.store.slot i).record = .logHead h → (s.store.slot j).record = .logHead k →
    h.seq = k.seq → h.seq ≠ none → i = j
  left    : s.logs.seqs + s.store.outstanding ≤ 4294967295
  work    : s.alive = true → WorkSound s

/-! ### Resets (R24, R45, R46, R92, R208) -/

/-- R208: the cause of a line reset at which the work of R209 begins: a release of RST in MAIN, or a return of the
main supply with RST released. -/
def ResetBegins (cause : ResetCause) (s : State) : Prop :=
  match cause with
  | .rstReleased => s.power = .main ∧ s.rst = true
  | .mainReturns => s.power = .backup ∧ s.rst = false

/-- The grants of an abort in their order: R40's for a visit that was CLEARED, R41's for any other. -/
def abortCourse (v : VisitNo) (x : Visit) (cleared : Bool) : List Request :=
  if cleared then [.stamped v .aborted none, .splice (.comp v) .free, .splice (.paper v) .free]
  else
    [.splice (.comp v) .free, .splice (.paper v) .free, .splice (.pend v) .free,
      .alloc (.pend v) .bounded (abortHead v x), .stamped v .aborted none]

/-- The grants of a visit's reset work, in their order: those of its state (R45, R46), and after them the return
that R92 owes, where the visit and its paper are kept. -/
def resetWork (v : VisitNo) (x : Visit) : List Request :=
  let owed : List Request := if x.paperState = .opened ∧ x.accepted = 0 then [.splice (.paper v) .free] else []
  match x.state with
  | .arrived => if x.arrivalMark then [.splice (.comp v) .free] else owed
  | .checking => .splice (.pend v) .free :: owed
  | .cleared | .lapsing => .stamped v .resetLapsed none :: owed
  | .releasing => [.splice (.comp v) .free, .splice (.paper v) .free, .stamped v .released x.passMinute]
  | .aborting =>
      match x.abort with
      | none => []
      | some c => (abortCourse v x c.fromClearance).drop c.answered
  | .free | .assigned | .loading | .loaded | .queued | .held => owed

namespace State

/-- A grant served outside the service table (R24): what it does to the store and the sequence counter, and `none`
where an allocation is refused. -/
def serve (s : State) : Request → Option State
  | .splice source target => some (s.setStore (s.store.splice source target))
  | .stamped v o pass => some (s.stamp v o pass).1
  | .alloc target cls record =>
      if s.allocRefused target cls record then none
      else (s.store.allocate target record).map fun a => s.setStore a.1
  | _ => some s

/-- Grants served one after another, up to an allocation that is refused; the mark says that one was. -/
def serveAll (s : State) : List Request → State × Bool
  | [] => (s, false)
  | r :: rs =>
      match s.serve r with
      | none => (s, true)
      | some t => t.serveAll rs

end State

/-! ### The first grant of an abort (R39, R89) -/

/-- What is left to an abort of a visit when what it waited for may have ended: its first grant is presented by the
requester of its link, unless a paper item or the check of the visit is still in flight; nothing else changes. -/
structure AbortBegins (r t : State) (v : VisitNo) : Prop where
  rest  : t = { r with requests := t.requests }
  waits : r.paperItemHeld v = true ∨ r.checkHeld v = true → t.requests = r.requests
  none  : r.aborts v .office = false → r.aborts v .gate = false → t.requests = r.requests
  asks  : r.paperItemHeld v = false → r.checkHeld v = false →
    ∀ l, (l = .office ∨ (l = .gate ∧ r.aborts v .office = false)) → r.aborts v l = true →
      ∀ cleared, (r.visit v).abort = some ⟨cleared, 0⟩ →
        t.request (linkRequester l) = (abortCourse v (r.visit v) cleared).head? ∧
          ∀ q, q ≠ linkRequester l → t.request q = r.request q

/-! ### What an item leaves (R190 to R192)

These say what the telegram executing on a link becomes, and that no other buffer or receiver changes. Flags and
masks are left out of them: `FlagsKept` says that none changed. -/

/-- An item command is the next item of its link and passes the SL's checks (R191, order 6). -/
def Taken (s : State) (h : Head) (i : Instr) : Prop :=
  s.nextItem h.link = some i ∧ s.slRefusal h.link i = none

/-- No flag and no mask of any link changed. -/
def FlagsKept (s t : State) : Prop := ∀ l, (t.link l).flags = (s.link l).flags ∧ (t.link l).mask = (s.link l).mask

/-- A link of which at most the flags and the mask changed. -/
def SameLine (s t : State) (l : LinkNo) : Prop :=
  t.link l = { s.link l with flags := (t.link l).flags, mask := (t.link l).mask }

/-- The executing buffer of a link was replaced, and no other buffer and no receiver changed. -/
structure Becomes (s t : State) (l : LinkNo) (b : Buffer) : Prop where
  here      : t.link l =
    { (s.link l).putExecuting b with flags := (t.link l).flags, mask := (t.link l).mask }
  elsewhere : ∀ m, m ≠ l → SameLine s t m

/-- The next item of a link was taken and answered: its reply item joins the reply, and the telegram goes on or
its reply is complete (R192). -/
def Replied (s t : State) (h : Head) (i : Instr) (c : Code) (data : List Byte) : Prop :=
  ∃ e, s.executing h.link = some e ∧
    Becomes s t h.link (Execution.onward h.link
      { e with left := e.left.tail, cur := none, reply := e.reply ++ replyItem i.kind h.tag c data })

/-- One requester's request is as given, and every other's as before (R8). -/
def Requests (s t : State) (p : Requester) (r : Option Request) : Prop :=
  t.request p = r ∧ ∀ q, q ≠ p → t.request q = s.request q

/-- The next item of a link was taken and goes on with a course, its request presented by the link's requester
(R190). -/
def Asked (s t : State) (h : Head) (i : Instr) (j : Job) (r : Request) : Prop :=
  (∃ e, s.executing h.link = some e ∧
    Becomes s t h.link (.executing { e with left := e.left.tail, cur := some ⟨i.kind, h.tag, j⟩ })) ∧
  Requests s t (linkRequester h.link) (some r)

/-- The item in flight on a link completed with an outcome and its reply data (R192). -/
def Completed (s t : State) (l : LinkNo) (c : Code) (data : List Byte) : Prop :=
  ∃ e k, s.executing l = some e ∧ e.cur = some k ∧
    Becomes s t l (Execution.onward l { e with reply := e.reply ++ replyItem k.kind k.tag c data })

/-- The item in flight on a link goes on with another course and its next request (R190). -/
def GoesOn (s t : State) (l : LinkNo) (j : Job) (r : Request) : Prop :=
  (∃ e k, s.executing l = some e ∧ e.cur = some k ∧
    Becomes s t l (.executing { e with cur := some { k with job := j } })) ∧
  Requests s t (linkRequester l) (some r)

/-! ### A step of a link, whole

Each of these compares the state after a step with a state `r` that holds every other effect of the step: beyond
the line of the link (and the request that it presents) nothing differs from `r`. -/

/-- The next item of a link was taken and answered, and every other effect is that of `r`. -/
structure Answered (r t : State) (h : Head) (i : Instr) (c : Code) (data : List Byte) : Prop where
  rest  : t = { r with links := t.links }
  reply : Replied r t h i c data
  flags : FlagsKept r t

/-- The next item of a link was taken and waits for a grant, and every other effect is that of `r`. -/
structure Waits (r t : State) (h : Head) (i : Instr) (j : Job) (q : Request) : Prop where
  rest  : t = { r with links := t.links, requests := t.requests }
  asked : Asked r t h i j q
  flags : FlagsKept r t

/-- The item in flight on a link was answered, and every other effect is that of `r`. -/
structure Finished (r t : State) (l : LinkNo) (c : Code) (data : List Byte) : Prop where
  rest  : t = { r with links := t.links }
  reply : Completed r t l c data
  flags : FlagsKept r t

/-- The item in flight on a link goes on to its next grant, and every other effect is that of `r`. -/
structure Continues (r t : State) (l : LinkNo) (j : Job) (q : Request) : Prop where
  rest  : t = { r with links := t.links, requests := t.requests }
  asked : GoesOn r t l j q
  flags : FlagsKept r t

/-! ### Bytes laid out by a table (11.6)

The statements give the layouts by the offsets and widths of the manual's tables, not by the model's encoder. -/

/-- A number in so many bytes, most significant byte first, in two's complement where it is below 0 (R198). -/
def wireBytes (width : Nat) (n : Int) : List Byte :=
  (List.range width).reverse.map fun k => BitVec.ofInt 8 (n / 256 ^ k)

/-- A run of bytes follows a table of 11.6: it has so many bytes, and at the offset of each row its number stands in
the row's bytes. A row is its offset, its width and its number. -/
def LaidOut (all : List Byte) (size : Nat) (rows : List (Nat × Nat × Int)) : Prop :=
  all.length = size ∧ ∀ row ∈ rows, (all.drop row.1).take row.2.1 = wireBytes row.2.1 row.2.2

end Sys2Proof.Machine
end

