-- ==== Sys2Proof/Certificates/Slice0/Obligations.lean ====
section
/-! DEFINITION. The statements for the provers. Each says what a command or the part does, from the numbered rules
of spec/; a statement that rests on a choice of the model says so and names the log entry. -/

open Sys2Proof Sys2Proof.Machine

/-! ### The queue of commands -/

/-- The command at the front of the queue is executed with the queue's rest; on an empty queue the part idles, which
is the model's choice (log 2, log 3). -/
def Obligations.StepTakesTheFront : Prop :=
  (∀ (c : Instr) (cs : List Instr) (s : State),
    step { s with pending := c :: cs } = exec c { s with pending := cs }) ∧
  ∀ s : State, s.pending = [] → step s = .next s

/-- No command changes the queue behind it: the queue is the model's own field (log 3). -/
def Obligations.CommandsLeaveTheQueue : Prop :=
  ∀ (c : Instr) (s t : State), exec c s = .next t → t.pending = s.pending

/-! ### Resets and supplies -/

/-- R23: the store after a cold start. -/
def Obligations.ColdStartStore : Prop :=
  ∀ (a b : Bool) (s : State), ∃ t, exec (.coldStart a b) s = .next t ∧
    (∀ i : SlotNo, (t.store.slot i).record = .none ∧ (t.store.slot i).alloc = 0 ∧
      (t.store.slot i).owner = .free ∧
      (t.store.slot i).next = fin? 1024 (i.val + 1)) ∧
    t.store.chain .free = List.finRange 1024 ∧
    t.store.desc .free = ⟨some 0, some 1023, 1024⟩ ∧
    (∀ l : ListId, l ≠ .free → t.store.desc l = ⟨none, none, 0⟩) ∧
    t.store.logRecords = 0 ∧ t.store.excRecords = 0 ∧
    t.reserve = 64 ∧ t.storeLow = false ∧
    t.service = [.p1, .p2, .check, .p0, .p1, .p2, .check, .expiry, .p3, .sweep] ∧ t.index = 0 ∧
    ∀ p : Requester, t.request p = none

/-- R44, R61, R91, R126, R153, R74, R102, R172: the records of visits, windows, papers, drivers and checks, the class
table, the clock and the Log Unit after a cold start. -/
def Obligations.ColdStartRecordsAndTables : Prop :=
  (∀ (a b : Bool) (s : State), ∃ t, exec (.coldStart a b) s = .next t ∧
     (∀ v : VisitNo, (t.visit v).state = .free ∧ (t.visit v).tag = 0 ∧ (t.visit v).arrivalMark = false ∧
       (t.visit v).heldOrigin = false ∧ (t.visit v).lapsed = false ∧ (t.visit v).declarationLow = false ∧
       (t.visit v).recheckFail = false ∧ (t.visit v).paperState = .none ∧ (t.visit v).accepted = 0 ∧
       (t.visit v).arrival = none ∧ (t.visit v).bay = none ∧ (t.visit v).paper = none ∧
       (t.visit v).lastCheck = none ∧ (t.visit v).clearance = none ∧ (t.visit v).passMinute = none ∧
       (t.visit v).abort = none ∧ (t.store.desc (.paper v)).count = 0) ∧
     (∀ i : SlotNo, (t.store.slot i).record = .none) ∧
     (∀ w : BayIx, t.window w = none) ∧
     (∀ e : EntryNo, t.driver e = none) ∧
     t.rules = ⟨600, 300, 3300, 810, 30, 10, 660, 10080⟩ ∧
     t.time.set = false ∧ t.time.minutes = 0 ∧
     t.dcu.queue = [] ∧ t.dcu.check = none ∧
     hasFlag (t.link .loading).flags .mapMiss = false ∧
     hasFlag (t.link .office).flags .paperClosed = false ∧
     hasFlag (t.link .gate).flags .checkDone = false) ∧
  ∀ (a b : Bool) (s : State), ∃ t, exec (.coldStart a b) s = .next t ∧
    (∀ i : Fin 16, tget t.classes.bands i = ⟨0, 0, 0, 0, false⟩) ∧
    (∀ code : Nat, t.classes.lookup code = .unclassified) ∧ t.classes.covers = false ∧
    (∀ g h : Nat, t.classes.marked g h = false) ∧ t.classes.chunk = 4 ∧
    t.time.set = false ∧ t.time.minutes = 0 ∧ t.time.seconds = 0 ∧ t.time.hold = false ∧ t.time.slew = 0 ∧
    exec .tbasePulse t = .next t ∧
    t.logs.codes = 0 ∧ State.nextCode t.logs.codes = 1 ∧ t.logs.seqs = 0 ∧ t.logs.takeLog = none ∧
    t.logs.takeExc = none ∧ t.logs.window = 10 ∧ t.logs.threshold = 1 ∧ t.logs.lapses = [] ∧
    (t.store.desc .log).count = 0 ∧ (t.store.desc .exception).count = 0 ∧
    (∀ v : VisitNo, (t.store.desc (.pend v)).count = 0) ∧ t.store.outstanding = 0 ∧
    t.logReady = false ∧ t.excReady = false ∧
    hasFlag (t.link .gate).flags .clearanceLapsed = false ∧
    ∀ (st : Store) (v : VisitNo) (o : LogOutcome) (p : Option Nat) (n : Nat),
      (({ t with store := st } : State).stamp v o p).2 = some n → n = 1

/-- The links, the straps, Configuration Control and the Sweep Unit after a cold start (11.7, 12.3, 10.6); a cold
start needs no particular state before it and leaves the queue (log 7). RST is a pin, and the part begins in the
line reset where it is asserted (R208). -/
def Obligations.ColdStartLinksAndControl : Prop :=
  ∀ (a b : Bool) (s : State), ∃ t, exec (.coldStart a b) s = .next t ∧
    t.pending = s.pending ∧ t.power = .main ∧ t.rst = s.rst ∧
    t.rate = (if a then (if b then .r230400 else .r115200) else if b then .r57600 else .r19200) ∧
    (∀ l : LinkNo, (t.link l).rx = .hunting ∧ (t.link l).bufA = .empty ∧ (t.link l).bufB = .empty ∧
      (t.link l).flags = 0 ∧ (t.link l).mask = 0 ∧ t.attention l = false) ∧
    t.cc.run = .config ∧ t.cc.locked = false ∧ t.cc.keep = false ∧ t.cc.identity = none ∧ t.cc.label = none ∧
    t.sweep.status.state = .idle ∧ t.sweep.status.examined = 0 ∧ t.sweep.status.failures = 0 ∧
    t.sweep.status.opcode = none ∧ t.sweep.status.scope = none ∧ t.sweep.status.position = none ∧
    t.sweep.status.first = none ∧ t.sweep.status.last = none

/-- When the work of a line reset begins, what the reset keeps, and what it returns to its defaults (12.3, and the reset
section of each chapter). At a release of RST in BACKUP, and at a return of the main supply under an asserted RST,
the work waits; a cause that is not there changes nothing. That the cause and the straps come with the command is the
model's choice (log 1, log 6). -/
def Obligations.LineResetKeepsAndReturns : Prop :=
  ∀ (cause : ResetCause) (p : Straps) (s : State),
    (¬ ResetBegins cause s → exec (.lineReset cause p) s = .next
      (match cause with
        | .rstReleased => { s with rst := false }
        | .mainReturns => if s.power = .backup then { s with power := .main } else s)) ∧
    (ResetBegins cause s → ∃ t, exec (.lineReset cause p) s = .next t ∧
      t.power = .main ∧ t.rst = false ∧ t.rate = BitRate.ofStraps p.rate1 p.rate0 ∧
      t.cc = { s.cc with
        keep := false
        run := if (s.cc.keep || s.cc.locked) && s.classes.covers then .run else .config } ∧
      (if s.cc.keep || s.cc.locked then
        t.rules = s.rules ∧ t.classes = s.classes ∧ t.service = s.service ∧ t.reserve = s.reserve ∧
          t.logs.window = s.logs.window ∧ t.logs.threshold = s.logs.threshold ∧ t.drivers = s.drivers
       else
        t.rules = defaultRules ∧ t.classes = ClassTable.cold ∧ t.service = defaultService ∧ t.reserve = 64 ∧
          t.logs.window = 10 ∧ t.logs.threshold = 1 ∧
          ∀ e : EntryNo, t.driver e = (s.driver e).map fun d => if 30 ≤ d.credit then { d with credit := 29 } else d) ∧
      t.index = 0 ∧ (∀ q : Requester, t.request q = none) ∧ t.dcu.queue = [] ∧ t.dcu.check = none ∧
      t.windows = s.windows ∧ t.time = { s.time with events := [] } ∧
      t.logs.lapses = [] ∧ t.logs.codes = s.logs.codes ∧ t.logs.takeLog = s.logs.takeLog ∧
      t.logs.takeExc = s.logs.takeExc ∧ s.logs.seqs ≤ t.logs.seqs ∧
      t.sweep.work = .none ∧ t.sweep.orphan = false ∧ t.sweep.deferred = none ∧
      t.sweep.status =
        (if s.sweep.status.state = .running then { s.sweep.status with state := .aborted, position := none }
         else s.sweep.status) ∧
      FlagsFollow t ∧
      ∀ l : LinkNo, (t.link l).rx = .hunting ∧ (t.link l).bufA = .empty ∧ (t.link l).bufB = .empty ∧
        (t.link l).mask = 0 ∧ t.attention l = false ∧
        (t.link l).flags &&& ~~~(conditionBits ||| (if l = .office then Flag.unrecorded.bit else 0)) = 0)

/-- R45, R46: every visit after the reset work, by its state before it; every other visit is kept. R24, R92: the store
after it. The grants of the visits' reset work (`resetWork`: which chains are returned, which go to EXCEPTION as
RESET_LAPSED or ABORTED and to LOG as RELEASED) are served one visit after another in ascending number, so they draw
their sequence numbers in that order, and UNRECORDED stands exactly where an abort's head found no slot. That the
return R92 owes comes last within a visit is the model's choice (log 27). -/
def Obligations.LineResetSettlesVisits : Prop :=
  ∀ (cause : ResetCause) (p : Straps) (s : State), ResetBegins cause s →
    ∃ t, exec (.lineReset cause p) s = .next t ∧
      (∀ v : VisitNo, t.visit v =
        match (s.visit v).state with
        | .queued | .checking =>
            { s.visit v with
              state := if (s.visit v).heldOrigin then .held else .loaded
              heldOrigin := false }
        | .cleared | .lapsing => { s.visit v with state := .loaded, lapsed := true, clearance := none }
        | .releasing | .aborting => Visit.freed (s.visit v).tag
        | .arrived => if (s.visit v).arrivalMark then Visit.freed (s.visit v).tag else s.visit v
        | .free | .assigned | .loading | .loaded | .held => s.visit v) ∧
      let begun : State := { s with reserve := if s.cc.keep || s.cc.locked then s.reserve else 64 }
      let ended : State × Bool := (List.finRange 48).foldl
        (fun u v => let r := u.1.serveAll (resetWork v (s.visit v)); (r.1, u.2 || r.2)) (begun, false)
      t.store = ended.1.store ∧ t.logs.seqs = ended.1.logs.seqs ∧
        hasFlag (t.link .office).flags .unrecorded = ended.2

/-- REPLY_SENT: the reply of an accepted RESTART ends in a reset taken as a line reset at the same straps is, at the
release of an RST asserted before it; after any other reply the buffer is EMPTY, and a telegram waiting in the other
buffer begins to execute (11.2, R193). -/
def Obligations.RepliesEndOrRestart : Prop :=
  ∀ (l : LinkNo) (s : State) (r : List Byte), s.alive = true →
    ((s.link l).replying = some (r, true) →
      ∀ p : Straps, BitRate.ofStraps p.rate1 p.rate0 = s.rate →
        ∃ t, exec (.replySent l) s = .next t ∧
          exec (.lineReset .rstReleased p) { s with rst := true } = .next t) ∧
    ((s.link l).bufA = .replying r false →
      exec (.replySent l) s = .next (s.setLink l
        (match (s.link l).bufB with
          | .waiting w => { s.link l with bufA := .empty, bufB := beginTelegram l w }
          | _ => { s.link l with bufA := .empty }))) ∧
    ((s.link l).bufB = .replying r false → (s.link l).bufA.busy = false →
      exec (.replySent l) s = .next (s.setLink l
        (match (s.link l).bufA with
          | .waiting w => { s.link l with bufB := .empty, bufA := beginTelegram l w }
          | _ => { s.link l with bufB := .empty })))

/-- RST and the supplies (12.3), and what is taken while the part is held: in BACKUP and while RST is asserted nothing
but supplies, resets and pulses of the Time Base (R208). That an asserted RST cuts the links off at once, what a part
without its retained memory holds, and that a command that is not due changes nothing, are the model's choices (log 1,
log 8, log 9, log 10). -/
def Obligations.SuppliesAndRst : Prop :=
  (∀ s : State,
     (∃ t, exec .rstAssert s = .next t ∧ t = { s with rst := true, links := t.links } ∧ t.alive = false ∧
       ∀ l, t.link l = { s.link l with rx := .hunting, bufA := .empty, bufB := .empty }) ∧
     (s.power = .main → ∃ t, exec .mainSupplyLoss s = .next t ∧
       t = { s with
         power := .backup, links := t.links, requests := t.requests, dcu := ⟨[], none⟩
         logs := { s.logs with lapses := [] }, time := { s.time with events := [] } } ∧
       (∀ p : Requester, t.request p = none) ∧
       ∀ l, t.link l = { s.link l with rx := .hunting, bufA := .empty, bufB := .empty }) ∧
     ∃ t, exec .backupSupplyLoss s = .next t ∧ t.alive = false ∧ t.power = .lost ∧ t.rst = s.rst ∧
       ∀ a b, exec (.coldStart a b) t = exec (.coldStart a b) s) ∧
  ∀ (c : Instr) (s : State), s.alive = false →
    exec c s = .next s ∨ (∃ cause p, c = .lineReset cause p) ∨ (∃ a b, c = .coldStart a b) ∨ c = .rstAssert ∨
      c = .mainSupplyLoss ∨ c = .backupSupplyLoss ∨ c = .tbasePulse ∨ c = .minuteEnd

/-! ### Telegrams -/

/-- TELEGRAM_START in READY: the first byte takes an EMPTY buffer, or is dropped with OVERRUN. GAP: HUNTING becomes
READY, and a telegram being received is dropped with TELEGRAM_ERROR (11.1, 11.2). That buffer A is taken where both
are EMPTY is the model's choice (log 19). -/
def Obligations.CharactersAndGaps : Prop :=
  (∀ (l : LinkNo) (c : RxChar) (s : State), s.alive = true → (s.link l).rx = .ready →
     exec (.telegramStart l c) s = .next (s.setLink l
       (if (s.link l).bufA = .empty then
         { s.link l with rx := .receiving, bufA := .filling [c.byte] c.framing }
        else if (s.link l).bufB = .empty then
         { s.link l with rx := .receiving, bufB := .filling [c.byte] c.framing }
        else { s.link l with rx := .hunting, flags := (s.link l).flags ||| Flag.overrun.bit }))) ∧
  ∀ (l : LinkNo) (s : State), s.alive = true →
    exec (.gap l) s = .next (s.setLink l
      (if (s.link l).rx = .receiving then
        { (s.link l).putFilling .empty with
          rx := .ready, flags := (s.link l).flags ||| Flag.telegramError.bit }
       else { s.link l with rx := .ready }))

/-- A telegram of well formed items, sent as its bytes with no gap, is accepted whole: its items are those that were
sent, and it begins to execute, or waits while the other buffer executes or replies (11.1, 11.2, 11.6). It takes buffer
A where that is EMPTY, which is the model's choice where both are (log 19), and buffer B where only B is. That the
characters after the first come as one command is the model's choice too (log 4). -/
def Obligations.SoundTelegramsAreAccepted : Prop :=
  ∀ (l : LinkNo) (s : State) (t : Telegram) (b : Byte) (bs : List Byte),
    s.alive = true → (s.link l).rx = .ready →
    t.number < 65536 → 1 ≤ t.items.length → t.items.length ≤ 16 → (∀ i ∈ t.items, i.body.length ≤ 249) →
    putTelegram t = b :: bs → bs.length + 1 ≤ 512 →
    let sent (k : Link) : Prop :=
      ∃ u, exec (.telegramStart l ⟨b, false⟩) s = .next u ∧
        exec (.telegramEnd l (bs.map fun x => ⟨x, false⟩)) u = .next (s.setLink l k)
    ((s.link l).bufA = .empty → sent
      { s.link l with bufA := if (s.link l).bufB.busy then .waiting t else beginTelegram l t }) ∧
    ((s.link l).bufA.busy = true → (s.link l).bufB = .empty → sent { s.link l with bufB := .waiting t })

/-- A telegram with a framing error, or one whose bytes fail a check, is dropped with TELEGRAM_ERROR when it ends by
its length field, and so is one of 512 bytes whose length field is none (11.1, 11.2). -/
def Obligations.UnsoundTelegramsAreDropped : Prop :=
  ∀ (l : LinkNo) (s : State) (bs : List Byte) (f : Bool) (cs : List RxChar),
    s.alive = true → (s.link l).rx = .receiving → (s.link l).filling = some (bs, f) → cs ≠ [] →
    let all := bs ++ cs.map RxChar.byte
    let framing := f || cs.any RxChar.framing
    ∀ n, Link.lengthField all = some n →
      ((8 ≤ n ∧ n ≤ 512 ∧ all.length = n ∧ (framing = true ∨ parseTelegram all = none)) →
        exec (.telegramEnd l cs) s = .next (s.setLink l
          { (s.link l).putFilling .empty with
            rx := if framing then .hunting else .ready
            flags := (s.link l).flags ||| Flag.telegramError.bit })) ∧
      (((n < 8 ∨ 512 < n) ∧ all.length = 512) →
        exec (.telegramEnd l cs) s = .next (s.setLink l
          { (s.link l).putFilling .empty with
            rx := .hunting, flags := (s.link l).flags ||| Flag.telegramError.bit }))

/-- Every item that fits its encoding is decoded from its bytes as it was meant, on the link it is sent on, and its
length fits the item length byte (11.4, 11.6). The order of the fields in the bodies that no table lays out is read
from the rules that name them (log 25). The frame and the headers of request and reply items stand as the tables of
11.6 lay them out, most significant byte first (R198), and the outcome codes are numbered as R195 has them. -/
def Obligations.ItemsDecodeAsEncoded : Prop :=
  (∀ (h : Head) (i : Instr), i.wf = true → i.head? = some h →
    decodeItem h.link (encodeItem h i) = some i ∧ (encodeItem h i).body.length ≤ 249) ∧
  (∀ i : RawItem, LaidOut (putItem i) (6 + i.body.length)
      [(0, 1, i.kind.toNat), (1, 1, i.tag.toNat), (2, 1, 6 + i.body.length), (3, 1, i.target0.toNat),
        (4, 1, i.target1.toNat), (5, 1, i.target2.toNat)] ∧
    (putItem i).drop 6 = i.body) ∧
  (∀ (kind tag : Nat) (c : Code) (data : List Byte),
    LaidOut (replyItem kind tag c data) (5 + data.length)
      [(0, 1, kind), (1, 1, tag), (2, 2, 5 + data.length), (4, 1, c.value)] ∧
    (replyItem kind tag c data).drop 5 = data) ∧
  (∀ (number count : Nat) (items : List Byte),
    let all := putFrame number count items
    LaidOut all (7 + items.length)
      [(0, 2, 7 + items.length), (2, 2, number), (4, 1, count),
        (5 + items.length, 2, (crc16 (all.take (5 + items.length))).toNat)] ∧
    (all.drop 5).take items.length = items) ∧
  [Code.done, .doneClamped, .donePartial, .ignored, .already, .abortedUnrecorded].map Code.value = List.range 6 ∧
  [Code.rights, .state, .busy, .staleVisit, .notMapped, .mixedProduct, .visitsFull, .driversFull, .driverOnSite,
    .storeFull, .queueFull, .bayBusy, .paperPresent, .clockUnset, .late, .badCode, .locked, .tableInvalid,
    .malformed].map Code.value = List.range' 16 19

/-- The check of an item at its link (11.3): the first condition that holds refuses it, and the refusal changes
nothing but the line. The kinds that each role may send (R194), those refused in CONFIG (R203) and the room that each
kind reserves (R192) are those of the tables. After an item the next one of the telegram is due, and after the last
the reply is framed (R190, R192). An item that spells no command is answered MALFORMED when it comes up, and the next
follows it (R191, order 2); that it takes no step of its own is the model's choice (log 5). -/
def Obligations.LinksRefuseItems : Prop :=
  (∀ (h : Head) (i : Instr) (s : State) (e : Execution),
     i.head? = some h → s.nextItem h.link = some i → s.executing h.link = some e →
     let room := match i with
       | .logTake _ n | .excTake _ n => 16 + 144 * n
       | .logPeek _ _ n | .excPeek _ _ n => 12 + 144 * n
       | .visitRead _ _ true => 197
       | .visitRead _ _ false => 53
       | _ => 64
     let tooLong := 2048 < 7 + e.reply.length + 5 + room
     (e.restart = true ∨ mayUse h.link i.kind = false ∨
       (s.cc.run = .config ∧ configRefuses i.kind = true) ∨ tooLong) →
     ∃ t, exec i s = .next t ∧
       Answered s t h i
         (if e.restart then .malformed
          else if mayUse h.link i.kind = false then .rights
          else if s.cc.run = .config ∧ configRefuses i.kind = true then .state
          else .malformed) []) ∧
  (∀ (l : LinkNo) (k : Nat), mayUse l k = true ↔
    k ∈ [34, 35, 36, 37, 38] ∨ k ∈ (match l with
      | .office => List.range' 1 18
      | .loading => [19, 20, 21, 22]
      | .gate => [16, 23, 24, 25, 26, 27]
      | .audit => [28, 29, 30, 31, 32, 33])) ∧
  (∀ k : Nat, configRefuses k = true ↔ k ∈ [14, 15, 17, 18, 19, 20, 21, 22, 23, 24, 25, 26, 27]) ∧
  ∀ (l : LinkNo) (e : Execution),
    Execution.onward l { e with left := [] } = .replying (putFrame e.number e.count e.reply) e.restart ∧
    ∀ (i : RawItem) (is : List RawItem),
      (decodeItem l i ≠ none → Execution.onward l { e with left := i :: is } =
        .executing { e with left := i :: is, cur := none }) ∧
      (decodeItem l i = none → Execution.onward l { e with left := i :: is } =
        Execution.onward l
          { e with left := is, reply := e.reply ++ replyItem i.kind.toNat i.tag.toNat .malformed [] })

/-! ### The Time Base -/

/-- SET_TIME and ADJUST_TIME (6.2). -/
def Obligations.SetAndAdjustTime : Prop :=
  (∀ (h : Head) (minute seconds : Nat) (s : State), Taken s h (.setTime h minute seconds) →
     ∃ t, exec (.setTime h minute seconds) s = .next t ∧
       if 59 < seconds then Answered s t h (.setTime h minute seconds) .malformed []
       else if s.time.set then
         Answered s t h (.setTime h minute seconds) .ignored (timeReport s.time)
       else
         let time := { s.time with set := true, minutes := minute, seconds, hold := false }
         Answered { s with time } t h (.setTime h minute seconds) .done (timeReport time)) ∧
  ∀ (h : Head) (offset : Int) (s : State), Taken s h (.adjustTime h offset) →
    ∃ t, exec (.adjustTime h offset) s = .next t ∧
      if s.time.set then
        let time := { s.time with slew := max (-300) (min 300 offset) }
        Answered { s with time } t h (.adjustTime h offset)
          (if offset < -300 ∨ 300 < offset then .doneClamped else .done) (timeReport time)
      else Answered s t h (.adjustTime h offset) .clockUnset []

/-- TBASE_PULSE and MINUTE_END (6.1, 6.2): a pulse clears the hold mark, counts a second, or ends the minute; the
minute end steps the count, gives the Visit Controller the minute event while it is there, and shapes the next
minute by the slew. That both commands carry out the minute end is the model's choice (log 11). -/
def Obligations.PulsesCountAndEndMinutes : Prop :=
  ∀ s : State, s.power ≠ .lost →
    let ends : State :=
      { s with time :=
        { s.time with
          minutes := if s.time.minutes < 4294967295 then s.time.minutes + 1 else s.time.minutes
          seconds := if 0 < s.time.slew then 1 else 0
          hold := decide (s.time.slew < 0)
          slew := if 0 < s.time.slew then s.time.slew - 1 else if s.time.slew < 0 then s.time.slew + 1 else 0
          events :=
            if s.alive = true ∧ s.time.minutes < 4294967295 then s.time.events ++ [s.time.minutes + 1]
            else s.time.events } }
    (s.time.set = false → exec .tbasePulse s = .next s ∧ exec .minuteEnd s = .next s) ∧
    (s.time.set = true → s.time.hold = true →
      exec .tbasePulse s = .next { s with time := { s.time with hold := false } }) ∧
    (s.time.set = true → s.time.hold = false → s.time.seconds < 59 →
      exec .tbasePulse s = .next { s with time := { s.time with seconds := s.time.seconds + 1 } }) ∧
    (s.time.set = true → s.time.hold = false → s.time.seconds = 59 →
      exec .tbasePulse s = .next ends ∧ exec .minuteEnd s = .next ends)

/-- R98: a minute is 59, 60 or 61 pulses long as the slew that stood at its beginning was above, at or below 0. R94: the
minute count never decreases, but for a cold start and the loss of the retained memory. -/
def Obligations.MinutesRunForward : Prop :=
  (∀ s : State, s.power ≠ .lost → s.time.atEnd = true → s.time.minutes + 1 < 4294967295 →
     let length := if 0 < s.time.slew then 59 else if s.time.slew = 0 then 60 else 61
     let after (n : Nat) : State := Nat.iterate State.pulse n s.pulse
     (∀ n < length, (after n).time.minutes = s.time.minutes + 1) ∧
       (after length).time.minutes = s.time.minutes + 2) ∧
  ∀ (c : Instr) (s t : State), ClockSound s.time → (∀ a b, c ≠ .coldStart a b) → c ≠ .backupSupplyLoss →
    exec c s = .next t → s.time.minutes ≤ t.time.minutes

/-- MINUTE_EVENT (2.5, 9.3): the oldest minute event is taken; every CLEARED visit whose deadline it reaches becomes
LAPSING and joins the lapse list in ascending number, and EXPIRY presents the head's splice. At its grant (R35, R160)
the visit becomes LOADED with LAPSED set, CLEARANCE_LAPSED is raised on the GATE link, and EXPIRY presents the next
splice. -/
def Obligations.ClearancesLapse : Prop :=
  (∀ (s : State) (n : Nat) (events : List Nat), s.alive = true → s.time.events = n :: events →
     ∃ t, exec .minuteEvent s = .next t ∧
       let due (v : VisitNo) : Prop :=
         (s.visit v).state = .cleared ∧ ∃ c, (s.visit v).clearance = some c ∧ c.deadline ≤ n
       t = { s with
         visits := t.visits, requests := t.requests, logs := { s.logs with lapses := t.logs.lapses }
         time := { s.time with events } } ∧
       (∀ v, (due v → t.visit v = { s.visit v with state := .lapsing, clearance := none }) ∧
         (¬ due v → t.visit v = s.visit v)) ∧
       (∃ new, t.logs.lapses = s.logs.lapses ++ new ∧ new.Pairwise (· < ·) ∧ ∀ v, v ∈ new ↔ due v) ∧
       Requests s t .expiry
         (match s.request .expiry with
           | some q => some q
           | none => t.logs.lapses.head?.map fun v => .stamped v .lapsed none)) ∧
  ∀ (s : State) (v : VisitNo) (vs : List VisitNo),
    s.grant = some (.expiry, .stamped v .lapsed none) → (s.visit v).state = .lapsing → s.logs.lapses = v :: vs →
    ∃ t, exec .stampedSplice s = .next t ∧
      let u := ((s.granted .expiry).stamp v .lapsed none).1.follow.raise .gate .clearanceLapsed
      t = { u with
        visits := tset s.visits v { s.visit v with state := .loaded, lapsed := true }
        logs := { u.logs with lapses := vs }
        requests := tset s.requests Requester.expiry.ix (vs.head?.map fun w => .stamped w .lapsed none) }

/-! ### Setup -/

/-- What a report to the DCU does (8.5): a check in READ or JUDGE that it concerns is marked stale, and ends RETRY in
the step in which nothing of it is waiting; any other check is left as it stands. -/
def Obligations.ReportsMarkTheCheckStale : Prop :=
  ∀ (s : State) (v : Option VisitNo),
    (∀ c, s.dcu.check = some c → (c.phase = .read ∨ c.phase = .judge) → (v = none ∨ v = some c.visit) →
      (s.checkWaits c = true → s.report v = s.setDcu { s.dcu with check := some { c with stale := true } }) ∧
      (s.checkWaits c = false → (s.visit c.visit).state = .checking →
        s.report v = { s with
          visits := tset s.visits c.visit
            { s.visit c.visit with
              state := .loaded, heldOrigin := false, clearance := none
              lastCheck := some ⟨.retry, none, none, 0, 0⟩ }
          dcu := { s.dcu with check := none }
          links := (s.raise .gate .checkDone).links })) ∧
    ((∀ c, s.dcu.check = some c →
        (c.phase ≠ .read ∧ c.phase ≠ .judge) ∨ (v ≠ none ∧ v ≠ some c.visit)) →
      s.report v = s)

/-- RULES_LOAD (7.2): each figure is clamped to its range, F after B; every break credit of the new B or more
becomes B - 1; the write is reported to the DCU. -/
def Obligations.RulesLoadStoresClampedRules : Prop :=
  ∀ (h : Head) (r : RuleSet) (s : State), Taken s h (.rulesLoad h r) →
    ∃ t, exec (.rulesLoad h r) s = .next t ∧
      if s.cc.locked then Answered s t h (.rulesLoad h r) .locked []
      else
        let b := max 5 (min 120 r.b)
        let stored : RuleSet :=
          { lDay := max 60 (min 1440 r.lDay), lCont := max 30 (min 600 r.lCont)
            lWeek := max 600 (min 8191 r.lWeek), lSpan := max 60 (min 1440 r.lSpan)
            b, f := max 1 (min b r.f), r := max 240 (min 1440 r.r)
            reclaim := max 1440 (min 20160 r.reclaim) }
        let capped (d : Driver) : Driver := if b ≤ d.credit then { d with credit := b - 1 } else d
        let u : State := { s with rules := stored, drivers := s.drivers.map (Option.map capped) }
        Answered (u.report none) t h (.rulesLoad h r) (if stored = r then .done else .doneClamped)
          (rulesBytes stored)

/-- BAND_LOAD (4.2): the form, then LOCKED, then the whole band is replaced with its tolerances clamped. SEG_LOAD and
CHUNK_SIZE (4.3, 4.4). Each write is reported to the DCU. That a setting of 0 is MARKED and 1 CLEAR is read from R70's
order (log 15). -/
def Obligations.ClassTableLoads : Prop :=
  (∀ (h : Head) (band upper group permille litres : Nat) (pr : Bool) (s : State),
     let i := Instr.bandLoad h band upper group permille litres pr
     Taken s h i →
     ∃ t, exec i s = .next t ∧
       if hn : band < 16 then
         if 10000 < upper ∨ 15 < group then Answered s t h i .malformed []
         else if s.cc.locked then Answered s t h i .locked []
         else
           let table : ClassTable :=
             { s.classes with
               bands := tset s.classes.bands ⟨band, hn⟩ ⟨upper, group, min permille 100, min litres 1000, pr⟩ }
           Answered ((s.setClasses table).report none) t h i
             (if 100 < permille ∨ 1000 < litres then .doneClamped else .done) (State.bandBytes table ⟨band, hn⟩)
       else Answered s t h i .malformed []) ∧
  (∀ (h : Head) (a b setting : Nat) (s : State), Taken s h (.segLoad h a b setting) →
    ∃ t, exec (.segLoad h a b setting) s = .next t ∧
      if hf : a < 16 ∧ b < 16 ∧ setting < 2 then
        if s.cc.locked then Answered s t h (.segLoad h a b setting) .locked []
        else
          let x : Fin 16 := ⟨a, hf.1⟩
          let y : Fin 16 := ⟨b, hf.2.1⟩
          ∃ table : ClassTable,
            table.bands = s.classes.bands ∧ table.chunk = s.classes.chunk ∧
            (∀ g k : Fin 16, tget table.matrix (ClassTable.cell g k) =
              if (g = x ∧ k = y) ∨ (g = y ∧ k = x) then decide (setting = 0)
              else tget s.classes.matrix (ClassTable.cell g k)) ∧
            Answered ((s.setClasses table).report none) t h (.segLoad h a b setting) .done
              (put8 a ++ put8 b ++ put8 setting)
      else Answered s t h (.segLoad h a b setting) .malformed []) ∧
  ∀ (h : Head) (size : Nat) (s : State), Taken s h (.chunkSize h size) →
    ∃ t, exec (.chunkSize h size) s = .next t ∧
      if size < 1 ∨ 8 < size then Answered s t h (.chunkSize h size) .malformed []
      else if s.cc.locked then Answered s t h (.chunkSize h size) .locked []
      else
        Answered ((s.setClasses { s.classes with chunk := size }).report none) t h (.chunkSize h size) .done
          (put8 size)

/-- R64: what a band table answers. A lookup gives the lowest-numbered band whose upper limit is above the code; a
band covers the codes from the greatest limit before it up to its own limit less 1; the table covers codes when some
code is classified. -/
def Obligations.BandsCoverTheirRuns : Prop :=
  ∀ t : ClassTable,
    (∀ i : Fin 16, (∀ j < i, (tget t.bands j).upper ≤ t.floor i.val) ∧
      (t.floor i.val = 0 ∨ ∃ j < i, t.floor i.val = (tget t.bands j).upper)) ∧
    (∀ code, (t.lookup code = .unclassified ↔ ∀ i : Fin 16, (tget t.bands i).upper ≤ code)) ∧
    (∀ code n b, t.lookup code = .band n b ↔
      ∃ i : Fin 16, n = i.val ∧ b = tget t.bands i ∧ t.floor i.val ≤ code ∧ code < b.upper) ∧
    (∀ (i : Fin 16) code, (∃ lo hi, t.coverage i = some (lo, hi) ∧ lo ≤ code ∧ code ≤ hi) ↔
      t.lookup code = .band i.val (tget t.bands i)) ∧
    (∀ (i j : Fin 16) lo hi lo' hi' code, t.coverage i = some (lo, hi) → t.coverage j = some (lo', hi') →
      lo ≤ code → code ≤ hi → lo' ≤ code → code ≤ hi' → i = j) ∧
    ((∀ i : Fin 16, (tget t.bands i).upper = 0) → ∀ code, t.lookup code = .unclassified) ∧
    (t.covers = true ↔ ∃ code, t.lookup code ≠ .unclassified) ∧
    (t.covers = true ↔ ∃ i : Fin 16, 1 ≤ (tget t.bands i).upper)

/-- SERVICE_LOAD and its grant (1.4): the form, then that every requester is named; the table is replaced at P0's
turn under the old table, with the index at 0. That an entry names P0 to P3, CHECK, SWEEP and EXPIRY as 0 to 6 is read
from the table of section 1.3 (log 17). -/
def Obligations.ServiceLoadReplacesTheTable : Prop :=
  (∀ (h : Head) (entries : List Nat) (s : State), Taken s h (.serviceLoad h entries) →
    ∃ t, exec (.serviceLoad h entries) s = .next t ∧
      if entries.length < 1 ∨ 32 < entries.length ∨ ∃ n ∈ entries, 6 < n then
        Answered s t h (.serviceLoad h entries) .malformed []
      else if ∃ n ∈ List.range 7, n ∉ entries then
        Answered s t h (.serviceLoad h entries) .tableInvalid []
      else ∃ table : List Requester, table.map Requester.value = entries ∧
        Waits s t h (.serviceLoad h entries) .serviceLoad (.serviceTable table)) ∧
  ∀ (table : List Requester) (s : State), s.grant = some (.p0, .serviceTable table) →
    s.job .office = some .serviceLoad →
    ∃ t, exec .serviceTableGrant s = .next t ∧
      Finished { s with service := table, index := 0, requests := tset s.requests Requester.p0.ix none } t
        .office .done []

/-- SETTINGS (12.2): the settings carried are replaced together, and STORE_LOW and LOG_READY follow. -/
def Obligations.SettingsReplaceThoseCarried : Prop :=
  ∀ (h : Head) (reserve window threshold : Option Nat) (s : State),
    let i := Instr.settings h reserve window threshold
    Taken s h i →
    ∃ t, exec i s = .next t ∧
      if (reserve = none ∧ window = none ∧ threshold = none) ∨ window = some 0 ∨ threshold = some 0 ∨
          60 < window.getD 1 then
        Answered s t h i .malformed []
      else
        let r := reserve.getD s.reserve
        let w := window.getD s.logs.window
        let n := threshold.getD s.logs.threshold
        let u : State := { s with reserve := r, logs := { s.logs with window := w, threshold := n } }
        Answered u.follow t h i .done (put8 r ++ put8 w ++ put8 n) ∧ (FlagsFollow u.follow)

/-- IDENT_WRITE: a field carried is written where it is absent, and left where it is present. START, LOCK and KEEP
(12.1, 12.2). RESTART: it is answered DONE, every later item of its telegram is refused MALFORMED, and the reply ends
in the reset (11.3). -/
def Obligations.ConfigurationItems : Prop :=
  (∀ (h : Head) (identity : Option Nat) (label : Option (List Byte)) (s : State),
     let i := Instr.identWrite h identity label
     Taken s h i →
     ∃ t, exec i s = .next t ∧
       if (identity = none ∧ label = none) ∨ identity = some 0 then Answered s t h i .malformed []
       else
         let cc := { s.cc with
           identity := if s.cc.identity = none then identity else s.cc.identity
           label := if s.cc.label = none then label else s.cc.label }
         let kept := (s.cc.identity ≠ none ∧ identity ≠ none) ∨ (s.cc.label ≠ none ∧ label ≠ none)
         let wrote := (s.cc.identity = none ∧ identity ≠ none) ∨ (s.cc.label = none ∧ label ≠ none)
         ∃ c : Code, Answered { s with cc } t h i c (identBytes cc) ∧
           (¬ kept → c = .done) ∧ (¬ wrote → c = .ignored) ∧ (kept → wrote → c = .donePartial)) ∧
  (∀ (h : Head) (s : State),
     (Taken s h (.start h) → ∃ t, exec (.start h) s = .next t ∧
       if s.cc.run = .run then Answered s t h (.start h) .already []
       else if s.classes.covers then
         Answered { s with cc := { s.cc with run := .run } } t h (.start h) .done []
       else Answered s t h (.start h) .tableInvalid []) ∧
     (Taken s h (.lock h) → ∃ t, exec (.lock h) s = .next t ∧
       if s.cc.locked then Answered s t h (.lock h) .already []
       else if s.classes.covers then
         Answered { s with cc := { s.cc with locked := true } } t h (.lock h) .done []
       else Answered s t h (.lock h) .tableInvalid []) ∧
     (Taken s h (.keep h) → ∃ t, exec (.keep h) s = .next t ∧
       if s.cc.keep then Answered s t h (.keep h) .already []
       else Answered { s with cc := { s.cc with keep := true } } t h (.keep h) .done [])) ∧
  ∀ (h : Head) (s : State) (e : Execution), Taken s h (.restart h) → s.executing h.link = some e →
    ∃ t, exec (.restart h) s = .next t ∧ t = { s with links := t.links } ∧ FlagsKept s t ∧
      let after := { e with
        left := e.left.tail, cur := none, restart := true
        reply := e.reply ++ replyItem (Instr.restart h).kind h.tag .done [] }
      Becomes s t h.link (Execution.onward h.link after) ∧
        (e.left.length = 1 →
          Execution.onward h.link after = .replying (putFrame e.number e.count after.reply) true)

/-- NOTE_READ, IDENT_READ, SWEEP_READ, DRIVER_READ and a VISIT_READ without compartments answer DONE with what they
read and change nothing but the line (11.5, 12.2, 10.5, 7.7, 2.6); DRIVER_READ's bytes are `State.driverReport`, where
the model chooses what R125 leaves open (log 17, log 30). R197: NOTE_CLEAR clears the event flags it names, stores the
mask it carries without the positions that the link does not carry, and leaves condition flags and every other link as
they stand. R196: while the part runs, a link's ATTENTION is high exactly while a flag is set with its mask position
set, and while the part is held it is low. -/
def Obligations.ReadersAndNoteClear : Prop :=
  (∀ (h : Head) (s : State),
     (Taken s h (.noteRead h) → ∃ t, exec (.noteRead h) s = .next t ∧
       Answered s t h (.noteRead h) .done
         (put16 (s.link h.link).flags.toNat ++ put16 (s.link h.link).mask.toNat)) ∧
     (Taken s h (.identRead h) → ∃ t, exec (.identRead h) s = .next t ∧
       Answered s t h (.identRead h) .done
         (identBytes s.cc ++ put8 s.cc.run.value ++ putBit s.cc.locked ++ putBit s.cc.keep)) ∧
     (Taken s h (.sweepRead h) → ∃ t, exec (.sweepRead h) s = .next t ∧
       Answered s t h (.sweepRead h) .done (sweepBytes s.sweep.status)) ∧
     (∀ selector value, Taken s h (.driverRead h selector value) →
       ∃ t, exec (.driverRead h selector value) s = .next t ∧
         if selector = 0 ∧ value ≠ 0 then
           Answered s t h (.driverRead h selector value) .done (s.driverReport (s.entryOf value))
         else if hv : selector = 1 ∧ value < 256 then
           Answered s t h (.driverRead h selector value) .done (s.driverReport (some ⟨value, hv.2⟩))
         else Answered s t h (.driverRead h selector value) .malformed []) ∧
     ∀ visit, Taken s h (.visitRead h visit false) →
       ∃ t, exec (.visitRead h visit false) s = .next t ∧
         if hv : visit < 48 then
           Answered s t h (.visitRead h visit false) .done (visitBytes ⟨visit, hv⟩ (s.visit ⟨visit, hv⟩) [])
         else Answered s t h (.visitRead h visit false) .malformed []) ∧
  (∀ (s : State) (l : LinkNo),
    (s.alive = false → s.attention l = false) ∧
    (s.alive = true → FlagsCarried s →
      (s.attention l = true ↔ ∃ f : Flag, hasFlag (s.link l).flags f = true ∧ hasFlag (s.link l).mask f = true))) ∧
  ∀ (h : Head) (clear : FlagWord) (mask : Option FlagWord) (s : State),
    let i := Instr.noteClear h clear mask
    Taken s h i →
    ∃ t, exec i s = .next t ∧
      let k : Link := { s.link h.link with
        flags := (s.link h.link).flags &&& ~~~(clear &&& ~~~conditionBits)
        mask := match mask with
          | none => (s.link h.link).mask
          | some m => m &&& carried h.link }
      (∀ f : Flag, hasFlag k.flags f =
        (hasFlag (s.link h.link).flags f &&
          !(hasFlag clear f && f != .logReady && f != .excReady && f != .storeLow))) ∧
      Answered (s.setLink h.link k) t h i .done
        (put16 (s.link h.link).flags.toNat ++ put16 k.flags.toNat ++ put16 k.mask.toNat)

/-! ### Papers -/

/-- PAPER_OPEN (5.2): the refusals in their order; the paper fields as stored, Q clamped after P; the report to the
DCU; and the return of the old lines where a paper was open before. -/
def Obligations.PaperOpenStoresTheHead : Prop :=
  ∀ (h : Head) (visit vtag number p : Nat) (q expected : Option Nat) (replace : Bool) (s : State),
    let i := Instr.paperOpen h visit vtag number p q expected replace
    Taken s h i →
    ∃ t, exec i s = .next t ∧
      if hv : visit < 48 then
        let v : VisitNo := ⟨visit, hv⟩
        let x := s.visit v
        if x.tag.toNat ≠ vtag then Answered s t h i .staleVisit []
        else if x.arrivalMark = true ∨ x.state = .releasing ∨ x.state = .lapsing ∨ x.state = .aborting then
          Answered s t h i .busy []
        else if x.state = .free ∨ x.state = .cleared then Answered s t h i .state []
        else if x.paperState ≠ .none ∧ replace = false then Answered s t h i .paperPresent []
        else if x.state = .checking ∧ s.decided v = true then Answered s t h i .busy []
        else
          let p' := max 1 (min 1440 p)
          let stored : Paper :=
            ⟨number, p', q.map fun q => max p' (min 1440 q), expected.map fun n => max 1 (min 16 n)⟩
          let clamped := decide (stored ≠ ⟨number, p, q, expected⟩)
          let r := (s.setVisit v { x with paperState := .opened, paper := some stored, accepted := 0 }).report
            (some v)
          if x.paperState = .none then
            Answered r t h i (if clamped then .doneClamped else .done) (State.paperBytes v (some stored))
          else Waits r t h i (.paperOpen v x.tag clamped) (.splice (.paper v) .free)
      else Answered s t h i .malformed []

/-- PAPER_LINES as it is taken (5.3): the refusals in their order; the lines within the limit are placed one after
another; with none to place the paper state is decided at once. -/
def Obligations.PaperLinesPlaceWithinTheLimit : Prop :=
  ∀ (h : Head) (visit vtag : Nat) (lines : List PaperLine) (s : State),
    let i := Instr.paperLines h visit vtag lines
    Taken s h i →
    ∃ t, exec i s = .next t ∧
      if hv : visit < 48 ∧ lines.length ≤ 8 ∧ ∀ x ∈ lines, x.product ≤ 9999 then
        let v : VisitNo := ⟨visit, hv.1⟩
        let x := s.visit v
        if x.tag.toNat ≠ vtag then Answered s t h i .staleVisit []
        else if x.arrivalMark = true ∨ x.state = .releasing ∨ x.state = .lapsing ∨ x.state = .aborting then
          Answered s t h i .busy []
        else if x.state = .free ∨ x.state = .cleared ∨ x.paperState ≠ .opened then
          Answered s t h i .state []
        else if s.classes.chunk < lines.length then Answered s t h i .malformed []
        else
          let limit := (x.paper.bind Paper.expected).getD 16
          let m := min lines.length (limit - x.accepted)
          let short := decide (lines.length < s.classes.chunk)
          match lines.take m with
          | [] =>
              let r := s.decidePaper v lines.length short
              Answered r t h i (if lines.length = 0 then .done else .donePartial)
                (State.linesBytes 0 lines.length (r.visit v).accepted (r.visit v).paperState)
          | line :: left =>
              Waits s t h i (.paperLines v x.tag left 0 (lines.length - m) short)
                (.alloc (.paper v) .bounded (.paperLine line))
      else Answered s t h i .malformed []

/-- The grants of the two paper items (R79, R81, R82, R84): an allocation answered DONE counts its line, and the next
line follows or the paper state is decided; one answered STORE_FULL ends the item with the paper OPEN; the return of a
PAPER_OPEN ends it with the fields as stored. R89: an item whose context no longer holds its tag or is ABORTING is
answered BUSY at its grant, a PAPER_LINES with the lines placed, and the abort's first grant is then presented. The
decision of the paper state after a chunk (R83, R85, R88): its table, its report to the DCU, and PAPER_CLOSED where
the paper leaves OPEN. -/
def Obligations.PaperGrantsPlaceLinesAndClosePapers : Prop :=
  (∀ (s : State) (v : VisitNo) (dropped : Nat) (short : Bool),
     let x := s.visit v
     let expected := x.paper.bind Paper.expected
     let closed (p : PaperState) : State :=
       ((s.setVisit v { x with paperState := p }).report (some v)).raise .office .paperClosed
     (0 < dropped → s.decidePaper v dropped short = closed .truncated) ∧
     (dropped = 0 → expected = some x.accepted → s.decidePaper v dropped short = closed .complete) ∧
     (∀ n, dropped = 0 → expected = some n → n ≠ x.accepted → short = true →
       s.decidePaper v dropped short = closed .short) ∧
     (dropped = 0 → expected = none → short = true → s.decidePaper v dropped short = closed .complete) ∧
     (dropped = 0 → expected ≠ some x.accepted → short = false →
       s.decidePaper v dropped short = (s.setVisit v { x with paperState := .opened }).report (some v))) ∧
  (∀ (s : State) (v : VisitNo) (tag : Tag), (s.visit v).tag ≠ tag ∨ (s.visit v).state = .aborting →
    let cut (r t : State) (data : List Byte) : Prop :=
      ∃ u, Finished r u .office .busy data ∧ AbortBegins u t v
    (∀ line left placed dropped short,
      s.grant = some (.p0, .alloc (.paper v) .bounded (.paperLine line)) →
      s.job .office = some (.paperLines v tag left placed dropped short) →
      (s.store.freeCount ≤ s.reserve → ∃ t, exec .allocation s = .next t ∧ cut (s.granted .p0) t (put8 placed)) ∧
      ∀ st ref, s.reserve < s.store.freeCount →
        s.store.allocate (.paper v) (.paperLine line) = some (st, ref) →
        ∃ t, exec .allocation s = .next t ∧
          cut (((s.granted .p0).withStore st).report (some v)) t (put8 (placed + 1))) ∧
    ∀ clamped, s.grant = some (.p0, .splice (.paper v) .free) →
      s.job .office = some (.paperOpen v tag clamped) →
      ∃ t, exec .wholeListSplice s = .next t ∧
        cut (((s.granted .p0).withStore (s.store.splice (.paper v) .free)).report (some v)) t []) ∧
  ∀ (s : State) (v : VisitNo) (tag : Tag), (s.visit v).tag = tag → (s.visit v).state ≠ .aborting →
    (∀ line left placed dropped short,
      s.grant = some (.p0, .alloc (.paper v) .bounded (.paperLine line)) →
      s.job .office = some (.paperLines v tag left placed dropped short) →
      (s.store.freeCount ≤ s.reserve → ∃ t, exec .allocation s = .next t ∧
        Finished (s.granted .p0) t .office .storeFull
          (State.linesBytes placed 0 (s.visit v).accepted .opened)) ∧
      ∀ st ref, s.reserve < s.store.freeCount →
        s.store.allocate (.paper v) (.paperLine line) = some (st, ref) →
        ∃ t, exec .allocation s = .next t ∧
          let u := ((s.granted .p0).withStore st).report (some v)
          let w := (u.setVisit v { u.visit v with accepted := (u.visit v).accepted + 1 }).report (some v)
          match left with
          | next :: rest =>
              Continues w t .office (.paperLines v tag rest (placed + 1) dropped short)
                (.alloc (.paper v) .bounded (.paperLine next))
          | [] =>
              let r := w.decidePaper v dropped short
              Finished r t .office (if 0 < dropped then .donePartial else .done)
                (State.linesBytes (placed + 1) dropped (r.visit v).accepted (r.visit v).paperState)) ∧
    ∀ clamped, s.grant = some (.p0, .splice (.paper v) .free) →
      s.job .office = some (.paperOpen v tag clamped) →
      ∃ t, exec .wholeListSplice s = .next t ∧
        Finished (((s.granted .p0).withStore (s.store.splice (.paper v) .free)).report (some v)) t .office
          (if clamped then .doneClamped else .done) (State.paperBytes v (s.visit v).paper)

/-! ### Bays and fills -/

/-- BAY_ASSIGN (3.2): the refusals in their order; the window and the visit are bound in one step, and the preparation
reads the head of the COMP list. BAY_RELEASE and LOAD_END (3.3): a valid window is unbound, and its visit leaves the
bay. -/
def Obligations.BayItemsBindAndUnbind : Prop :=
  (∀ (h : Head) (visit vtag bay : Nat) (s : State),
     let i := Instr.bayAssign h visit vtag bay
     Taken s h i →
     ∃ t, exec i s = .next t ∧
       if hv : visit < 48 ∧ 1 ≤ bay ∧ bay ≤ 16 then
         let v : VisitNo := ⟨visit, hv.1⟩
         let b : BayIx := ⟨bay - 1, by omega⟩
         let x := s.visit v
         if x.tag.toNat ≠ vtag then Answered s t h i .staleVisit []
         else if x.arrivalMark = true ∨ x.state = .releasing ∨ x.state = .lapsing ∨ x.state = .aborting then
           Answered s t h i .busy []
         else if x.state ≠ .arrived ∧ x.state ≠ .held then Answered s t h i .state []
         else if s.window b ≠ none then Answered s t h i .bayBusy []
         else
           Waits { s with
             windows := tset s.windows b (some
               { visit := v, tag := x.tag, span := (x.arrival.map Arrival.compCount).getD 0, access := .read
                 map := [] })
             visits := tset s.visits v
               { x with state := .assigned, bay := some b, heldOrigin := decide (x.state = .held) } } t h i
             (.bayRead b v x.tag) (.read (.comp v) none)
       else Answered s t h i .malformed []) ∧
  ∀ (h : Head) (bay : Nat) (s : State),
    (Taken s h (.bayRelease h bay) → ∃ t, exec (.bayRelease h bay) s = .next t ∧
      if hb : 1 ≤ bay ∧ bay ≤ 16 then
        let b : BayIx := ⟨bay - 1, by omega⟩
        match s.window b with
        | none => Answered s t h (.bayRelease h bay) .notMapped []
        | some w =>
            let x := s.visit w.visit
            if x.state = .assigned then
              Answered { s with
                windows := tset s.windows b none
                visits := tset s.visits w.visit
                  { x with state := if x.heldOrigin then .held else .arrived, heldOrigin := false } } t h
                (.bayRelease h bay) .done []
            else Answered s t h (.bayRelease h bay) .state []
      else Answered s t h (.bayRelease h bay) .malformed []) ∧
    (Taken s h (.loadEnd h bay) → ∃ t, exec (.loadEnd h bay) s = .next t ∧
      if hb : 1 ≤ bay ∧ bay ≤ 16 then
        let b : BayIx := ⟨bay - 1, by omega⟩
        match s.window b with
        | none => Answered s t h (.loadEnd h bay) .notMapped []
        | some w =>
            let x := s.visit w.visit
            if x.state = .loading then
              Answered { s with
                windows := tset s.windows b none
                visits := tset s.visits w.visit { x with state := .loaded, heldOrigin := false } } t h
                (.loadEnd h bay) .done []
            else Answered s t h (.loadEnd h bay) .state []
      else Answered s t h (.loadEnd h bay) .malformed [])

/-- The grants of a bay preparation (R49, R50): each slot read is written with its net as the session base and then
enters the map; after the last the window takes FILL access. With the window gone the item is refused BUSY. -/
def Obligations.BayPreparationsWriteEverySlot : Prop :=
  ∀ (s : State) (b : BayIx) (v : VisitNo) (tag : Tag) (w : Window),
    (∀ at_ ref c next, s.grant = some (.p1, .read (.comp v) at_) →
      s.job .loading = some (.bayRead b v tag) →
      s.store.read (.comp v) at_ = .slot ref (.compartment c) next →
      ∃ t, exec .slotRead s = .next t ∧
        (s.window b = some w → w.visit = v → w.tag = tag →
          Continues (s.granted .p1) t .loading (.bayWrite b v tag c.number ref next)
            (.write (.comp v) ref (.prepare c.net))) ∧
        (s.window b = none → Finished (s.granted .p1) t .loading .busy [])) ∧
    ∀ number ref next base st, s.grant = some (.p1, .write (.comp v) ref (.prepare base)) →
      s.job .loading = some (.bayWrite b v tag number ref next) →
      s.store.write s.now (.comp v) ref (.prepare base) = some st →
      ∃ t, exec .slotWrite s = .next t ∧
        let u := ((s.granted .p1).setStore st).report (some v)
        (s.window b = some w → w.visit = v → w.tag = tag →
          let mapped : Window := { w with map := w.map ++ [⟨number, ref⟩] }
          match next with
          | some n => Continues (u.setWindow b (some mapped)) t .loading (.bayRead b v tag) (.read (.comp v) (some n))
          | none =>
              Finished (u.setWindow b (some { mapped with access := .fill })) t .loading .done
                (put8 (b.val + 1) ++ put8 w.span)) ∧
        (s.window b = none → Finished u t .loading .busy [])

/-- FILL as it is taken (R53): it resolves through a valid window with FILL access to a mapped compartment, whose
slot is read; otherwise it is refused NOT_MAPPED and raises MAP_MISS. The read (R54 to R57): a loaded compartment takes
no other product; the write carries the net formed from the session base, OVER and AMENDED. A window that no longer
holds the visit ends the item first (log 13). The write (R55, R58): the record takes the fields that the write carries,
with N as the last fill minute, and an ASSIGNED visit becomes LOADING; a slot that is not found is left and the item is
refused NOT_MAPPED. -/
def Obligations.FillsResolveAndWriteTheRecord : Prop :=
  (∀ (h : Head) (bay comp product figure : Nat) (s : State),
     let i := Instr.fill h bay comp product figure
     Taken s h i →
     ∃ t, exec i s = .next t ∧
       if hb : 1 ≤ bay ∧ bay ≤ 16 ∧ product ≤ 9999 then
         let b : BayIx := ⟨bay - 1, by omega⟩
         (∀ w m, s.window b = some w → w.access = .fill → 1 ≤ comp → comp ≤ w.span →
           (w.map.find? fun m => m.comp == comp) = some m →
           Waits s t h i (.fillRead b w.visit w.tag m.slot product figure)
             (.read (.comp w.visit) (some m.slot))) ∧
         ((∀ w, s.window b = some w → w.access = .read ∨ comp < 1 ∨ w.span < comp) →
           Answered (s.raise .loading .mapMiss) t h i .notMapped [])
       else Answered s t h i .malformed []) ∧
  (∀ (s : State) (b : BayIx) (v : VisitNo) (tag : Tag) (slot : SlotRef) (product figure : Nat),
     s.grant = some (.p1, .read (.comp v) (some slot)) →
     s.job .loading = some (.fillRead b v tag slot product figure) →
     ∃ t, exec .slotRead s = .next t ∧
       (s.store.read (.comp v) (some slot) = .moved →
         Finished ((s.granted .p1).raise .loading .mapMiss) t .loading .notMapped []) ∧
       ∀ ref c next, s.store.read (.comp v) (some slot) = .slot ref (.compartment c) next →
         (s.window b = none → Finished ((s.granted .p1).raise .loading .mapMiss) t .loading .notMapped []) ∧
         ∀ w, s.window b = some w → w.visit = v → w.tag = tag →
           if 0 < c.net ∧ c.product ≠ none ∧ c.product ≠ some product then
             Finished (s.granted .p1) t .loading .mixedProduct []
           else
             let net := min (c.base + figure) 65535
             let overfull := decide (∃ k ∈ c.capacity, k < net)
             let amended := c.amended || decide (∃ f ∈ c.figure, figure < f)
             Continues (s.granted .p1) t .loading (.fillWrite v net overfull amended)
               (.write (.comp v) slot (.fill net product (min (c.fills + 1) 65535) figure overfull amended))) ∧
  ∀ (s : State) (v : VisitNo) (slot : SlotRef) (net product fills figure : Nat) (overfull amended : Bool)
    (c : Compartment),
    s.grant = some (.p1, .write (.comp v) slot (.fill net product fills figure overfull amended)) →
    s.job .loading = some (.fillWrite v net overfull amended) →
    ∃ t, exec .slotWrite s = .next t ∧
      (((s.store.slot slot.slot).owner ≠ .comp v ∨ (s.store.slot slot.slot).alloc ≠ slot.alloc) →
        Finished ((s.granted .p1).raise .loading .mapMiss) t .loading .notMapped []) ∧
      ((s.store.slot slot.slot).owner = .comp v → (s.store.slot slot.slot).alloc = slot.alloc →
        (s.store.slot slot.slot).record = .compartment c →
        let filled := { s.store.slot slot.slot with
          record := .compartment { c with
            net, product := some product, fills, figure := some figure, lastFill := some s.time.minutes
            overfull, amended } }
        let u := ((s.granted .p1).setStore (s.store.setSlot slot.slot filled)).report (some v)
        Finished
          (if (s.visit v).state = .assigned then u.setVisit v { u.visit v with state := .loading } else u) t
          .loading .done (put16 net ++ putBit overfull ++ putBit amended))

/-! ### Arrivals and drivers -/

/-- ARRIVE as it is taken (2.3): checks 2 to 8 of R27 in their order, with checks 6 and 7 as R110 answers them, then
the claim of the lowest-numbered FREE context and the first allocation. That a capacity of 0 is refused with check 3
is the model's choice (log 14). -/
def Obligations.ArriveClaimsAContext : Prop :=
  ∀ (h : Head) (tanker driver : Nat) (figures : Figures) (co : Option CoDriver)
    (capacities : List (Option Nat)) (s : State),
    let i := Instr.arrive h tanker driver figures co capacities
    let cards := driver :: (co.map CoDriver.card).toList
    let onSite (card : Nat) : Bool := ((s.entryOf card).bind s.driver).any fun d => d.activity != .absent
    let reclaimable (d : Driver) : Bool :=
      d.activity == .absent && !cards.contains d.card &&
        d.lastDeparture.any fun m => decide (s.rules.reclaim ≤ s.time.minutes - m)
    Taken s h i →
    ∃ t, exec i s = .next t ∧
      if s.time.set = false then Answered s t h i .clockUnset []
      else if capacities.length < 1 ∨ 8 < capacities.length ∨ tanker = 0 ∨ 0 ∈ cards ∨
          some 0 ∈ capacities then
        Answered s t h i .malformed []
      else if co.map CoDriver.card = some driver then Answered s t h i .malformed []
      else if ∀ v : VisitNo, (s.visit v).state ≠ .free then Answered s t h i .visitsFull []
      else if ∃ c ∈ cards, onSite c = true then Answered s t h i .driverOnSite []
      else if ((List.finRange 256).countP fun e => (s.driver e).all reclaimable) <
          cards.countP (fun c => (s.entryOf c).isNone) then
        Answered s t h i .driversFull []
      else if s.store.freeCount < s.reserve + capacities.length then Answered s t h i .storeFull []
      else
        ∃ v : VisitNo, (s.visit v).state = .free ∧ (∀ w < v, (s.visit w).state ≠ .free) ∧
          Waits (s.setVisit v
            { Visit.freed ((s.visit v).tag + 1) with
              state := .arrived, arrivalMark := true
              arrival := some ⟨tanker, driver, co.map CoDriver.card, capacities.length, s.time.minutes⟩ }) t h i
            (.arrive v ⟨figures, co, capacities.tail, 1, s.time.minutes, s.rules.reclaim⟩)
            (.alloc (.comp v) .bounded (.compartment
              { number := 1, capacity := capacities.headD none, product := none, net := 0, base := 0
                figure := none, fills := 0, lastFill := none, overfull := false, amended := false }))

/-- The grants of an arrival (R28 to R30, R115): compartments are placed in ascending number; a refused allocation
undoes the arrival; after the last the drivers are admitted, the driver first (`admitDriver`, whose effect on the driver
table AdmissionsFloorAndFindEntries states), DECLARATION_LOW is set for a floored declaration, the outcome and the
reply say what R115 has them say, and the mark is cleared. -/
def Obligations.ArrivalsCompleteOrAreUndone : Prop :=
  ∀ (s : State) (v : VisitNo) (w : ArriveWork) (record : Record) (a : Arrival),
    (s.visit v).arrival = some a →
    (s.grant = some (.p2, .alloc (.comp v) .bounded record) → record.isHead = false →
      s.job .gate = some (.arrive v w) →
      (s.store.freeCount ≤ s.reserve → ∃ t, exec .allocation s = .next t ∧
        Continues (s.granted .p2) t .gate (.arriveUndo v) (.splice (.comp v) .free)) ∧
      ∀ st ref, s.reserve < s.store.freeCount → s.store.allocate (.comp v) record = some (st, ref) →
        ∃ t, exec .allocation s = .next t ∧
          let u := ((s.granted .p2).withStore st).report (some v)
          match w.left with
          | capacity :: left =>
              Continues u t .gate (.arrive v { w with left, number := w.number + 1 })
                (.alloc (.comp v) .bounded (.compartment
                  { number := w.number + 1, capacity, product := none, net := 0, base := 0, figure := none
                    fills := 0, lastFill := none, overfull := false, amended := false }))
          | [] =>
              let cards := a.driver :: a.coDriver.toList
              let one := u.admitDriver w cards v a.driver w.figures
              let two := match w.coDriver with
                | none => (one.1, none)
                | some k => one.1.admitDriver w cards v k.card k.figures
              let floored := (one.2.any fun k => k.2.floored) || two.2.any fun k => k.2.floored
              let clamped := (one.2.any fun k => k.2.clamped) || two.2.any fun k => k.2.clamped
              let taken (k : Option (EntryNo × Admission)) : List Byte := match k with
                | some (e, b) => put8 e.val ++ putBit b.floored
                | none => put8 0 ++ putBit false
              let x := two.1.visit v
              Finished (two.1.setVisit v
                { x with arrivalMark := false, declarationLow := x.declarationLow || floored }) t .gate
                (if clamped || floored then .doneClamped else .done)
                (put8 v.val ++ put16 x.tag.toNat ++ taken one.2 ++ putBit w.coDriver.isSome ++ taken two.2)) ∧
    (s.grant = some (.p2, .splice (.comp v) .free) → s.job .gate = some (.arriveUndo v) →
      (s.visit v).state = .arrived →
      ∃ t, exec .wholeListSplice s = .next t ∧
        let u := ((s.granted .p2).withStore (s.store.splice (.comp v) .free)).report (some v)
        Finished (u.setVisit v (Visit.freed (s.visit v).tag)) t .gate .storeFull [])

/-- R111 to R113: what a declaration becomes. The declared figures are clamped; under an open span with floors each is
raised to its floor and the span start is the earlier of the two; otherwise they stand as clamped. R114: the entry
that a card is admitted into is its own; else the lowest-numbered empty one; else, of the reclaimable ones, the
lowest-numbered whose last departure is earliest. R110: reclaimable are those that are so now, and those that check 7 of
the same ARRIVE found so (log 28 on the differences of minutes). R113, R115: admitting a card writes its admission into
that entry, over the figures of the entry only where it held the same card, and leaves every other entry and everything
else. -/
def Obligations.AdmissionsFloorAndFindEntries : Prop :=
  (∀ (r : RuleSet) (n : Nat) (v : VisitNo) (card : Nat) (f : Figures) (old : Option Driver),
     let a := admission r n v card f old
     let day := min f.day 1440
     let week := max (min f.week 8191) day
     let cont := min f.cont day
     let c := min f.c (r.b - 1)
     let u := min f.u 1440
     a.entry.card = card ∧ a.entry.activity = .duty ∧ a.entry.linked = some v ∧ a.entry.breakStart = none ∧
       a.entry.credit = c ∧ a.entry.lastDeparture = old.bind Driver.lastDeparture ∧
       (a.clamped = true ↔ f ≠ ⟨day, cont, week, u, c⟩) ∧
       (∀ d w, old = some d → d.floors = some w → n - d.spanStart < r.lSpan →
         a.entry.day = max day w.day ∧ a.entry.cont = max cont w.cont ∧ a.entry.week = max week w.week ∧
           a.entry.spanStart = min (n - u) d.spanStart ∧ a.entry.floors = some w ∧
           (a.floored = true ↔
             day < w.day ∨ cont < w.cont ∨ week < w.week ∨ d.spanStart < n - u)) ∧
       ((∀ d w, old = some d → d.floors = some w → r.lSpan ≤ n - d.spanStart) →
         a.entry.day = day ∧ a.entry.cont = cont ∧ a.entry.week = week ∧ a.entry.spanStart = n - u ∧
           a.entry.floors = none ∧ a.floored = false)) ∧
  (∀ (s : State) (w : ArriveWork) (cards : List Nat) (card : Nat),
    let reclaimable (d : Driver) (m : Nat) : Prop :=
      d.activity = .absent ∧ d.card ∉ cards ∧ d.lastDeparture = some m ∧
        (s.rules.reclaim ≤ s.time.minutes - m ∨ w.reclaim ≤ w.minute - m)
    (∀ e, s.entryOf card = some e → s.entryFor w cards card = some e) ∧
    (s.entryOf card = none →
      (∀ e, s.driver e = none → (∀ f < e, s.driver f ≠ none) → s.entryFor w cards card = some e) ∧
      ((∀ e, s.driver e ≠ none) → ∀ e, s.entryFor w cards card = some e ↔
        ∃ d m, s.driver e = some d ∧ reclaimable d m ∧
          ∀ f g k, s.driver f = some g → reclaimable g k → m < k ∨ (m = k ∧ e ≤ f)))) ∧
  ∀ (s : State) (w : ArriveWork) (cards : List Nat) (v : VisitNo) (card : Nat) (f : Figures),
    let r := s.admitDriver w cards v card f
    (s.entryFor w cards card = none → r = (s, none)) ∧
    ∀ (e : EntryNo) (old : Option Driver), s.entryFor w cards card = some e →
      (∀ d, old = some d ↔ s.driver e = some d ∧ d.card = card) →
      let a := admission s.rules s.time.minutes v card f old
      r.2 = some (e, a) ∧ r.1 = { s with drivers := r.1.drivers } ∧ r.1.driver e = some a.entry ∧
        ∀ g, g ≠ e → r.1.driver g = s.driver g

/-- BREAK_START (7.4): a driver on site goes into BREAK at N, reported with the linked visit. BREAK_END (R117): the
case by the length of the break, and its effect on the figures. Which figures its reply carries, and how wide, is the
model's reading (log 16). -/
def Obligations.BreakItems : Prop :=
  (∀ (h : Head) (card : Nat) (s : State), Taken s h (.breakStart h card) →
     ∃ t, exec (.breakStart h card) s = .next t ∧
       (card = 0 → Answered s t h (.breakStart h card) .malformed []) ∧
       (card ≠ 0 → s.entryOf card = none → Answered s t h (.breakStart h card) .state []) ∧
       ∀ e d, card ≠ 0 → s.entryOf card = some e → s.driver e = some d →
         (d.activity = .absent → Answered s t h (.breakStart h card) .state []) ∧
         (d.activity = .onBreak →
           Answered s t h (.breakStart h card) .already (put32 (d.breakStart.getD 0))) ∧
         ∀ v, d.activity = .duty → d.linked = some v →
           Answered ((s.setDriver e (some { d with activity := .onBreak, breakStart := some s.time.minutes })).report
             (some v)) t h (.breakStart h card) .done (put32 s.time.minutes)) ∧
  ∀ (h : Head) (card : Nat) (s : State), Taken s h (.breakEnd h card) →
    ∃ t, exec (.breakEnd h card) s = .next t ∧
      (card = 0 → Answered s t h (.breakEnd h card) .malformed []) ∧
      (card ≠ 0 → s.entryOf card = none → Answered s t h (.breakEnd h card) .state []) ∧
      ∀ e d, card ≠ 0 → s.entryOf card = some e → s.driver e = some d →
        (d.activity = .absent → Answered s t h (.breakEnd h card) .state []) ∧
        (d.activity = .duty → Answered s t h (.breakEnd h card) .already []) ∧
        ∀ v m, d.activity = .onBreak → d.linked = some v → d.breakStart = some m →
          let len := s.time.minutes - m
          let ended : Driver := { d with activity := .duty, breakStart := none }
          let case_ : BreakCase × Driver :=
            if s.rules.r ≤ len then
              (.rest, { ended with
                day := 0, cont := 0, credit := 0, spanStart := s.time.minutes, floors := none })
            else if s.rules.f ≤ len ∧ s.rules.b ≤ d.credit + len then
              (.qualifying, { ended with cont := 0, credit := 0 })
            else if s.rules.f ≤ len then (.fragment, { ended with credit := d.credit + len })
            else (.tooShort, ended)
          Answered ((s.setDriver e (some case_.2)).report (some v)) t h (.breakEnd h card) .done
            (put8 case_.1.value ++ put32 len ++ figureBytes case_.2)

/-- R121 to R123: the commit of a trip to one driver. The break is ended first, the floors take the figures before the
trip, and the figures after it keep their order; a solo trip past the break limit leaves from 1 to L_cont minutes of
continuous drive. The commit of a visit (R123): every driver of the visit departs with the trip of its paper, and no
other entry and nothing else changes. The release of an aborted visit (R124): the entry of every driver of the visit
has its break ended at N and is then ABSENT and unlinked, with N as its last departure and its figures and floors as
they stand after the break; no other entry and nothing else changes. -/
def Obligations.TripCommits : Prop :=
  (∀ (d : Driver) (r : RuleSet) (n p : Nat) (crew : Bool), RulesRanged r → d.Sound r → d.activity ≠ .absent →
     let before := d.endBreak r n
     let after := d.depart r n p crew
     let share := if crew then (p + 1) / 2 else p
     after.card = d.card ∧ after.activity = .absent ∧ after.linked = none ∧ after.breakStart = none ∧
       after.lastDeparture = some n ∧ after.spanStart = before.spanStart ∧
       after.floors = some ⟨before.day, before.cont, before.week⟩ ∧
       after.day = min (before.day + share) 2047 ∧ after.week = min (before.week + share) 8191 ∧
       (crew = true → after.cont = min (before.cont + share) r.lCont ∧ after.credit = before.credit) ∧
       (crew = false → before.cont + p ≤ r.lCont → after.cont = before.cont + p ∧ after.credit = before.credit) ∧
       (crew = false → r.lCont < before.cont + p →
         1 ≤ after.cont ∧ after.cont ≤ r.lCont ∧ after.credit = 0 ∧
           ∃ k, after.cont + (k + 1) * r.lCont = before.cont + p) ∧
       after.Sound r) ∧
  ∀ (s : State) (v : VisitNo) (a : Arrival), DriversSound s → (s.visit v).arrival = some a →
    a.coDriver ≠ some a.driver →
    let departs (d : Driver) : Prop := d.linked = some v ∧ (d.card = a.driver ∨ a.coDriver = some d.card)
    (let t := s.commitTrip v
     let p := ((s.visit v).paper.map Paper.p).getD 0
     t = { s with drivers := t.drivers } ∧
       ∀ e : EntryNo,
         (∀ d, s.driver e = some d → departs d →
           t.driver e = some (d.depart s.rules s.time.minutes p a.coDriver.isSome)) ∧
         ((∀ d, s.driver e = some d → ¬ departs d) → t.driver e = s.driver e)) ∧
    let t := s.releaseDrivers v
    t = { s with drivers := t.drivers } ∧
      ∀ e : EntryNo,
        (∀ d, s.driver e = some d → departs d →
          t.driver e = some { d.endBreak s.rules s.time.minutes with
            activity := .absent, breakStart := none, lastDeparture := some s.time.minutes, linked := none }) ∧
        ((∀ d, s.driver e = some d → ¬ departs d) → t.driver e = s.driver e)

/-! ### Dispatch, release and abort -/

/-- DISPATCH (2.4, 8.1). -/
def Obligations.DispatchJoinsTheQueue : Prop :=
  ∀ (h : Head) (visit vtag : Nat) (s : State),
    let i := Instr.dispatch h visit vtag
    Taken s h i →
    ∃ t, exec i s = .next t ∧
      if hv : visit < 48 then
        let v : VisitNo := ⟨visit, hv⟩
        let x := s.visit v
        if x.tag.toNat ≠ vtag then Answered s t h i .staleVisit []
        else if x.arrivalMark = true ∨ x.state = .releasing ∨ x.state = .lapsing ∨ x.state = .aborting then
          Answered s t h i .busy []
        else
          match x.state with
          | .loaded | .held =>
              if s.dcu.queue.length < 8 then
                Answered { s with
                  visits := tset s.visits v
                    { x with state := .queued, heldOrigin := decide (x.state = .held), lapsed := false }
                  dcu := { s.dcu with queue := s.dcu.queue ++ [v] } } t h i .done
                  (put8 (s.dcu.queue.length + 1))
              else Answered s t h i .queueFull []
          | .queued =>
              ∃ place, Answered s t h i .already (put8 place) ∧
                (v ∈ s.dcu.queue → s.dcu.queue.idxOf v + 1 = place)
          | .checking => Answered s t h i .already (put8 0)
          | _ => Answered s t h i .state []
      else Answered s t h i .malformed []

/-- GATE_PASSED (2.5, 9.2): the refusals in their order; an accepted pass makes the visit RELEASING with pass minute N,
commits the trip, and presents the return of COMP. The grants of a release (R34, R158): the return of PAPER follows that
of COMP, the stamped splice follows it, and at its answer the context is FREE and the item ends with the sequence number
and the pass minute. -/
def Obligations.GatePassedReleasesTheVisit : Prop :=
  (∀ (h : Head) (visit vtag code : Nat) (s : State),
     let i := Instr.gatePassed h visit vtag code
     Taken s h i →
     ∃ t, exec i s = .next t ∧
       if hv : visit < 48 then
         let v : VisitNo := ⟨visit, hv⟩
         let x := s.visit v
         if x.tag.toNat ≠ vtag then Answered s t h i .staleVisit []
         else if x.arrivalMark = true ∨ x.state = .releasing ∨ x.state = .aborting then Answered s t h i .busy []
         else if x.state = .lapsing ∨ (x.state = .loaded ∧ x.lapsed = true) then Answered s t h i .late []
         else if x.state ≠ .cleared then Answered s t h i .state []
         else if code = 0 ∨ x.clearance.map Clearance.code ≠ some code then Answered s t h i .badCode []
         else
           Waits ((s.commitTrip v).setVisit v { x with state := .releasing, passMinute := some s.time.minutes }) t h i
             (.release v) (.splice (.comp v) .free)
       else Answered s t h i .malformed []) ∧
  ∀ (s : State) (v : VisitNo), s.job .gate = some (.release v) → (s.visit v).state = .releasing →
    (s.grant = some (.p2, .splice (.comp v) .free) → ∃ t, exec .wholeListSplice s = .next t ∧
      Continues (((s.granted .p2).withStore (s.store.splice (.comp v) .free)).report (some v)) t .gate
        (.release v) (.splice (.paper v) .free)) ∧
    (s.grant = some (.p2, .splice (.paper v) .free) → ∃ t, exec .wholeListSplice s = .next t ∧
      Continues (((s.granted .p2).withStore (s.store.splice (.paper v) .free)).report (some v)) t .gate
        (.release v) (.stamped v .released (s.visit v).passMinute)) ∧
    ∀ pass, s.grant = some (.p2, .stamped v .released pass) → ∃ t, exec .stampedSplice s = .next t ∧
      let r := (s.granted .p2).stamp v .released pass
      Finished (r.1.follow.setVisit v (Visit.freed (s.visit v).tag)) t .gate .done
        (put32 (r.2.getD 0) ++ put32 ((s.visit v).passMinute.getD 0))

/-- VISIT_ABORT (2.7): the refusals; at acceptance the visit is ABORTING with its course, its window unbound, its
queue place given up, its check abandoned, its clearance void and its drivers released (R124: `releaseDrivers`, whose
effect on the entries TripCommits states); the first grant is presented unless a paper item or a check of the visit is
still in flight. -/
def Obligations.VisitAbortTearsDown : Prop :=
  ∀ (h : Head) (visit vtag : Nat) (s : State),
    let i := Instr.visitAbort h visit vtag
    Taken s h i →
    ∃ t, exec i s = .next t ∧
      if hv : visit < 48 then
        let v : VisitNo := ⟨visit, hv⟩
        let x := s.visit v
        if x.tag.toNat ≠ vtag then Answered s t h i .staleVisit []
        else if x.arrivalMark = true ∨ x.state = .releasing ∨ x.state = .lapsing ∨ x.state = .aborting then
          Answered s t h i .busy []
        else if x.state = .free then Answered s t h i .state []
        else
          let y := { x with state := .aborting, clearance := none, abort := some ⟨decide (x.state = .cleared), 0⟩ }
          (t = { s with
            visits := tset s.visits v y, windows := t.windows, drivers := t.drivers, dcu := t.dcu
            links := t.links, requests := t.requests }) ∧ FlagsKept s t ∧
          t.drivers = (s.releaseDrivers v).drivers ∧
          (∀ b, t.window b = (s.window b).filter fun w => w.visit != v) ∧
          t.dcu.queue = s.dcu.queue.filter (fun w => w != v) ∧
          (∃ e, s.executing h.link = some e ∧
            Becomes s t h.link
              (.executing { e with left := e.left.tail, cur := some ⟨i.kind, h.tag, .abort v none⟩ })) ∧
          (∀ c, s.dcu.check = some c → c.visit = v →
            (s.checkWaits c = true →
              t.dcu.check = some { c with phase := .abandon, abandon := true } ∧ t.requests = s.requests) ∧
            (s.checkWaits c = false → t.dcu.check = none)) ∧
          ((∀ c, s.dcu.check = some c → c.visit ≠ v) → t.dcu.check = s.dcu.check) ∧
          (h.link = .gate → s.checkHeld v = false → s.paperItemHeld v = true → t.requests = s.requests) ∧
          (s.checkHeld v = false → (s.paperItemHeld v = false ∨ h.link = .office) →
            s.aborts v .office = false →
            Requests s t (linkRequester h.link)
              (some (if x.state = .cleared then .stamped v .aborted none else .splice (.comp v) .free)))
      else Answered s t h i .malformed []

/-- The grants of an abort (R40, R41): those of its course follow one another, each counted; after the last the
context is FREE and the item ends DONE with the sequence number drawn. A head that finds no slot ends the item
without a record, with UNRECORDED raised. -/
def Obligations.AbortsCarryOutTheirCourse : Prop :=
  ∀ (s : State) (l : LinkNo) (v : VisitNo) (seq : Option Nat) (cleared : Bool) (n : Nat) (q : Request),
    let x := s.visit v
    let course : List Request :=
      if cleared then [.stamped v .aborted none, .splice (.comp v) .free, .splice (.paper v) .free]
      else
        [.splice (.comp v) .free, .splice (.paper v) .free, .splice (.pend v) .free,
          .alloc (.pend v) .bounded (.logHead
            { mark := .complete, seq := none, outcome := none, visit := v, tag := x.tag
              tanker := (x.arrival.map Arrival.tanker).getD 0, driver := (x.arrival.map Arrival.driver).getD 0
              coDriver := x.arrival.bind Arrival.coDriver, paperNo := x.paper.map Paper.number, bay := x.bay
              clearMinute := none, passMinute := none, p := (x.paper.map Paper.p).getD 1
              margin := (x.lastCheck.map CheckRecord.margin).getD 0
              checkOutcome := (x.lastCheck.map CheckRecord.outcome).getD .none, compCount := 0 }),
          .stamped v .aborted none]
    let goesOn (u t : State) (seq : Option Nat) : Prop :=
      match course[n + 1]? with
      | some r => Continues (u.setVisit v { x with abort := some ⟨cleared, n + 1⟩ }) t l (.abort v seq) r
      | none => Finished (u.setVisit v (Visit.freed x.tag)) t l .done (put32 (seq.getD 0))
    s.job l = some (.abort v seq) → x.state = .aborting → x.abort = some ⟨cleared, n⟩ →
    s.grant = some (linkRequester l, q) → course[n]? = some q →
    (∀ source target, q = .splice source target → ∃ t, exec .wholeListSplice s = .next t ∧
      goesOn (((s.granted (linkRequester l)).withStore (s.store.splice source target)).reportList source) t
        seq) ∧
    (∀ o pass, q = .stamped v o pass → ∃ t, exec .stampedSplice s = .next t ∧
      let r := (s.granted (linkRequester l)).stamp v o pass
      goesOn r.1.follow t (State.keepPresent seq r.2)) ∧
    ∀ target cls record, q = .alloc target cls record →
      (s.allocRefused target cls record = true → ∃ t, exec .allocation s = .next t ∧
        Finished (((s.granted (linkRequester l)).setVisit v (Visit.freed x.tag)).raise .office .unrecorded) t l
          .abortedUnrecorded []) ∧
      ∀ st ref, s.allocRefused target cls record = false → s.store.allocate target record = some (st, ref) →
        ∃ t, exec .allocation s = .next t ∧
          goesOn (((s.granted (linkRequester l)).withStore st).reportList target) t seq

/-! ### The Record Store -/

/-- Turns of the service table (1.4): a turn whose requester has nothing waiting passes; each grant uses its turn;
with nothing waiting there is no turn. A grant's command that is not due changes nothing, which is the model's
choice (log 1). -/
def Obligations.TurnsRotateThroughTheTable : Prop :=
  ∀ s : State,
    let advanced := if s.index + 1 < s.service.length then s.index + 1 else 0
    let command (q : Request) : Instr :=
      match q with
      | .alloc _ _ _ => .allocation
      | .read _ _ => .slotRead
      | .write _ _ _ => .slotWrite
      | .splice _ _ => .wholeListSplice
      | .stamped _ _ _ => .stampedSplice
      | .headSplice _ _ => .headSplice
      | .serviceTable _ => .serviceTableGrant
      | .storeCounts _ => .storeCountsGrant
    (∀ p q, s.alive = true → s.service[s.index]? = some p → s.request p = none → s.request q ≠ none →
      exec .serviceTurn s = .next { s with index := advanced }) ∧
    ((∀ p, s.request p = none) → exec .serviceTurn s = .next s ∧ ∀ q, exec (command q) s = .next s) ∧
    ∀ p q, s.grant = some (p, q) →
      exec .serviceTurn s = .next s ∧
      (∀ r, command r ≠ command q → exec (command r) s = .next s) ∧
      ∀ t, exec (command q) s = .next t →
        t.index = (match q with | .serviceTable _ => 0 | _ => advanced)

/-- Allocations and whole-list splices (R9, R10, R13) in a store whose lists are whole: an allocation moves the head
slot of FREE to the tail of its list with its record, or changes nothing where it is refused; a splice moves every
slot of its source, in order, to the tail of its target, and onto FREE each loses its record. -/
def Obligations.AllocationsAndSplicesMoveSlots : Prop :=
  ∀ s : State, s.store.Whole →
    (∀ p target cls record, s.grant = some (p, .alloc target cls record) → target ≠ .free →
      if (cls = .bounded ∧ (s.store.desc .free).count ≤ s.reserve) ∨
          (cls = .opened ∧ (s.store.desc .free).count = 0) ∨
          (record.isHead = true ∧ target.isPend = true ∧ 4294967295 ≤ s.logs.seqs + s.store.outstanding) then
        ∃ t, exec .allocation s = .next t ∧ t.store = s.store
      else
        ∃ t i, exec .allocation s = .next t ∧
          s.store.chain .free = i :: t.store.chain .free ∧
          t.store.chain target = s.store.chain target ++ [i] ∧
          (∀ l, l ≠ .free → l ≠ target → t.store.chain l = s.store.chain l) ∧
          (t.store.slot i).record = record ∧ (t.store.slot i).alloc = (s.store.slot i).alloc + 1 ∧
          (∀ j, j ≠ i →
            (t.store.slot j).record = (s.store.slot j).record ∧ (t.store.slot j).alloc = (s.store.slot j).alloc) ∧
          t.store.Whole) ∧
    ∀ p source target, s.grant = some (p, .splice source target) → source ≠ target →
      ∃ t, exec .wholeListSplice s = .next t ∧
        t.store.chain source = [] ∧ t.store.chain target = s.store.chain target ++ s.store.chain source ∧
        (∀ l, l ≠ source → l ≠ target → t.store.chain l = s.store.chain l) ∧
        (∀ i, (t.store.slot i).alloc = (s.store.slot i).alloc ∧
          (t.store.slot i).record =
            if target = .free ∧ (s.store.slot i).owner = source then .none else (s.store.slot i).record) ∧
        t.store.Whole

/-- Stamped and head splices (R14, R15) in a store whose lists are whole: a stamped splice draws the next sequence
number, writes it with the outcome and the pass minute into the head, and moves the chain to its log; a head splice
returns the first slots of a log and the compartment slots that would be left at its head. -/
def Obligations.StampedAndHeadSplicesMoveRecords : Prop :=
  ∀ s : State, s.store.Whole →
    (∀ p v o pass, s.grant = some (p, .stamped v o pass) → ∃ t, exec .stampedSplice s = .next t ∧
      FlagsFollow t ∧
      match s.store.chain (.pend v) with
      | [] => t.store = s.store ∧ t.logs.seqs = s.logs.seqs
      | i :: is =>
          let goal : LogId := match o with | .released => .log | _ => .exception
          t.logs.seqs = s.logs.seqs + 1 ∧
          t.store.chain (.pend v) = [] ∧ t.store.chain goal.list = s.store.chain goal.list ++ i :: is ∧
          (∀ l, l ≠ .pend v → l ≠ goal.list → t.store.chain l = s.store.chain l) ∧
          (∀ m : LogId, t.store.records m = s.store.records m + if m = goal then 1 else 0) ∧
          (∀ h, (s.store.slot i).record = .logHead h → (t.store.slot i).record =
            .logHead { h with seq := some (s.logs.seqs + 1), outcome := some o, passMinute := pass }) ∧
          ∀ j, j ≠ i → (t.store.slot j).record = (s.store.slot j).record) ∧
    ∀ p m k, s.grant = some (p, .headSplice m k) → ∃ t, exec .headSplice s = .next t ∧
      FlagsFollow t ∧
      (k = 0 → t.store = s.store) ∧
      (0 < k →
        let c := s.store.chain m.list
        let isComp := fun i => (s.store.slot i).record.isLogComp
        let gone := c.take k ++ (c.drop k).takeWhile isComp
        t.store.chain m.list = (c.drop k).dropWhile isComp ∧
        t.store.chain .free = s.store.chain .free ++ gone ∧
        (∀ l, l ≠ m.list → l ≠ .free → t.store.chain l = s.store.chain l) ∧
        t.store.records m = s.store.records m - gone.countP (fun i => (s.store.slot i).record.isHead) ∧
        ∀ i, (t.store.slot i).record = if i ∈ gone then .none else (s.store.slot i).record)

/-- Reads and writes (R11, R12): a read finds the head of a list, or a slot that is still on its list with the
allocation count held, and changes nothing; that a check's read answered MOVED with neither of its marks set ends in a
fault is the model's choice, since R132 says that none is taken (log 18); a write replaces the named fields of such a
slot of a COMP list, or of the head of a PENDING list, and changes no other slot and no list; a slot not found so is
left as it is. -/
def Obligations.ReadsAndWritesFindTheirSlot : Prop :=
  ∀ s : State,
    let found (i : SlotNo) : ReadAnswer :=
      .slot ⟨i, (s.store.slot i).alloc⟩ (s.store.slot i).record
        ((s.store.slot i).next.map fun n => ⟨n, (s.store.slot n).alloc⟩)
    let answer (list : ListId) (r : Option SlotRef) : ReadAnswer :=
      match r with
      | none =>
          match (s.store.desc list).head with
          | none => .empty
          | some i => found i
      | some r =>
          if (s.store.slot r.slot).owner = list ∧ (s.store.slot r.slot).alloc = r.alloc then found r.slot
          else .moved
    (∀ p list r, s.grant = some (p, .read list r) →
      (if p = .check ∧ s.checkReadLost (answer list r) = true then exec .slotRead s = .fault .neverTaken
       else ∃ t, exec .slotRead s = .next t ∧ t.store = s.store ∧
        t = (s.granted p).readBy p list (answer list r))) ∧
    ∀ p list r f, s.grant = some (p, .write list r f) → ∃ t, exec .slotWrite s = .next t ∧
      let here := (s.store.slot r.slot).owner = list ∧ (s.store.slot r.slot).alloc = r.alloc
      let record := (s.store.slot r.slot).record
      let put (x : Record) : Store :=
        { s.store with slots := tset s.store.slots r.slot { s.store.slot r.slot with record := x } }
      (¬ here → t.store = s.store) ∧
      (list.writable = false → t.store = s.store) ∧
      (∀ base c, here → list.writable = true → f = .prepare base → record = .compartment c →
        t.store = put (.compartment { c with base, figure := none })) ∧
      (∀ net product fills figure overfull amended c, here → list.writable = true →
        f = .fill net product fills figure overfull amended → record = .compartment c →
        t.store = put (.compartment { c with
          net, product := some product, fills, lastFill := some s.time.minutes, figure := some figure
          overfull, amended })) ∧
      ∀ minute h, here → list.writable = true → f = .complete minute → record = .logHead h →
        t.store = put (.logHead { h with mark := .complete, clearMinute := some minute })

/-! ### Reading the store and the logs -/

/-- STORE_READ and its grant (R22), and VISIT_READ with its compartments (R37): the counts are those of the grant,
with the index as the grant leaves it; the walk of a visit's compartments answers with the context as it stood when
the item was taken. R200: the visit status reply and its compartment entries stand as their tables lay them out, with
the states, paper states, check outcomes and reasons numbered as R198 has them. How STORE_READ's reply stands is the
model's reading (log 17). -/
def Obligations.StoreAndVisitReads : Prop :=
  (∀ (h : Head) (visit : Option Nat) (s : State), Taken s h (.storeRead h visit) →
    ∃ t, exec (.storeRead h visit) s = .next t ∧
      match visit with
      | none => Waits s t h (.storeRead h visit) .storeRead (.storeCounts none)
      | some n =>
          if hv : n < 48 then Waits s t h (.storeRead h visit) .storeRead (.storeCounts (some ⟨n, hv⟩))
          else Answered s t h (.storeRead h visit) .malformed []) ∧
  (∀ (l : LinkNo) (visit : Option VisitNo) (s : State), s.grant = some (linkRequester l, .storeCounts visit) →
    s.job l = some .storeRead →
    ∃ t, exec .storeCountsGrant s = .next t ∧
      Finished (s.granted (linkRequester l)) t l .done
        (put16 (s.store.desc .free).count ++ put8 s.reserve ++
          putBit (decide ((s.store.desc .free).count ≤ s.reserve)) ++
          put16 (s.store.desc .log).count ++ put16 s.store.logRecords ++
          put16 (s.store.desc .exception).count ++ put16 s.store.excRecords ++
          put8 s.service.length ++ s.service.flatMap (fun p => put8 p.value) ++
          put8 (if s.index + 1 < s.service.length then s.index + 1 else 0) ++
          (match visit with
            | none => []
            | some v =>
                put16 (s.store.desc (.comp v)).count ++ put16 (s.store.desc (.paper v)).count ++
                  put16 (s.store.desc (.pend v)).count ++
                  putOpt put8 ((State.pendMark s.store v).map BuildMark.value)))) ∧
  (∀ (h : Head) (v : VisitNo) (s : State), Taken s h (.visitRead h v.val true) →
    ∃ t, exec (.visitRead h v.val true) s = .next t ∧
      if (s.visit v).state = .free then
        Answered s t h (.visitRead h v.val true) .done (visitBytes v (s.visit v) [])
      else
        Waits s t h (.visitRead h v.val true) (.visitRead v (s.visit v) []) (.read (.comp v) none)) ∧
  (∀ (l : LinkNo) (v : VisitNo) (x : Visit) (got : List Compartment) (at_ : Option SlotRef) (s : State),
    s.grant = some (linkRequester l, .read (.comp v) at_) → s.job l = some (.visitRead v x got) →
    ∃ t, exec .slotRead s = .next t ∧
      (s.store.read (.comp v) at_ = .moved →
        Finished (s.granted (linkRequester l)) t l .donePartial (visitBytes v x got)) ∧
      (s.store.read (.comp v) at_ = .empty →
        Finished (s.granted (linkRequester l)) t l .done (visitBytes v x got)) ∧
      ∀ ref c next, s.store.read (.comp v) at_ = .slot ref (.compartment c) next →
        match next with
        | none => Finished (s.granted (linkRequester l)) t l .done (visitBytes v x (got ++ [c]))
        | some n =>
            Continues (s.granted (linkRequester l)) t l (.visitRead v x (got ++ [c])) (.read (.comp v) (some n))) ∧
  (∀ (v : VisitNo) (x : Visit) (cs : List Compartment),
    let item : Int × Int := match x.lastCheck.bind CheckRecord.item with
      | none => (0, 0)
      | some (.compartment n) => (1, n)
      | some (.line n) => (2, n)
      | some .driver => (3, 0)
      | some .coDriver => (4, 0)
    let marks : Nat := x.arrivalMark.toNat + 2 * x.heldOrigin.toNat + 4 * x.lapsed.toNat +
      8 * x.declarationLow.toNat + 16 * x.recheckFail.toNat
    let present : Nat := x.arrival.isSome.toNat + 2 * x.paper.isSome.toNat +
      4 * (x.paper.bind Paper.q).isSome.toNat + 8 * x.lastCheck.isSome.toNat + 16 * x.clearance.isSome.toNat +
      32 * x.passMinute.isSome.toNat
    ∃ front, visitBytes v x cs = front ++ cs.flatMap compBytes ∧ LaidOut front 53
      [(0, 1, v.val), (1, 2, x.tag.toNat), (3, 1, x.state.value),
        (4, 1, marks), (5, 1, present),
        (6, 4, (x.arrival.map Arrival.tanker).getD 0), (10, 4, (x.arrival.map Arrival.driver).getD 0),
        (14, 4, (x.arrival.bind Arrival.coDriver).getD 0), (18, 1, (x.arrival.map Arrival.compCount).getD 0),
        (19, 4, (x.arrival.map Arrival.minute).getD 0), (23, 1, ((x.bay.map fun b => b.val + 1).getD 0 : Nat)),
        (24, 1, x.paperState.value), (25, 4, (x.paper.map Paper.number).getD 0),
        (29, 2, (x.paper.map Paper.p).getD 0), (31, 2, (x.paper.bind Paper.q).getD 0),
        (33, 1, (x.paper.bind Paper.expected).getD 0), (34, 1, x.accepted),
        (35, 1, ((x.lastCheck.map CheckRecord.outcome).getD .none).value),
        (36, 1, ((x.lastCheck.bind CheckRecord.reason).map Reason.value).getD 0),
        (37, 1, item.1), (38, 1, item.2), (39, 1, (x.lastCheck.map CheckRecord.count).getD 0),
        (40, 2, (x.lastCheck.map CheckRecord.margin).getD 0), (42, 2, (x.clearance.map Clearance.code).getD 0),
        (44, 4, (x.clearance.map Clearance.deadline).getD 0), (48, 4, x.passMinute.getD 0), (52, 1, cs.length)]) ∧
  (∀ c : Compartment,
    let present : Nat := c.overfull.toNat + 2 * c.amended.toNat + 4 * c.product.isSome.toNat +
      8 * c.figure.isSome.toNat + 16 * c.lastFill.isSome.toNat
    LaidOut (compBytes c) 18
    [(0, 1, c.number), (1, 1, present), (2, 2, c.capacity.getD 0), (4, 2, c.product.getD 0), (6, 2, c.net),
      (8, 2, c.base), (10, 2, c.figure.getD 0), (12, 2, c.fills), (14, 4, c.lastFill.getD 0)]) ∧
  [VisitState.free, .arrived, .assigned, .loading, .loaded, .queued, .checking, .cleared, .held, .releasing, .lapsing,
    .aborting].map VisitState.value = List.range 12 ∧
  [PaperState.none, .opened, .complete, .short, .truncated].map PaperState.value = List.range 5 ∧
  [CheckOutcome.none, .pass, .fail, .retry, .logFull].map CheckOutcome.value = List.range 5 ∧
  [Reason.paperIncomplete, .paperTruncated, .unclassified, .compartmentOver, .lineMissing, .duplicateLine,
    .productMismatch, .quantityOut, .lineUnmatched, .segregation, .breakDue, .dayShort, .weekShort, .spanShort,
    .overstay, .restOnSite].map Reason.value = List.range' 1 16

/-- The four log items and their grants (9.5, 9.6): a count outside 1 to 8 is refused; the walk reads from the head; a
record is gathered when its last slot is read, and passed over below the first sequence number asked for; a take
returns exactly the slots it gathered and sets its take record; a peek ends with what it gathered. R199: the reply of a
peek, the head of 40 bytes and the compartment entry of 13 stand as their tables lay them out, each record is its head
followed by its entries, a take's reply opens with the terminal identity, and the log outcomes are numbered as R198 has
them. -/
def Obligations.TakesAndPeeksWalkTheLogs : Prop :=
  (∀ (h : Head) (count first : Nat) (s : State),
    let begins (i : Instr) (m : LogId) (start : Nat) (job : Gather → Job) : Prop :=
      Taken s h i → ∃ t, exec i s = .next t ∧
        if count < 1 ∨ 8 < count then Answered s t h i .malformed []
        else
          Waits s t h i
            (job { log := m, want := count, start, got := [], cur := none, slots := 0 }) (.read m.list none)
    begins (.logTake h count) .log 0 .take ∧ begins (.excTake h count) .exception 0 .take ∧
      begins (.logPeek h first count) .log first .peek ∧ begins (.excPeek h first count) .exception first .peek) ∧
  (∀ (g : Gather) (x : LogHead) (cs : List LogComp), g.cur = none → x.compCount = cs.length →
    (Record.logHead x :: cs.map Record.logComp).foldl Gather.take g =
      if g.start ≤ x.seq.getD 0 then
        { g with got := g.got ++ [⟨x, cs⟩], slots := g.slots + 1 + cs.length }
      else g) ∧
  (∀ (l : LinkNo) (g : Gather) (at_ : Option SlotRef) (ref : SlotRef) (record : Record) (next : Option SlotRef)
      (s : State),
    s.grant = some (linkRequester l, .read g.log.list at_) →
    s.store.read g.log.list at_ = .slot ref record next →
    let w := g.take record
    let r := s.granted (linkRequester l)
    (s.job l = some (.take g) → ∃ t, exec .slotRead s = .next t ∧
      match next with
      | some n =>
          if w.got.length < g.want then Continues r t l (.take w) (.read g.log.list (some n))
          else if w.got = [] then Finished r t l .done (takeBytes s.cc.identity (s.logs.takeOf g.log) [])
          else Continues r t l (.take w) (.headSplice g.log w.slots)
      | none =>
          if w.got = [] then Finished r t l .done (takeBytes s.cc.identity (s.logs.takeOf g.log) [])
          else Continues r t l (.take w) (.headSplice g.log w.slots)) ∧
    (s.job l = some (.peek g) → ∃ t, exec .slotRead s = .next t ∧
      match next with
      | some n =>
          if w.got.length < g.want then Continues r t l (.peek w) (.read g.log.list (some n))
          else Finished r t l .done (peekBytes (s.logs.takeOf g.log) w.got)
      | none => Finished r t l .done (peekBytes (s.logs.takeOf g.log) w.got))) ∧
  (∀ (l : LinkNo) (g : Gather) (at_ : Option SlotRef) (s : State),
    s.grant = some (linkRequester l, .read g.log.list at_) →
    ((s.store.read g.log.list at_ = .empty → g.got = [] → s.job l = some (.take g) →
      ∃ t, exec .slotRead s = .next t ∧
        Finished (s.granted (linkRequester l)) t l .done
          (takeBytes s.cc.identity (s.logs.takeOf g.log) [])) ∧
     (s.job l = some (.peek g) → ∃ t, exec .slotRead s = .next t ∧
      (s.store.read g.log.list at_ = .empty →
        Finished (s.granted (linkRequester l)) t l .done (peekBytes (s.logs.takeOf g.log) g.got)) ∧
      (s.store.read g.log.list at_ = .moved →
        Finished (s.granted (linkRequester l)) t l .donePartial (peekBytes (s.logs.takeOf g.log) g.got))))) ∧
  (∀ (l : LinkNo) (g : Gather) (k : Nat) (one : LogRecord) (more : List LogRecord) (s : State),
    s.grant = some (linkRequester l, .headSplice g.log k) → s.job l = some (.take g) → g.got = one :: more →
    ∃ t, exec .headSplice s = .next t ∧
      let took : TakeRecord :=
        ⟨one.head.seq.getD 0, (((one :: more).getLast (by simp)).head.seq).getD 0, g.got.length, g.slots⟩
      let u := (s.granted (linkRequester l)).withStore (s.store.headSplice g.log k).1
      Finished { u with logs := u.logs.setTake g.log (some took) } t l .done
        (takeBytes s.cc.identity (some took) g.got)) ∧
  (∀ (identity : Option Nat) (k : Option TakeRecord) (rs : List LogRecord),
    takeBytes identity k rs = wireBytes 4 (identity.getD 0) ++ peekBytes k rs ∧
    ∃ front, peekBytes k rs = front ++ (rs.flatMap fun r => headBytes r.head ++ r.comps.flatMap logCompBytes) ∧
      LaidOut front 12
      [(0, 1, k.isSome.toNat), (1, 4, (k.map TakeRecord.first).getD 0), (5, 4, (k.map TakeRecord.last).getD 0),
        (9, 1, (k.map TakeRecord.records).getD 0), (10, 1, (k.map TakeRecord.slots).getD 0), (11, 1, rs.length)]) ∧
  (∀ x : LogHead,
    let present : Nat := x.paperNo.isSome.toNat + 2 * x.clearMinute.isSome.toNat + 4 * x.passMinute.isSome.toNat
    LaidOut (headBytes x) 40
    [(0, 4, x.seq.getD 0), (4, 1, (x.outcome.map LogOutcome.value).getD 0), (5, 1, present),
      (6, 1, x.visit.val), (7, 2, x.tag.toNat), (9, 4, x.tanker), (13, 4, x.driver), (17, 4, x.coDriver.getD 0),
      (21, 4, x.paperNo.getD 0), (25, 1, ((x.bay.map fun b => b.val + 1).getD 0 : Nat)),
      (26, 4, x.clearMinute.getD 0), (30, 4, x.passMinute.getD 0), (34, 2, x.p), (36, 2, x.margin), (38, 1, x.checkOutcome.value),
      (39, 1, x.compCount)]) ∧
  (∀ c : LogComp, LaidOut (logCompBytes c) 13
    [(0, 1, c.number), (1, 1, (c.amended.toNat + 2 * c.declared.isSome.toNat : Nat)), (2, 2, c.product), (4, 1, c.group),
      (5, 2, c.net), (7, 2, c.declared.getD 0), (9, 4, c.deviation.getD 0)]) ∧
  [LogOutcome.released, .lapsed, .aborted, .resetLapsed].map LogOutcome.value = [1, 2, 3, 4]

/-! ### The dispatch check -/

/-- CHECK_TAKE and the walk of a check (R131, R132): the head of the queue is taken with its working record; the lines
and then the compartments are read one slot a grant and join the working record. At the end of the COMP list judging
begins with the paper state step (R133): the first question is put, or the hours step is taken, or a check of a visit
without a paper ends FAIL with margin 0 (R138, R143). An answer taken with the stale mark
set ends the check RETRY with CHECK_DONE raised, and one taken in ABANDON is discarded, the check ends without a
record, and the abort presents its first grant (R39, R147). That a read answered MOVED with neither mark set ends in a
fault is the model's choice, since R132 says that none is taken (log 18). -/
def Obligations.ChecksAreTakenAndWalked : Prop :=
  (∀ (s : State) (v : VisitNo) (queue : List VisitNo), s.alive = true → s.dcu.check = none →
    s.dcu.queue = v :: queue → (s.visit v).state = .queued →
    exec .checkTake s = .next { s with
      visits := tset s.visits v { s.visit v with state := .checking }
      requests := tset s.requests Requester.check.ix (some (.read (.paper v) none))
      dcu := ⟨queue, some
        { phase := .read, visit := v, tag := (s.visit v).tag
          tanker := ((s.visit v).arrival.map Arrival.tanker).getD 0
          driver := ((s.visit v).arrival.map Arrival.driver).getD 0
          coDriver := (s.visit v).arrival.bind Arrival.coDriver
          compCount := ((s.visit v).arrival.map Arrival.compCount).getD 0
          bay := (s.visit v).bay, paperState := (s.visit v).paperState, paper := (s.visit v).paper
          judge := ⟨[], [], [], [], none, none, 0⟩, verdict := none, margin := none, party := none
          stale := false, abandon := false, ask := none, build := [], left := [] }⟩ }) ∧
  ∀ (s : State) (c : Check) (list : ListId) (at_ : Option SlotRef),
    s.dcu.check = some c → s.grant = some (.check, .read list at_) →
    let ended (st : VisitState) (r : CheckRecord) : State :=
      { s.granted .check with
        visits := tset s.visits c.visit
          { s.visit c.visit with state := st, heldOrigin := false, clearance := none, lastCheck := some r }
        dcu := ⟨s.dcu.queue, none⟩
        links := (s.raise .gate .checkDone).links }
    let asks (j : Judge) (a : Ask) : State :=
      { s.granted .check with dcu := ⟨s.dcu.queue, some { c with phase := .judge, judge := j, ask := some a }⟩ }
    let judges (j : Judge) : Prop :=
      let k := (j.paperStep c.paperState).onward
      (∀ a, k.2 = some a → exec .slotRead s = .next (asks k.1 a)) ∧
      (k.2 = none → c.paperState ≠ .none → exec .slotRead s = .next (asks k.1 .verdict)) ∧
      (k.2 = none → c.paperState = .none → (s.visit c.visit).state = .checking →
        exec .slotRead s = .next (ended .held ⟨.fail, k.1.reason, k.1.item, k.1.count, 0⟩))
    (c.phase = .abandon → ∃ t, exec .slotRead s = .next t ∧
      AbortBegins { s.granted .check with dcu := ⟨s.dcu.queue, none⟩ } t c.visit) ∧
    (c.phase = .read → c.stale = true → (s.visit c.visit).state = .checking →
      exec .slotRead s = .next (ended .loaded ⟨.retry, none, none, 0, 0⟩)) ∧
    (c.phase = .read → c.stale = false →
      (∀ ref x next, list = .paper c.visit → s.store.read list at_ = .slot ref (.paperLine x) next →
        exec .slotRead s = .next { s.granted .check with
          dcu := ⟨s.dcu.queue, some { c with judge := { c.judge with lines := c.judge.lines ++ [x] } }⟩
          requests := tset s.requests Requester.check.ix (some
            (match next with
              | some n => .read list (some n)
              | none => .read (.comp c.visit) none)) }) ∧
      (list = .paper c.visit → s.store.read list at_ = .empty →
        exec .slotRead s = .next { s.granted .check with
          requests := tset s.requests Requester.check.ix (some (.read (.comp c.visit) none)) }) ∧
      (∀ ref x next, list = .comp c.visit → s.store.read list at_ = .slot ref (.compartment x) next →
        let j := { c.judge with todo := c.judge.todo ++ [x] }
        match next with
        | some n =>
            exec .slotRead s = .next
              { s.granted .check with
                dcu := ⟨s.dcu.queue, some { c with judge := j }⟩
                requests := tset s.requests Requester.check.ix (some (.read list (some n))) }
        | none => judges j) ∧
      (list = .comp c.visit → s.store.read list at_ = .empty → judges c.judge) ∧
      (s.store.read list at_ = .moved → exec .slotRead s = .fault .neverTaken))

/-- R133 to R137: the steps of judging. The paper state step; the case of each loaded compartment, with the quantity
test, in chain order; then the line step; then the pair tests with their failing item, each pair once in ascending
order of its groups. A first failure sets reason and
item, and the count saturates at 255 (R139). -/
def Obligations.JudgingFollowsTheTables : Prop :=
  (∀ (j : Judge) (r : Reason) (i : Option FailItem), (j.fail r i).count = min (j.count + 1) 255 ∧
    (j.reason = none → (j.fail r i).reason = some r ∧ (j.fail r i).item = i) ∧
    (j.reason ≠ none → (j.fail r i).reason = j.reason ∧ (j.fail r i).item = j.item)) ∧
  (∀ j : Judge, j.paperStep .complete = j ∧ j.paperStep .truncated = j.fail .paperTruncated none ∧
    j.paperStep .none = j.fail .paperIncomplete none ∧ j.paperStep .opened = j.fail .paperIncomplete none ∧
    j.paperStep .short = j.fail .paperIncomplete none) ∧
  (∀ (lines : List PaperLine) (c : Compartment), compartmentCase lines c .unclassified = (some .unclassified, none)) ∧
  (∀ (lines : List PaperLine) (c : Compartment) (n : Nat) (b : Band),
    let mine := lines.filter fun l => l.comp == c.number
    (c.overfull = true → compartmentCase lines c (.band n b) = (some .compartmentOver, none)) ∧
    (c.overfull = false → b.paperRequired = false → compartmentCase lines c (.band n b) = (none, none)) ∧
    (c.overfull = false → b.paperRequired = true →
      (mine = [] → compartmentCase lines c (.band n b) = (some .lineMissing, none)) ∧
      (2 ≤ mine.length → compartmentCase lines c (.band n b) = (some .duplicateLine, none)) ∧
      ∀ l, mine = [l] →
        (c.product ≠ some l.product → compartmentCase lines c (.band n b) = (some .productMismatch, none)) ∧
        (c.product = some l.product →
          let deviation : Int := (c.net : Int) - l.declared
          let allowed := max b.litres (l.declared * b.permille / 1000)
          compartmentCase lines c (.band n b) =
            (if deviation ≤ allowed ∧ -(allowed : Int) ≤ deviation then none else some .quantityOut,
              some (l.declared, deviation))))) ∧
  (∀ (j : Judge) (c : Compartment) (cs : List Compartment) (a : ClassAnswer), j.todo = c :: cs →
    (c.net = 0 → j.onward = Judge.onward { j with done := j.done ++ [⟨c, none, none⟩], todo := cs }) ∧
    (0 < c.net → j.onward = (j, some (.lookup (c.product.getD 0)))) ∧
    let r := compartmentCase j.lines c a
    let k := match r.1 with
      | none => j
      | some x => j.fail x (some (.compartment c.number))
    j.takeLookup a = Judge.onward { k with done := j.done ++ [⟨c, some a, r.2⟩], todo := cs }) ∧
  (∀ j : Judge, j.todo = [] →
    let k := j.lineStep 1 j.lines
    j.onward = ({ k with pairs := k.pairsOf }, k.pairsOf.head?.map fun p => Ask.pair p.1 p.2)) ∧
  (∀ (j : Judge) (l : PaperLine) (ls : List PaperLine) (n : Nat), j.lineStep n (l :: ls) =
    if ∃ w ∈ j.done, 0 < w.comp.net ∧ w.comp.number = l.comp ∧ w.comp.product = some l.product then
      j.lineStep (n + 1) ls
    else (j.fail .lineUnmatched (some (.line n))).lineStep (n + 1) ls) ∧
  (∀ (j : Judge) (g h : Nat), (g, h) ∈ j.pairsOf ↔ g ≤ h ∧ h ≤ 15 ∧
    if g = h then 2 ≤ (j.ofGroup g).length else j.ofGroup g ≠ [] ∧ j.ofGroup h ≠ []) ∧
  (∀ j : Judge, j.pairsOf.Pairwise fun a b => a.1 < b.1 ∨ (a.1 = b.1 ∧ a.2 < b.2)) ∧
  ∀ (j : Judge) (g h : Nat) (ps : List (Nat × Nat)), j.pairs = (g, h) :: ps →
    (j.takePair false).1 = { j with pairs := ps } ∧
    (j.takePair true).1 = { j.fail .segregation
      (((if g = h then (j.ofGroup g)[1]? else (j.ofGroup h)[0]?)).map FailItem.compartment) with pairs := ps } ∧
    ∀ m, (j.takePair m).2 = ps.head?.map fun p => Ask.pair p.1 p.2

/-- CLASS_LOOKUP and PAIR_TEST (R65, R69, R134, R137): the Class Table answers from the table as it stands, and the
party that asked goes on with the answer: a check to its next question, its hours step or its decision, a sweep to
its next question or its result. An answer taken in ABANDON is discarded: the check ends without a record and the abort
presents its first grant (R39, R147). Where no paper was opened the hours step is not taken, the margin is 0
(R138) and the check, which failed at its paper state step, ends FAIL. -/
def Obligations.ClassAnswersAreTaken : Prop :=
  ∀ (s : State), s.alive = true →
    let answers (j : Judge) : Ask → Option (Judge × Option Ask) := fun a =>
      match a with
      | .lookup code => some (j.takeLookup (s.classes.lookup code))
      | .pair g h => some (j.takePair (if hg : g < 16 ∧ h < 16 then
          tget s.classes.matrix (ClassTable.cell ⟨g, hg.1⟩ ⟨h, hg.2⟩) else false))
      | .verdict => none
    let command (a : Ask) (who : Asker) : Instr :=
      match a with
      | .lookup _ => .classLookup who
      | _ => .pairTest who
    let ended (c : Check) (st : VisitState) (r : CheckRecord) : State :=
      { s with
        visits := tset s.visits c.visit
          { s.visit c.visit with state := st, heldOrigin := false, clearance := none, lastCheck := some r }
        dcu := ⟨s.dcu.queue, none⟩
        links := (s.raise .gate .checkDone).links }
    (∀ c a j, s.dcu.check = some c → c.ask = some a → c.phase ≠ .abandon → answers c.judge a = some j →
      (c.stale = true → (s.visit c.visit).state = .checking →
        exec (command a .check) s = .next (ended c .loaded ⟨.retry, none, none, 0, 0⟩)) ∧
      exec (command a .check) s =
        .next (if c.stale then (s.setCheck (some { c with ask := none })).endRetry { c with ask := none }
          else (s.setCheck (some { c with ask := none })).judgeGoesOn { c with ask := none } j)) ∧
    (∀ c a j, s.dcu.check = some c → c.ask = some a → c.phase = .abandon → answers c.judge a = some j →
      ∃ t, exec (command a .check) s = .next t ∧ AbortBegins { s with dcu := ⟨s.dcu.queue, none⟩ } t c.visit) ∧
    (∀ c (j : Judge) ask, c.phase = .judge → c.ask = none → s.dcu.check = some c →
      s.judgeGoesOn c (j, ask) =
        match ask with
        | some a => { s with dcu := ⟨s.dcu.queue, some { c with judge := j, ask := some a }⟩ }
        | none =>
            if c.paperState ≠ .none then
              { s with dcu := ⟨s.dcu.queue, some { c with judge := j, ask := some .verdict }⟩ }
            else s.decideOutcome { c with judge := j, margin := some 0 }) ∧
    (∀ c (j : Judge), c.phase = .judge → c.ask = none → s.dcu.check = some c → c.paperState = .none → 0 < j.count →
      (s.visit c.visit).state = .checking →
      s.judgeGoesOn c (j, none) = ended c .held ⟨.fail, j.reason, j.item, j.count, 0⟩) ∧
    ∀ v tag j a k, s.sweep.work = .judging v tag j a → answers j a = some k →
      ∃ t, exec (command a .sweep) s = .next t ∧
        match k.2 with
        | some b => t = { s with sweep := { s.sweep with work := .judging v tag k.1 b } }
        | none =>
            if (s.visit v).tag = tag ∧ (s.visit v).state ≠ .free then
              t = (s.setVisit v { s.visit v with recheckFail := decide (0 < k.1.count) }).takeResult k.1.reason
            else t = s.advanceSweep

/-- R140, R141: the verdict of a solo driver and of a crew from their effective figures, with the margin limited to a
signed 16-bit number. -/
def Obligations.VerdictsFollowTheFigures : Prop :=
  ∀ (r : RuleSet) (n p q : Nat) (d k : Driver), 1 ≤ r.lCont →
    let rem (limit used : Nat) : Int := (limit : Int) - used
    let sat (m : Int) : Int := max (-32768) (min 32767 m)
    let span (x : Driver) : Int := (r.lSpan : Int) - min (n - x.spanStart) 65535
    let drive (x : Driver) : Int := min (rem r.lDay x.day) (rem r.lWeek x.week)
    let eight (x : Driver) (dm sm : Int) : Verdict :=
      if dm < 0 then (if rem r.lDay x.day ≤ rem r.lWeek x.week then .dayShort else .weekShort)
      else if sm < 0 then .spanShort else .hoursOk
    (r.lCont ≤ d.cont →
      soloVerdict r n p q d = ⟨.breakDue, sat (rem r.lCont d.cont), [(.driver, .breakDue)]⟩) ∧
    (d.cont < r.lCont →
      ∃ breaks : Nat, (∀ b : Nat, p + d.cont ≤ r.lCont + b * r.lCont ↔ breaks ≤ b) ∧
        let dm := drive d - p
        let sm := span d - (q + breaks * r.b : Nat)
        soloVerdict r n p q d = ⟨eight d dm sm, sat (min dm sm),
          if eight d dm sm = .hoursOk then [] else [(.driver, eight d dm sm)]⟩) ∧
    let half := (p + 1) / 2
    let dm := drive d - half
    let sm := span d - q
    let km := drive k - half
    let cm := span k - q
    let a := crewVerdict r n p q d k
    a.margin = sat (min (min dm sm) (min km cm)) ∧
    a.fails = (if eight d dm sm = .hoursOk then [] else [(.driver, eight d dm sm)]) ++
      (if eight k km cm = .hoursOk then [] else [(.coDriver, eight k km cm)]) ∧
    a.verdict = if eight d dm sm ≠ .hoursOk then eight d dm sm else eight k km cm

/-- HOURS_VERDICT (R138, R143, R152): the verdict is formed from the figures and the minute count at its step, each
failing driver counts as a failure, and a check with any failure ends FAIL with the visit HELD and CHECK_DONE raised;
one without goes on to place the head of its clearance record (R148). An answer taken with the stale mark set ends the
check RETRY (R146); one taken in ABANDON is discarded, and the abort presents its first grant (R39, R147). -/
def Obligations.HoursVerdictsDecideTheCheck : Prop :=
  ∀ (s : State) (c : Check), s.alive = true → s.dcu.check = some c → c.ask = some .verdict →
    (c.phase = .abandon → ∃ t, exec .hoursVerdict s = .next t ∧
      AbortBegins { s with dcu := ⟨s.dcu.queue, none⟩ } t c.visit) ∧
    (c.phase = .judge → (s.visit c.visit).state = .checking →
    ∃ t, exec .hoursVerdict s = .next t ∧
      let p := (c.paper.map Paper.p).getD 0
      let q := (c.paper.bind Paper.q).getD p
      let a : HoursAnswer := match c.coDriver with
        | none => soloVerdict s.rules s.time.minutes p q (s.effective c.driver)
        | some k => crewVerdict s.rules s.time.minutes p q (s.effective c.driver) (s.effective k)
      let j : Judge := a.fails.foldl (fun j f => j.failIf f.1 f.2.reason) c.judge
      if c.stale then
        t = { s with
          visits := tset s.visits c.visit
            { s.visit c.visit with
              state := .loaded, heldOrigin := false, clearance := none
              lastCheck := some ⟨.retry, none, none, 0, 0⟩ }
          dcu := ⟨s.dcu.queue, none⟩
          links := (s.raise .gate .checkDone).links }
      else if 0 < j.count then
        t = { s with
          visits := tset s.visits c.visit
            { s.visit c.visit with
              state := .held, heldOrigin := false, clearance := none
              lastCheck := some ⟨.fail, j.reason, j.item, j.count, a.margin⟩ }
          dcu := ⟨s.dcu.queue, none⟩
          links := (s.raise .gate .checkDone).links }
      else
        ∃ b, t = { s with
            dcu := ⟨s.dcu.queue, some b⟩
            requests := tset s.requests Requester.check.ix (some (.alloc (.pend c.visit) .opened (.logHead
              { mark := .building, seq := none, outcome := none, visit := c.visit, tag := c.tag
                tanker := c.tanker, driver := c.driver, coDriver := c.coDriver
                paperNo := c.paper.map Paper.number, bay := c.bay, clearMinute := none, passMinute := none
                p := (c.paper.map Paper.p).getD 1, margin := a.margin, checkOutcome := .pass
                compCount := (c.judge.done.filter fun w => decide (0 < w.comp.net)).length }))) } ∧
          b = { c with
            phase := .build, ask := none, judge := j, verdict := some a.verdict, margin := some a.margin
            party := a.fails.head?.map Prod.fst
            left := c.judge.done.filter fun w => decide (0 < w.comp.net) })

/-- The building of a clearance (R148 to R151, R155, R156): the loaded compartments are placed one after another and
the head is then completed at N; the completing write ends the check PASS with the next release code and its
deadline; a refused allocation returns what was placed and ends the check LOG_FULL. Whatever is answered in ABANDON, the
check ends without a record and the abort presents its first grant (R39, R147). The margin carried is that of the hours
step; that it is 0 while absent, which no run comes to, is the model's choice (log 26). -/
def Obligations.ClearancesAreBuilt : Prop :=
  ∀ (s : State) (c : Check), s.dcu.check = some c →
    let ends (st : VisitState) (r : CheckRecord) (cl : Option Clearance) (codes : Nat) (u t : State) : Prop :=
      t = { u with
        visits := tset s.visits c.visit
          { s.visit c.visit with state := st, heldOrigin := false, lastCheck := some r, clearance := cl }
        dcu := ⟨s.dcu.queue, none⟩, logs := { u.logs with codes }
        links := (u.raise .gate .checkDone).links }
    (c.phase = .abandon →
      let abandons (u t : State) : Prop := AbortBegins { u with dcu := ⟨s.dcu.queue, none⟩ } t c.visit
      (∀ record, s.grant = some (.check, .alloc (.pend c.visit) .opened record) →
        (s.allocRefused (.pend c.visit) .opened record = true →
          ∃ t, exec .allocation s = .next t ∧ abandons (s.granted .check) t) ∧
        ∀ st ref, s.allocRefused (.pend c.visit) .opened record = false →
          s.store.allocate (.pend c.visit) record = some (st, ref) →
          ∃ t, exec .allocation s = .next t ∧ abandons ((s.granted .check).withStore st) t) ∧
      (∀ r f, s.grant = some (.check, .write (.pend c.visit) r f) →
        ∃ t, exec .slotWrite s = .next t ∧
          abandons ((s.granted .check).setStore ((s.store.write s.time.minutes (.pend c.visit) r f).getD s.store))
            t) ∧
      (s.grant = some (.check, .splice (.pend c.visit) .free) →
        ∃ t, exec .wholeListSplice s = .next t ∧
          abandons ((s.granted .check).withStore (s.store.splice (.pend c.visit) .free)) t)) ∧
    (∀ record, c.phase = .build → s.grant = some (.check, .alloc (.pend c.visit) .opened record) →
      (s.allocRefused (.pend c.visit) .opened record = true → exec .allocation s = .next
        { s.granted .check with
          dcu := ⟨s.dcu.queue, some { c with phase := .unwind }⟩
          requests := tset s.requests Requester.check.ix (some (.splice (.pend c.visit) .free)) }) ∧
      ∀ st ref, s.allocRefused (.pend c.visit) .opened record = false →
        s.store.allocate (.pend c.visit) record = some (st, ref) → exec .allocation s = .next
          { (s.granted .check).withStore st with
            dcu := ⟨s.dcu.queue, some { c with build := c.build ++ [ref], left := c.left.tail }⟩
            requests := tset s.requests Requester.check.ix (some
              (match c.left with
                | w :: _ => .alloc (.pend c.visit) .opened (.logComp
                    { number := w.comp.number, product := w.comp.product.getD 0
                      group := match w.cls with | some (.band _ b) => b.group | _ => 0
                      net := w.comp.net, declared := w.quantity.map Prod.fst
                      deviation := w.quantity.map Prod.snd, amended := w.comp.amended })
                | [] => .write (.pend c.visit) ((c.build ++ [ref]).headD ref) (.complete s.time.minutes))) }) ∧
    (∀ r f st, c.phase = .build → (s.visit c.visit).state = .checking →
      s.grant = some (.check, .write (.pend c.visit) r f) →
      s.store.write s.time.minutes (.pend c.visit) r f = some st →
      ∃ t, exec .slotWrite s = .next t ∧
        let code := if s.logs.codes < 65535 then s.logs.codes + 1 else 1
        ends .cleared ⟨.pass, none, none, 0, c.margin.getD 0⟩
          (some ⟨code, min (s.time.minutes + s.logs.window) 4294967295⟩) code ((s.granted .check).setStore st) t) ∧
    (c.phase = .unwind → (s.visit c.visit).state = .checking →
      s.grant = some (.check, .splice (.pend c.visit) .free) →
      ∃ t, exec .wholeListSplice s = .next t ∧
        ends .held ⟨.logFull, none, none, 0, c.margin.getD 0⟩ none s.logs.codes
          ((s.granted .check).withStore (s.store.splice (.pend c.visit) .free)) t)

/-! ### Audit sweeps -/

/-- SWEEP_START and SWEEP_STOP (10.2, 10.5; the scope's choice is 0 for SINGLE and 1 for ALL, R201 of 11.6): the
checks in their order; an opcode that is no sweep leaves the state UNSUPPORTED with SWEEP_DONE raised; a run begins
with its first record considered; a stopped run ends ABORTED with SWEEP_DONE raised, and the answer to a request that
still waits is discarded. That a stop drops an entry read, a context request, a lookup or a pair test that the run has
asked for, where R183 has it served and its answer discarded, is the model's reading (log 22). That a PAPER_RECHECK asks
for its first context at once, also while the request of a stopped run waits at the store, is the model's choice (log
31). -/
def Obligations.SweepsStartAndStop : Prop :=
  (∀ (h : Head) (opcode scope index : Nat) (s : State),
    let i := Instr.sweepStart h opcode scope index
    Taken s h i →
    ∃ t, exec i s = .next t ∧
      let last := if opcode = 1 then 255 else 47
      let sc : Scope := if scope = 0 then .single index else .all
      let idle : SweepStatus := ⟨.unsupported, some opcode, none, none, 0, 0, none, none⟩
      let status : SweepStatus :=
        ⟨.running, some opcode, some sc, some (if scope = 0 then index else 0), 0, 0, none, none⟩
      if 1 < scope then Answered s t h i .malformed []
      else if s.sweep.status.state = .running then Answered s t h i .busy []
      else if opcode ≠ 1 ∧ opcode ≠ 2 then
        Answered ({ s with sweep := { s.sweep with status := idle } }.raise .audit .sweepDone) t h i .done
          (sweepBytes idle)
      else if scope = 0 ∧ last < index then Answered s t h i .malformed []
      else
        Answered
          (if opcode = 2 then { s with sweep := { s.sweep with status, work := .context } }
           else if s.request .sweep = none then
            { s with
              sweep := { s.sweep with status, work := .hoursGrant }
              requests := tset s.requests Requester.sweep.ix (some (.read .free none)) }
           else
            { s with
              sweep := { s.sweep with status, work := .hoursGrant, deferred := some (.read .free none) } }) t h i
          .done (sweepBytes status)) ∧
  ∀ (h : Head) (s : State), Taken s h (.sweepStop h) →
    ∃ t, exec (.sweepStop h) s = .next t ∧
      if s.sweep.status.state = .running then
        Answered ({ s with sweep :=
          { status := { s.sweep.status with state := .aborted, position := none }, work := .none
            orphan := (s.request .sweep).isSome, deferred := none } }.raise .audit .sweepDone) t h (.sweepStop h)
          .done []
      else Answered s t h (.sweepStop h) .already []

/-- The course of a run (R176, R178 to R180): the result of one record is taken in one step and the run goes on to the
next, or ends with SWEEP_DONE; HOURS_SCAN reads the entry after its grant and tests it; PAPER_RECHECK examines a
COMPLETE paper of a visit in LOADED, QUEUED, HELD or ASSIGNED, and passes over any other. R180: it reads the visit's
PAPER list and then its COMP list, one slot a grant, and judges what it gathered; a read answered MOVED passes the visit
over, and its RECHECK_FAIL stands. -/
def Obligations.SweepsExamineTheirRecords : Prop :=
  (∀ (s : State) (failed : Option Reason),
    let t := s.sweep.status
    let p := t.position.getD 0
    s.takeResult failed =
      State.advanceSweep { s with sweep := { s.sweep with status :=
        { t with
          examined := t.examined + 1
          failures := t.failures + if failed.isSome then 1 else 0
          first := match failed with | none => t.first | some r => some (t.first.getD (p, r))
          last := match failed with | none => t.last | some _ => some p } } }) ∧
  (∀ s : State, s.sweep.status.state = .running → s.request .sweep = none →
    let t := s.sweep.status
    let p := t.position.getD 0
    s.advanceSweep =
      if t.scope = some .all ∧ p < (if t.opcode = some 1 then 255 else 47) then
        if t.opcode = some 1 then
          { s with
            sweep := { s.sweep with status := { t with position := some (p + 1) }, work := .hoursGrant }
            requests := tset s.requests Requester.sweep.ix (some (.read .free none)) }
        else
          { s with sweep := { s.sweep with status := { t with position := some (p + 1) }, work := .context } }
      else
        ({ s with sweep := { s.sweep with
          status := { t with state := if 0 < t.failures then .fail else .pass, position := none }
          work := .none } }).raise .audit .sweepDone) ∧
  (∀ (s : State) (e : EntryNo), s.alive = true → s.sweep.work = .hoursEntry →
    s.sweep.status.position = some e.val →
    exec .sweepEntryRead s = .next
      (match s.driver e with
        | none => s.advanceSweep
        | some d =>
            if d.activity = .absent then s.advanceSweep
            else
              let f := d.endBreak s.rules s.time.minutes
              s.takeResult
                (if s.rules.lSpan ≤ min (s.time.minutes - f.spanStart) 65535 then some .overstay
                 else if s.rules.lCont ≤ f.cont then some .breakDue
                 else if d.activity = .onBreak ∧
                    s.rules.r ≤ s.time.minutes - d.breakStart.getD s.time.minutes then some .restOnSite
                 else none))) ∧
  (∀ (s : State) (v : VisitNo), s.alive = true → s.sweep.work = .context → s.request .sweep = none →
    s.sweep.status.position = some v.val →
    exec .recheckContextRead s = .next
      (if ((s.visit v).state = .loaded ∨ (s.visit v).state = .queued ∨ (s.visit v).state = .held ∨
          (s.visit v).state = .assigned) ∧ (s.visit v).paperState = .complete then
        { s with
          sweep := { s.sweep with work := .walk v (s.visit v).tag ⟨[], [], [], [], none, none, 0⟩ }
          requests := tset s.requests Requester.sweep.ix (some (.read (.paper v) none)) }
       else s.advanceSweep)) ∧
  ∀ (s : State) (list : ListId) (at_ : Option SlotRef), s.grant = some (.sweep, .read list at_) →
    (s.sweep.orphan = true → exec .slotRead s = .next { s.granted .sweep with
      sweep := { s.sweep with orphan := false, deferred := none }
      requests := tset s.requests Requester.sweep.ix s.sweep.deferred }) ∧
    (s.sweep.orphan = false → s.sweep.work = .hoursGrant → exec .slotRead s = .next
      { s.granted .sweep with sweep := { s.sweep with work := .hoursEntry } }) ∧
    ∀ v tag j, s.sweep.orphan = false → s.sweep.work = .walk v tag j →
      let r := s.granted .sweep
      let reads (j : Judge) (l : ListId) (i : Option SlotRef) : State :=
        { r with
          sweep := { s.sweep with work := .walk v tag j }
          requests := tset s.requests Requester.sweep.ix (some (.read l i)) }
      let judges (j : Judge) : State :=
        match j.onward with
        | (k, some a) => { r with sweep := { s.sweep with work := .judging v tag k a } }
        | (k, none) =>
            if (s.visit v).tag = tag ∧ (s.visit v).state ≠ .free then
              (r.setVisit v { s.visit v with recheckFail := decide (0 < k.count) }).takeResult k.reason
            else r.advanceSweep
      (s.store.read list at_ = .moved → exec .slotRead s = .next r.advanceSweep ∧ r.advanceSweep.visits = s.visits) ∧
      (list = .paper v →
        (s.store.read list at_ = .empty → exec .slotRead s = .next (reads j (.comp v) none)) ∧
        ∀ ref x next, s.store.read list at_ = .slot ref (.paperLine x) next →
          let k := { j with lines := j.lines ++ [x] }
          exec .slotRead s = .next
            (match next with
              | some n => reads k list (some n)
              | none => reads k (.comp v) none)) ∧
      (list = .comp v →
        (s.store.read list at_ = .empty → exec .slotRead s = .next (judges j)) ∧
        ∀ ref x next, s.store.read list at_ = .slot ref (.compartment x) next →
          let k := { j with todo := j.todo ++ [x] }
          exec .slotRead s = .next
            (match next with
              | some n => reads k list (some n)
              | none => judges k))

/-! ### What every step keeps -/

/-- R7: every grant and every other command keeps each slot on exactly one list. While it holds no grant finds FREE
broken, and no command is refused by the model. R6: with it, every slot keeps a record of a kind that its list
holds. -/
def Obligations.ListsStayWhole : Prop :=
  ∀ s : State, s.store.Whole →
    (∀ t, step s = .next t → t.store.Whole ∧ (KindsSound s → KindsSound t)) ∧ step s ≠ .fault .chainBroken ∧
      ∀ r : Refusal, step s ≠ .refused r

/-- R6, R43, R163, R164: every step keeps what the logs and the PENDING lists hold. Each log stands as whole records of
its outcomes in strictly ascending number; a PENDING list holds a whole record while its visit is CLEARED, RELEASING or
LAPSING, at most a record being built in CHECKING, what the course of an abort has left in ABORTING, and nothing in
every other state; and a number is left for every head that stands there. -/
def Obligations.RecordsStaySound : Prop :=
  ∀ s t : State, s.store.Whole → KindsSound s →
    (s.alive = true → QueueSound s ∧ LapsesSound s) → RecordsSound s → step s = .next t → RecordsSound t

/-- What holds of the visits with a check, a window or a lapse, every command keeps: R128 for the check queue and R160
for the lapse list, of a part that is neither in BACKUP nor held by RST, and R47 for the bay windows. -/
def Obligations.VisitRelationsAreKept : Prop :=
  ∀ s t : State, step s = .next t →
    ((s.alive = true → QueueSound s) → t.alive = true → QueueSound t) ∧
    (WindowsSound s → WindowsSound t) ∧
    ((s.alive = true → LapsesSound s) → t.alive = true → LapsesSound t)

/-- What every command keeps of the registers: the ranges and the symmetry of the class table (R63, R69, R71), the
driver table and its rule set (R105, R107), the clock (R93, R102), the flags (R17, R170, R171, R196), the service
table (R19), and the reserve, the release window, the LOG threshold and the release code counter (R10, R155, R156,
R170). -/
def Obligations.RegistersStaySound : Prop :=
  ∀ s t : State, step s = .next t →
    (s.classes.Symmetric → t.classes.Symmetric) ∧ (s.classes.Ranged → t.classes.Ranged) ∧
    (DriversSound s → DriversSound t) ∧ (ClockSound s.time → ClockSound t.time) ∧
    (FlagsFollow s → FlagsFollow t) ∧ (FlagsCarried s → FlagsCarried t) ∧
    (ServiceSound s → ServiceSound t) ∧ (SettingsSound s → SettingsSound t)

/-- The state after a cold start meets everything that the steps keep. -/
def Obligations.ResetIsSound : Prop :=
  State.reset.store.Whole ∧ KindsSound State.reset ∧ RecordsSound State.reset ∧ QueueSound State.reset ∧
    WindowsSound State.reset ∧ LapsesSound State.reset ∧ State.reset.classes.Symmetric ∧
    State.reset.classes.Ranged ∧ DriversSound State.reset ∧ ClockSound State.reset.time ∧ FlagsFollow State.reset ∧
    FlagsCarried State.reset ∧ ServiceSound State.reset ∧ SettingsSound State.reset
end

