-- ==== Sys2Proof/Laws/State.lean ====
section
/-! SUPPORT. The fields of a state after each update of it, one lemma per field per update, and the laws of the
tables. -/

namespace Sys2Proof.Machine

/-! ### Tables -/

@[simp] theorem tget_tset_self {α : Type} {n : Nat} (t : Vector α n) (i : Fin n) (x : α) :
    tget (tset t i x) i = x := by simp [tget, tset]

theorem tget_tset_ne {α : Type} {n : Nat} (t : Vector α n) {i j : Fin n} (x : α) (h : i ≠ j) :
    tget (tset t i x) j = tget t j := by
  have : i.val ≠ j.val := fun e => h (Fin.ext e)
  simp [tget, tset, this]

theorem tget_tset {α : Type} {n : Nat} (t : Vector α n) (i j : Fin n) (x : α) :
    tget (tset t i x) j = if i = j then x else tget t j := by
  by_cases h : i = j
  · subst h; simp
  · simp [h, tget_tset_ne]

@[simp] theorem tget_replicate {α : Type} {n : Nat} (x : α) (i : Fin n) :
    tget (Vector.replicate n x) i = x := by simp [tget]

@[simp] theorem tget_map {α β : Type} {n : Nat} (f : α → β) (t : Vector α n) (i : Fin n) :
    tget (t.map f) i = f (tget t i) := by simp [tget]

theorem tget_tableOf {α : Type} (n : Nat) (f : Nat → α) (i : Fin n) : tget (tableOf n f) i = f i.val := by
  simp [tget, tableOf]

@[simp] theorem requester_ix_inj {p q : Requester} : p.ix = q.ix ↔ p = q := by
  cases p <;> cases q <;> decide

/-! ### Links by number -/

@[simp] theorem Links.get_put_self (k : Links) (l : LinkNo) (x : Link) : (k.put l x).get l = x := by
  cases l <;> rfl

theorem Links.get_put_ne (k : Links) {l m : LinkNo} (x : Link) (h : l ≠ m) : (k.put l x).get m = k.get m := by
  cases l <;> cases m <;> first | rfl | exact absurd rfl h

@[simp] theorem Links.put_get (k : Links) (l : LinkNo) : k.put l (k.get l) = k := by cases l <;> rfl

@[simp] theorem Links.put_put (k : Links) (l : LinkNo) (x y : Link) : (k.put l x).put l y = k.put l y := by
  cases l <;> rfl

/-! ### Fields of updates -/

namespace State

section setVisit
variable (s : State) (v : VisitNo) (x : Visit)

@[simp] theorem setVisit_pending : (s.setVisit v x).pending = s.pending := rfl
@[simp] theorem setVisit_power : (s.setVisit v x).power = s.power := rfl
@[simp] theorem setVisit_rst : (s.setVisit v x).rst = s.rst := rfl
@[simp] theorem setVisit_rate : (s.setVisit v x).rate = s.rate := rfl
@[simp] theorem setVisit_links : (s.setVisit v x).links = s.links := rfl
@[simp] theorem setVisit_store : (s.setVisit v x).store = s.store := rfl
@[simp] theorem setVisit_reserve : (s.setVisit v x).reserve = s.reserve := rfl
@[simp] theorem setVisit_service : (s.setVisit v x).service = s.service := rfl
@[simp] theorem setVisit_index : (s.setVisit v x).index = s.index := rfl
@[simp] theorem setVisit_requests : (s.setVisit v x).requests = s.requests := rfl
@[simp] theorem setVisit_visits : (s.setVisit v x).visits = tset s.visits v x := rfl
@[simp] theorem setVisit_windows : (s.setVisit v x).windows = s.windows := rfl
@[simp] theorem setVisit_classes : (s.setVisit v x).classes = s.classes := rfl
@[simp] theorem setVisit_time : (s.setVisit v x).time = s.time := rfl
@[simp] theorem setVisit_drivers : (s.setVisit v x).drivers = s.drivers := rfl
@[simp] theorem setVisit_rules : (s.setVisit v x).rules = s.rules := rfl
@[simp] theorem setVisit_dcu : (s.setVisit v x).dcu = s.dcu := rfl
@[simp] theorem setVisit_logs : (s.setVisit v x).logs = s.logs := rfl
@[simp] theorem setVisit_sweep : (s.setVisit v x).sweep = s.sweep := rfl
@[simp] theorem setVisit_cc : (s.setVisit v x).cc = s.cc := rfl

end setVisit

section setWindow
variable (s : State) (b : BayIx) (w : Option Window)

@[simp] theorem setWindow_pending : (s.setWindow b w).pending = s.pending := rfl
@[simp] theorem setWindow_power : (s.setWindow b w).power = s.power := rfl
@[simp] theorem setWindow_rst : (s.setWindow b w).rst = s.rst := rfl
@[simp] theorem setWindow_rate : (s.setWindow b w).rate = s.rate := rfl
@[simp] theorem setWindow_links : (s.setWindow b w).links = s.links := rfl
@[simp] theorem setWindow_store : (s.setWindow b w).store = s.store := rfl
@[simp] theorem setWindow_reserve : (s.setWindow b w).reserve = s.reserve := rfl
@[simp] theorem setWindow_service : (s.setWindow b w).service = s.service := rfl
@[simp] theorem setWindow_index : (s.setWindow b w).index = s.index := rfl
@[simp] theorem setWindow_requests : (s.setWindow b w).requests = s.requests := rfl
@[simp] theorem setWindow_visits : (s.setWindow b w).visits = s.visits := rfl
@[simp] theorem setWindow_windows : (s.setWindow b w).windows = tset s.windows b w := rfl
@[simp] theorem setWindow_classes : (s.setWindow b w).classes = s.classes := rfl
@[simp] theorem setWindow_time : (s.setWindow b w).time = s.time := rfl
@[simp] theorem setWindow_drivers : (s.setWindow b w).drivers = s.drivers := rfl
@[simp] theorem setWindow_rules : (s.setWindow b w).rules = s.rules := rfl
@[simp] theorem setWindow_dcu : (s.setWindow b w).dcu = s.dcu := rfl
@[simp] theorem setWindow_logs : (s.setWindow b w).logs = s.logs := rfl
@[simp] theorem setWindow_sweep : (s.setWindow b w).sweep = s.sweep := rfl
@[simp] theorem setWindow_cc : (s.setWindow b w).cc = s.cc := rfl

end setWindow

section setDriver
variable (s : State) (e : EntryNo) (d : Option Driver)

@[simp] theorem setDriver_pending : (s.setDriver e d).pending = s.pending := rfl
@[simp] theorem setDriver_power : (s.setDriver e d).power = s.power := rfl
@[simp] theorem setDriver_rst : (s.setDriver e d).rst = s.rst := rfl
@[simp] theorem setDriver_rate : (s.setDriver e d).rate = s.rate := rfl
@[simp] theorem setDriver_links : (s.setDriver e d).links = s.links := rfl
@[simp] theorem setDriver_store : (s.setDriver e d).store = s.store := rfl
@[simp] theorem setDriver_reserve : (s.setDriver e d).reserve = s.reserve := rfl
@[simp] theorem setDriver_service : (s.setDriver e d).service = s.service := rfl
@[simp] theorem setDriver_index : (s.setDriver e d).index = s.index := rfl
@[simp] theorem setDriver_requests : (s.setDriver e d).requests = s.requests := rfl
@[simp] theorem setDriver_visits : (s.setDriver e d).visits = s.visits := rfl
@[simp] theorem setDriver_windows : (s.setDriver e d).windows = s.windows := rfl
@[simp] theorem setDriver_classes : (s.setDriver e d).classes = s.classes := rfl
@[simp] theorem setDriver_time : (s.setDriver e d).time = s.time := rfl
@[simp] theorem setDriver_drivers : (s.setDriver e d).drivers = tset s.drivers e d := rfl
@[simp] theorem setDriver_rules : (s.setDriver e d).rules = s.rules := rfl
@[simp] theorem setDriver_dcu : (s.setDriver e d).dcu = s.dcu := rfl
@[simp] theorem setDriver_logs : (s.setDriver e d).logs = s.logs := rfl
@[simp] theorem setDriver_sweep : (s.setDriver e d).sweep = s.sweep := rfl
@[simp] theorem setDriver_cc : (s.setDriver e d).cc = s.cc := rfl

end setDriver

section setRequest
variable (s : State) (p : Requester) (r : Option Request)

@[simp] theorem setRequest_pending : (s.setRequest p r).pending = s.pending := rfl
@[simp] theorem setRequest_power : (s.setRequest p r).power = s.power := rfl
@[simp] theorem setRequest_rst : (s.setRequest p r).rst = s.rst := rfl
@[simp] theorem setRequest_rate : (s.setRequest p r).rate = s.rate := rfl
@[simp] theorem setRequest_links : (s.setRequest p r).links = s.links := rfl
@[simp] theorem setRequest_store : (s.setRequest p r).store = s.store := rfl
@[simp] theorem setRequest_reserve : (s.setRequest p r).reserve = s.reserve := rfl
@[simp] theorem setRequest_service : (s.setRequest p r).service = s.service := rfl
@[simp] theorem setRequest_index : (s.setRequest p r).index = s.index := rfl
@[simp] theorem setRequest_requests : (s.setRequest p r).requests = tset s.requests p.ix r := rfl
@[simp] theorem setRequest_visits : (s.setRequest p r).visits = s.visits := rfl
@[simp] theorem setRequest_windows : (s.setRequest p r).windows = s.windows := rfl
@[simp] theorem setRequest_classes : (s.setRequest p r).classes = s.classes := rfl
@[simp] theorem setRequest_time : (s.setRequest p r).time = s.time := rfl
@[simp] theorem setRequest_drivers : (s.setRequest p r).drivers = s.drivers := rfl
@[simp] theorem setRequest_rules : (s.setRequest p r).rules = s.rules := rfl
@[simp] theorem setRequest_dcu : (s.setRequest p r).dcu = s.dcu := rfl
@[simp] theorem setRequest_logs : (s.setRequest p r).logs = s.logs := rfl
@[simp] theorem setRequest_sweep : (s.setRequest p r).sweep = s.sweep := rfl
@[simp] theorem setRequest_cc : (s.setRequest p r).cc = s.cc := rfl

end setRequest

section present
variable (s : State) (p : Requester) (r : Request)

@[simp] theorem present_pending : (s.present p r).pending = s.pending := rfl
@[simp] theorem present_power : (s.present p r).power = s.power := rfl
@[simp] theorem present_rst : (s.present p r).rst = s.rst := rfl
@[simp] theorem present_rate : (s.present p r).rate = s.rate := rfl
@[simp] theorem present_links : (s.present p r).links = s.links := rfl
@[simp] theorem present_store : (s.present p r).store = s.store := rfl
@[simp] theorem present_reserve : (s.present p r).reserve = s.reserve := rfl
@[simp] theorem present_service : (s.present p r).service = s.service := rfl
@[simp] theorem present_index : (s.present p r).index = s.index := rfl
@[simp] theorem present_requests : (s.present p r).requests = tset s.requests p.ix (some r) := rfl
@[simp] theorem present_visits : (s.present p r).visits = s.visits := rfl
@[simp] theorem present_windows : (s.present p r).windows = s.windows := rfl
@[simp] theorem present_classes : (s.present p r).classes = s.classes := rfl
@[simp] theorem present_time : (s.present p r).time = s.time := rfl
@[simp] theorem present_drivers : (s.present p r).drivers = s.drivers := rfl
@[simp] theorem present_rules : (s.present p r).rules = s.rules := rfl
@[simp] theorem present_dcu : (s.present p r).dcu = s.dcu := rfl
@[simp] theorem present_logs : (s.present p r).logs = s.logs := rfl
@[simp] theorem present_sweep : (s.present p r).sweep = s.sweep := rfl
@[simp] theorem present_cc : (s.present p r).cc = s.cc := rfl

end present

section setStore
variable (s : State) (x : Store)

@[simp] theorem setStore_pending : (s.setStore x).pending = s.pending := rfl
@[simp] theorem setStore_power : (s.setStore x).power = s.power := rfl
@[simp] theorem setStore_rst : (s.setStore x).rst = s.rst := rfl
@[simp] theorem setStore_rate : (s.setStore x).rate = s.rate := rfl
@[simp] theorem setStore_links : (s.setStore x).links = s.links := rfl
@[simp] theorem setStore_store : (s.setStore x).store = x := rfl
@[simp] theorem setStore_reserve : (s.setStore x).reserve = s.reserve := rfl
@[simp] theorem setStore_service : (s.setStore x).service = s.service := rfl
@[simp] theorem setStore_index : (s.setStore x).index = s.index := rfl
@[simp] theorem setStore_requests : (s.setStore x).requests = s.requests := rfl
@[simp] theorem setStore_visits : (s.setStore x).visits = s.visits := rfl
@[simp] theorem setStore_windows : (s.setStore x).windows = s.windows := rfl
@[simp] theorem setStore_classes : (s.setStore x).classes = s.classes := rfl
@[simp] theorem setStore_time : (s.setStore x).time = s.time := rfl
@[simp] theorem setStore_drivers : (s.setStore x).drivers = s.drivers := rfl
@[simp] theorem setStore_rules : (s.setStore x).rules = s.rules := rfl
@[simp] theorem setStore_dcu : (s.setStore x).dcu = s.dcu := rfl
@[simp] theorem setStore_logs : (s.setStore x).logs = s.logs := rfl
@[simp] theorem setStore_sweep : (s.setStore x).sweep = s.sweep := rfl
@[simp] theorem setStore_cc : (s.setStore x).cc = s.cc := rfl

end setStore

section setLogs
variable (s : State) (x : LogUnit)

@[simp] theorem setLogs_pending : (s.setLogs x).pending = s.pending := rfl
@[simp] theorem setLogs_power : (s.setLogs x).power = s.power := rfl
@[simp] theorem setLogs_rst : (s.setLogs x).rst = s.rst := rfl
@[simp] theorem setLogs_rate : (s.setLogs x).rate = s.rate := rfl
@[simp] theorem setLogs_links : (s.setLogs x).links = s.links := rfl
@[simp] theorem setLogs_store : (s.setLogs x).store = s.store := rfl
@[simp] theorem setLogs_reserve : (s.setLogs x).reserve = s.reserve := rfl
@[simp] theorem setLogs_service : (s.setLogs x).service = s.service := rfl
@[simp] theorem setLogs_index : (s.setLogs x).index = s.index := rfl
@[simp] theorem setLogs_requests : (s.setLogs x).requests = s.requests := rfl
@[simp] theorem setLogs_visits : (s.setLogs x).visits = s.visits := rfl
@[simp] theorem setLogs_windows : (s.setLogs x).windows = s.windows := rfl
@[simp] theorem setLogs_classes : (s.setLogs x).classes = s.classes := rfl
@[simp] theorem setLogs_time : (s.setLogs x).time = s.time := rfl
@[simp] theorem setLogs_drivers : (s.setLogs x).drivers = s.drivers := rfl
@[simp] theorem setLogs_rules : (s.setLogs x).rules = s.rules := rfl
@[simp] theorem setLogs_dcu : (s.setLogs x).dcu = s.dcu := rfl
@[simp] theorem setLogs_logs : (s.setLogs x).logs = x := rfl
@[simp] theorem setLogs_sweep : (s.setLogs x).sweep = s.sweep := rfl
@[simp] theorem setLogs_cc : (s.setLogs x).cc = s.cc := rfl

end setLogs

section setDcu
variable (s : State) (x : Dcu)

@[simp] theorem setDcu_pending : (s.setDcu x).pending = s.pending := rfl
@[simp] theorem setDcu_power : (s.setDcu x).power = s.power := rfl
@[simp] theorem setDcu_rst : (s.setDcu x).rst = s.rst := rfl
@[simp] theorem setDcu_rate : (s.setDcu x).rate = s.rate := rfl
@[simp] theorem setDcu_links : (s.setDcu x).links = s.links := rfl
@[simp] theorem setDcu_store : (s.setDcu x).store = s.store := rfl
@[simp] theorem setDcu_reserve : (s.setDcu x).reserve = s.reserve := rfl
@[simp] theorem setDcu_service : (s.setDcu x).service = s.service := rfl
@[simp] theorem setDcu_index : (s.setDcu x).index = s.index := rfl
@[simp] theorem setDcu_requests : (s.setDcu x).requests = s.requests := rfl
@[simp] theorem setDcu_visits : (s.setDcu x).visits = s.visits := rfl
@[simp] theorem setDcu_windows : (s.setDcu x).windows = s.windows := rfl
@[simp] theorem setDcu_classes : (s.setDcu x).classes = s.classes := rfl
@[simp] theorem setDcu_time : (s.setDcu x).time = s.time := rfl
@[simp] theorem setDcu_drivers : (s.setDcu x).drivers = s.drivers := rfl
@[simp] theorem setDcu_rules : (s.setDcu x).rules = s.rules := rfl
@[simp] theorem setDcu_dcu : (s.setDcu x).dcu = x := rfl
@[simp] theorem setDcu_logs : (s.setDcu x).logs = s.logs := rfl
@[simp] theorem setDcu_sweep : (s.setDcu x).sweep = s.sweep := rfl
@[simp] theorem setDcu_cc : (s.setDcu x).cc = s.cc := rfl

end setDcu

section setSweep
variable (s : State) (x : SweepUnit)

@[simp] theorem setSweep_pending : (s.setSweep x).pending = s.pending := rfl
@[simp] theorem setSweep_power : (s.setSweep x).power = s.power := rfl
@[simp] theorem setSweep_rst : (s.setSweep x).rst = s.rst := rfl
@[simp] theorem setSweep_rate : (s.setSweep x).rate = s.rate := rfl
@[simp] theorem setSweep_links : (s.setSweep x).links = s.links := rfl
@[simp] theorem setSweep_store : (s.setSweep x).store = s.store := rfl
@[simp] theorem setSweep_reserve : (s.setSweep x).reserve = s.reserve := rfl
@[simp] theorem setSweep_service : (s.setSweep x).service = s.service := rfl
@[simp] theorem setSweep_index : (s.setSweep x).index = s.index := rfl
@[simp] theorem setSweep_requests : (s.setSweep x).requests = s.requests := rfl
@[simp] theorem setSweep_visits : (s.setSweep x).visits = s.visits := rfl
@[simp] theorem setSweep_windows : (s.setSweep x).windows = s.windows := rfl
@[simp] theorem setSweep_classes : (s.setSweep x).classes = s.classes := rfl
@[simp] theorem setSweep_time : (s.setSweep x).time = s.time := rfl
@[simp] theorem setSweep_drivers : (s.setSweep x).drivers = s.drivers := rfl
@[simp] theorem setSweep_rules : (s.setSweep x).rules = s.rules := rfl
@[simp] theorem setSweep_dcu : (s.setSweep x).dcu = s.dcu := rfl
@[simp] theorem setSweep_logs : (s.setSweep x).logs = s.logs := rfl
@[simp] theorem setSweep_sweep : (s.setSweep x).sweep = x := rfl
@[simp] theorem setSweep_cc : (s.setSweep x).cc = s.cc := rfl

end setSweep

section setLinks
variable (s : State) (x : Links)

@[simp] theorem setLinks_pending : (s.setLinks x).pending = s.pending := rfl
@[simp] theorem setLinks_power : (s.setLinks x).power = s.power := rfl
@[simp] theorem setLinks_rst : (s.setLinks x).rst = s.rst := rfl
@[simp] theorem setLinks_rate : (s.setLinks x).rate = s.rate := rfl
@[simp] theorem setLinks_links : (s.setLinks x).links = x := rfl
@[simp] theorem setLinks_store : (s.setLinks x).store = s.store := rfl
@[simp] theorem setLinks_reserve : (s.setLinks x).reserve = s.reserve := rfl
@[simp] theorem setLinks_service : (s.setLinks x).service = s.service := rfl
@[simp] theorem setLinks_index : (s.setLinks x).index = s.index := rfl
@[simp] theorem setLinks_requests : (s.setLinks x).requests = s.requests := rfl
@[simp] theorem setLinks_visits : (s.setLinks x).visits = s.visits := rfl
@[simp] theorem setLinks_windows : (s.setLinks x).windows = s.windows := rfl
@[simp] theorem setLinks_classes : (s.setLinks x).classes = s.classes := rfl
@[simp] theorem setLinks_time : (s.setLinks x).time = s.time := rfl
@[simp] theorem setLinks_drivers : (s.setLinks x).drivers = s.drivers := rfl
@[simp] theorem setLinks_rules : (s.setLinks x).rules = s.rules := rfl
@[simp] theorem setLinks_dcu : (s.setLinks x).dcu = s.dcu := rfl
@[simp] theorem setLinks_logs : (s.setLinks x).logs = s.logs := rfl
@[simp] theorem setLinks_sweep : (s.setLinks x).sweep = s.sweep := rfl
@[simp] theorem setLinks_cc : (s.setLinks x).cc = s.cc := rfl

end setLinks

section setTime
variable (s : State) (x : TimeBase)

@[simp] theorem setTime_pending : (s.setTime x).pending = s.pending := rfl
@[simp] theorem setTime_power : (s.setTime x).power = s.power := rfl
@[simp] theorem setTime_rst : (s.setTime x).rst = s.rst := rfl
@[simp] theorem setTime_rate : (s.setTime x).rate = s.rate := rfl
@[simp] theorem setTime_links : (s.setTime x).links = s.links := rfl
@[simp] theorem setTime_store : (s.setTime x).store = s.store := rfl
@[simp] theorem setTime_reserve : (s.setTime x).reserve = s.reserve := rfl
@[simp] theorem setTime_service : (s.setTime x).service = s.service := rfl
@[simp] theorem setTime_index : (s.setTime x).index = s.index := rfl
@[simp] theorem setTime_requests : (s.setTime x).requests = s.requests := rfl
@[simp] theorem setTime_visits : (s.setTime x).visits = s.visits := rfl
@[simp] theorem setTime_windows : (s.setTime x).windows = s.windows := rfl
@[simp] theorem setTime_classes : (s.setTime x).classes = s.classes := rfl
@[simp] theorem setTime_time : (s.setTime x).time = x := rfl
@[simp] theorem setTime_drivers : (s.setTime x).drivers = s.drivers := rfl
@[simp] theorem setTime_rules : (s.setTime x).rules = s.rules := rfl
@[simp] theorem setTime_dcu : (s.setTime x).dcu = s.dcu := rfl
@[simp] theorem setTime_logs : (s.setTime x).logs = s.logs := rfl
@[simp] theorem setTime_sweep : (s.setTime x).sweep = s.sweep := rfl
@[simp] theorem setTime_cc : (s.setTime x).cc = s.cc := rfl

end setTime

section setClasses
variable (s : State) (x : ClassTable)

@[simp] theorem setClasses_pending : (s.setClasses x).pending = s.pending := rfl
@[simp] theorem setClasses_power : (s.setClasses x).power = s.power := rfl
@[simp] theorem setClasses_rst : (s.setClasses x).rst = s.rst := rfl
@[simp] theorem setClasses_rate : (s.setClasses x).rate = s.rate := rfl
@[simp] theorem setClasses_links : (s.setClasses x).links = s.links := rfl
@[simp] theorem setClasses_store : (s.setClasses x).store = s.store := rfl
@[simp] theorem setClasses_reserve : (s.setClasses x).reserve = s.reserve := rfl
@[simp] theorem setClasses_service : (s.setClasses x).service = s.service := rfl
@[simp] theorem setClasses_index : (s.setClasses x).index = s.index := rfl
@[simp] theorem setClasses_requests : (s.setClasses x).requests = s.requests := rfl
@[simp] theorem setClasses_visits : (s.setClasses x).visits = s.visits := rfl
@[simp] theorem setClasses_windows : (s.setClasses x).windows = s.windows := rfl
@[simp] theorem setClasses_classes : (s.setClasses x).classes = x := rfl
@[simp] theorem setClasses_time : (s.setClasses x).time = s.time := rfl
@[simp] theorem setClasses_drivers : (s.setClasses x).drivers = s.drivers := rfl
@[simp] theorem setClasses_rules : (s.setClasses x).rules = s.rules := rfl
@[simp] theorem setClasses_dcu : (s.setClasses x).dcu = s.dcu := rfl
@[simp] theorem setClasses_logs : (s.setClasses x).logs = s.logs := rfl
@[simp] theorem setClasses_sweep : (s.setClasses x).sweep = s.sweep := rfl
@[simp] theorem setClasses_cc : (s.setClasses x).cc = s.cc := rfl

end setClasses

section setCc
variable (s : State) (x : Control)

@[simp] theorem setCc_pending : (s.setCc x).pending = s.pending := rfl
@[simp] theorem setCc_power : (s.setCc x).power = s.power := rfl
@[simp] theorem setCc_rst : (s.setCc x).rst = s.rst := rfl
@[simp] theorem setCc_rate : (s.setCc x).rate = s.rate := rfl
@[simp] theorem setCc_links : (s.setCc x).links = s.links := rfl
@[simp] theorem setCc_store : (s.setCc x).store = s.store := rfl
@[simp] theorem setCc_reserve : (s.setCc x).reserve = s.reserve := rfl
@[simp] theorem setCc_service : (s.setCc x).service = s.service := rfl
@[simp] theorem setCc_index : (s.setCc x).index = s.index := rfl
@[simp] theorem setCc_requests : (s.setCc x).requests = s.requests := rfl
@[simp] theorem setCc_visits : (s.setCc x).visits = s.visits := rfl
@[simp] theorem setCc_windows : (s.setCc x).windows = s.windows := rfl
@[simp] theorem setCc_classes : (s.setCc x).classes = s.classes := rfl
@[simp] theorem setCc_time : (s.setCc x).time = s.time := rfl
@[simp] theorem setCc_drivers : (s.setCc x).drivers = s.drivers := rfl
@[simp] theorem setCc_rules : (s.setCc x).rules = s.rules := rfl
@[simp] theorem setCc_dcu : (s.setCc x).dcu = s.dcu := rfl
@[simp] theorem setCc_logs : (s.setCc x).logs = s.logs := rfl
@[simp] theorem setCc_sweep : (s.setCc x).sweep = s.sweep := rfl
@[simp] theorem setCc_cc : (s.setCc x).cc = x := rfl

end setCc

section setLink
variable (s : State) (l : LinkNo) (x : Link)

@[simp] theorem setLink_pending : (s.setLink l x).pending = s.pending := rfl
@[simp] theorem setLink_power : (s.setLink l x).power = s.power := rfl
@[simp] theorem setLink_rst : (s.setLink l x).rst = s.rst := rfl
@[simp] theorem setLink_rate : (s.setLink l x).rate = s.rate := rfl
@[simp] theorem setLink_links : (s.setLink l x).links = s.links.put l x := rfl
@[simp] theorem setLink_store : (s.setLink l x).store = s.store := rfl
@[simp] theorem setLink_reserve : (s.setLink l x).reserve = s.reserve := rfl
@[simp] theorem setLink_service : (s.setLink l x).service = s.service := rfl
@[simp] theorem setLink_index : (s.setLink l x).index = s.index := rfl
@[simp] theorem setLink_requests : (s.setLink l x).requests = s.requests := rfl
@[simp] theorem setLink_visits : (s.setLink l x).visits = s.visits := rfl
@[simp] theorem setLink_windows : (s.setLink l x).windows = s.windows := rfl
@[simp] theorem setLink_classes : (s.setLink l x).classes = s.classes := rfl
@[simp] theorem setLink_time : (s.setLink l x).time = s.time := rfl
@[simp] theorem setLink_drivers : (s.setLink l x).drivers = s.drivers := rfl
@[simp] theorem setLink_rules : (s.setLink l x).rules = s.rules := rfl
@[simp] theorem setLink_dcu : (s.setLink l x).dcu = s.dcu := rfl
@[simp] theorem setLink_logs : (s.setLink l x).logs = s.logs := rfl
@[simp] theorem setLink_sweep : (s.setLink l x).sweep = s.sweep := rfl
@[simp] theorem setLink_cc : (s.setLink l x).cc = s.cc := rfl

end setLink

section setCheck
variable (s : State) (c : Option Check)

@[simp] theorem setCheck_pending : (s.setCheck c).pending = s.pending := rfl
@[simp] theorem setCheck_power : (s.setCheck c).power = s.power := rfl
@[simp] theorem setCheck_rst : (s.setCheck c).rst = s.rst := rfl
@[simp] theorem setCheck_rate : (s.setCheck c).rate = s.rate := rfl
@[simp] theorem setCheck_links : (s.setCheck c).links = s.links := rfl
@[simp] theorem setCheck_store : (s.setCheck c).store = s.store := rfl
@[simp] theorem setCheck_reserve : (s.setCheck c).reserve = s.reserve := rfl
@[simp] theorem setCheck_service : (s.setCheck c).service = s.service := rfl
@[simp] theorem setCheck_index : (s.setCheck c).index = s.index := rfl
@[simp] theorem setCheck_requests : (s.setCheck c).requests = s.requests := rfl
@[simp] theorem setCheck_visits : (s.setCheck c).visits = s.visits := rfl
@[simp] theorem setCheck_windows : (s.setCheck c).windows = s.windows := rfl
@[simp] theorem setCheck_classes : (s.setCheck c).classes = s.classes := rfl
@[simp] theorem setCheck_time : (s.setCheck c).time = s.time := rfl
@[simp] theorem setCheck_drivers : (s.setCheck c).drivers = s.drivers := rfl
@[simp] theorem setCheck_rules : (s.setCheck c).rules = s.rules := rfl
@[simp] theorem setCheck_dcu : (s.setCheck c).dcu = { s.dcu with check := c } := rfl
@[simp] theorem setCheck_logs : (s.setCheck c).logs = s.logs := rfl
@[simp] theorem setCheck_sweep : (s.setCheck c).sweep = s.sweep := rfl
@[simp] theorem setCheck_cc : (s.setCheck c).cc = s.cc := rfl

end setCheck

/-! ### Reads after updates -/

@[simp] theorem visit_setVisit_self (s : State) (v : VisitNo) (x : Visit) : (s.setVisit v x).visit v = x := by
  simp [visit]

theorem visit_setVisit_ne (s : State) {v w : VisitNo} (x : Visit) (h : v ≠ w) :
    (s.setVisit v x).visit w = s.visit w := by simp [visit, tget_tset_ne _ _ h]

theorem visit_setVisit (s : State) (v w : VisitNo) (x : Visit) :
    (s.setVisit v x).visit w = if v = w then x else s.visit w := by simp [visit, tget_tset]

@[simp] theorem request_setRequest_self (s : State) (p : Requester) (r : Option Request) :
    (s.setRequest p r).request p = r := by simp [request]

theorem request_setRequest (s : State) (p q : Requester) (r : Option Request) :
    (s.setRequest p r).request q = if p = q then r else s.request q := by simp [request, tget_tset]

@[simp] theorem request_present_self (s : State) (p : Requester) (r : Request) :
    (s.present p r).request p = some r := by simp [request]

theorem request_present (s : State) (p q : Requester) (r : Request) :
    (s.present p r).request q = if p = q then some r else s.request q := by simp [request, tget_tset]

@[simp] theorem window_setWindow_self (s : State) (b : BayIx) (w : Option Window) :
    (s.setWindow b w).window b = w := by simp [window]

theorem window_setWindow (s : State) (b c : BayIx) (w : Option Window) :
    (s.setWindow b w).window c = if b = c then w else s.window c := by simp [window, tget_tset]

@[simp] theorem driver_setDriver_self (s : State) (e : EntryNo) (d : Option Driver) :
    (s.setDriver e d).driver e = d := by simp [driver]

theorem driver_setDriver (s : State) (e f : EntryNo) (d : Option Driver) :
    (s.setDriver e d).driver f = if e = f then d else s.driver f := by simp [driver, tget_tset]

@[simp] theorem link_setLink_self (s : State) (l : LinkNo) (x : Link) : (s.setLink l x).link l = x := by
  simp [link]

theorem link_setLink_ne (s : State) {l m : LinkNo} (x : Link) (h : l ≠ m) :
    (s.setLink l x).link m = s.link m := by simp [link, Links.get_put_ne _ _ h]

theorem visit_congr {s t : State} (h : s.visits = t.visits) (v : VisitNo) : s.visit v = t.visit v := by
  simp [visit, h]

theorem link_congr {s t : State} (h : s.links = t.links) (l : LinkNo) : s.link l = t.link l := by
  simp [link, h]

theorem request_congr {s t : State} (h : s.requests = t.requests) (p : Requester) :
    s.request p = t.request p := by simp [request, h]

end State

end Sys2Proof.Machine
end

