-- ==== Sys2Proof/Laws/Abort.lean ====
section
/-! SUPPORT. What `State.startAbort` can do, said once: it is taken at the acceptance of an abort, at the end of a paper
item that an abort cut short, and at the end of an abandoned check (R38, R39, R89). -/

namespace Sys2Proof.Machine.State

/-- The requests that an abort has still to present are those of its course after the ones answered (R40, R41). -/
theorem abortRequest_eq_course (v : VisitNo) (x : Visit) (c : AbortCourse) :
    abortRequest v x c = (abortCourse v x c.fromClearance)[c.answered]? := by
  obtain ⟨b, n⟩ := c
  cases b <;> rcases n with _ | _ | _ | _ | _ | n <;> rfl

/-- An abort whose grants are still to come presents the first of its course. -/
theorem presentAbort_first (s : State) (v : VisitNo) (l : LinkNo) (cleared : Bool)
    (h : (s.visit v).abort = some ⟨cleared, 0⟩) :
    (s.presentAbort v l).request (linkRequester l) = (abortCourse v (s.visit v) cleared).head? ∧
      ∀ q, q ≠ linkRequester l → (s.presentAbort v l).request q = s.request q := by
  unfold presentAbort
  cases cleared <;> simp only [h, abortRequest, abortCourse, if_true, if_false, Bool.false_eq_true] <;>
    exact ⟨request_present_self _ _ _, fun q hq => by rw [request_present, if_neg (Ne.symm hq)]⟩

/-- Presenting changes the waiting requests alone. -/
theorem presentAbort_rest (s : State) (v : VisitNo) (l : LinkNo) :
    s.presentAbort v l = { s with requests := (s.presentAbort v l).requests } := by
  unfold presentAbort
  split
  · rfl
  · split <;> rfl

/-- `startAbort` does what `AbortBegins` says. -/
theorem startAbort_begins (s : State) (v : VisitNo) : AbortBegins s (s.startAbort v) v := by
  unfold startAbort
  constructor
  · split
    · rfl
    · split
      · exact presentAbort_rest s v .office
      · split
        · exact presentAbort_rest s v .gate
        · rfl
  · intro h
    simp [h]
  · intro ho hg
    simp [ho, hg]
  · rintro hp hc l hl ha cleared hx
    rcases hl with rfl | ⟨rfl, ho⟩
    · simpa [hp, hc, ha] using presentAbort_first s v .office cleared hx
    · simpa [hp, hc, ha, ho] using presentAbort_first s v .gate cleared hx

end Sys2Proof.Machine.State
end

