-- ==== Sys2Proof/Laws/Items.lean ====
section
/-! SUPPORT. What taking, answering and continuing an item do, each said once: these operations change the
executing buffer of one link and, where they present a request, one request. -/

namespace Sys2Proof.Machine

/-! ### The executing buffer -/

namespace Link

theorem executing_putExecuting {k : Link} {e : Execution} (h : k.executing = some e) (e' : Execution) :
    (k.putExecuting (.executing e')).executing = some e' := by
  cases k with
  | mk rx a b f m =>
    cases a <;> cases b <;> simp_all [executing, putExecuting]

theorem putExecuting_putExecuting {k : Link} {e : Execution} (h : k.executing = some e) (e' : Execution)
    (b : Buffer) : (k.putExecuting (.executing e')).putExecuting b = k.putExecuting b := by
  cases k with
  | mk rx a b f m =>
    cases a <;> cases b <;> simp_all [executing, putExecuting]

@[simp] theorem putExecuting_flags (k : Link) (b : Buffer) : (k.putExecuting b).flags = k.flags := by
  unfold putExecuting; split <;> rfl

@[simp] theorem putExecuting_mask (k : Link) (b : Buffer) : (k.putExecuting b).mask = k.mask := by
  unfold putExecuting; split <;> rfl

@[simp] theorem putExecuting_rx (k : Link) (b : Buffer) : (k.putExecuting b).rx = k.rx := by
  unfold putExecuting; split <;> rfl

end Link

/-- Whether an item is in flight does not bear on how the telegram goes on after it. -/
theorem onward_cur (l : LinkNo) (e : Execution) (c : Option CurItem) :
    Execution.onward l { e with cur := c } = Execution.onward l e := by
  simp [Execution.onward]

namespace State

/-! ### Operations that change links alone -/

theorem putExecuting_eq (s : State) (l : LinkNo) (b : Buffer) :
    s.putExecuting l b = s.setLinks (s.putExecuting l b).links := rfl

theorem answer_eq (s : State) (l : LinkNo) (c : Code) (d : List Byte) :
    s.answer l c d = s.setLinks (s.answer l c d).links := by
  unfold answer; split <;> (try split) <;> rfl

theorem setJob_eq (s : State) (l : LinkNo) (j : Job) : s.setJob l j = s.setLinks (s.setJob l j).links := by
  unfold setJob; split <;> (try split) <;> rfl

theorem raise_eq (s : State) (l : LinkNo) (f : Flag) : s.raise l f = s.setLinks (s.raise l f).links := rfl

theorem follow_eq (s : State) : s.follow = s.setLinks s.follow.links := rfl

theorem begin_eq (s : State) (h : Head) (i : Instr) : s.begin h i = s.setLinks (s.begin h i).links := by
  unfold State.begin; split <;> rfl

theorem ask_eq (s : State) (l : LinkNo) (j : Job) (r : Request) :
    s.ask l j r = (s.setLinks (s.setJob l j).links).present (linkRequester l) r := by
  unfold ask; rw [← setJob_eq]

/-- An item command anywhere but at the front of its link changes nothing. -/
theorem takeItem_other {s : State} {h : Head} {i : Instr} (f : State → State)
    (hn : s.nextItem h.link ≠ some i) : s.takeItem h i f = s := by simp [takeItem, hn]

/-- An item command that is refused at the SL (R191). -/
theorem takeItem_refused {s : State} {h : Head} {i : Instr} {c : Code} (f : State → State)
    (hn : s.nextItem h.link = some i) (hr : s.slRefusal h.link i = some c) :
    s.takeItem h i f = (s.begin h i).refuse h.link c := by simp [takeItem, hn, hr]

/-- An item command that is handed to its block (R191, order 6). -/
theorem takeItem_taken {s : State} {h : Head} {i : Instr} (f : State → State) (ht : Taken s h i) :
    s.takeItem h i f = f (s.begin h i) := by simp [takeItem, ht.1, ht.2]

/-- What an item at the front of its link finds: a telegram executing with no item in flight (R190). -/
theorem nextItem_executing {s : State} {l : LinkNo} {i : Instr} (hn : s.nextItem l = some i) :
    s.alive = true ∧ ∃ e, s.executing l = some e ∧ e.cur = none ∧ e.left ≠ [] := by
  unfold nextItem at hn
  split at hn
  · rename_i ha
    refine ⟨ha, ?_⟩
    split at hn
    · rename_i e he
      refine ⟨e, he, ?_⟩
      cases hc : e.cur <;> cases hl : e.left <;> simp_all
    · cases hn
  · cases hn

/-- The telegram executing after the next item is taken. -/
theorem executing_begin {s : State} {h : Head} {i : Instr} {e : Execution}
    (he : s.executing h.link = some e) :
    (s.begin h i).executing h.link =
      some { e with left := e.left.tail, cur := some ⟨i.kind, h.tag, .taken⟩ } := by
  have he' : (s.link h.link).executing = some e := he
  unfold State.begin
  rw [he]
  show ((s.setLink h.link _).link h.link).executing = _
  rw [link_setLink_self]
  exact Link.executing_putExecuting he' _

/-- Replacing the executing buffer of a link touches that link's buffers alone. -/
theorem becomes_putExecuting (s : State) (l : LinkNo) (b : Buffer) : Becomes s (s.putExecuting l b) l b := by
  refine ⟨?_, fun m hm => ?_⟩
  · have h : (s.putExecuting l b).link l = (s.link l).putExecuting b := by simp [putExecuting]
    rw [h]
  · unfold SameLine putExecuting
    rw [link_setLink_ne _ _ (Ne.symm hm)]

theorem flagsKept_putExecuting (s : State) (l : LinkNo) (b : Buffer) : FlagsKept s (s.putExecuting l b) := by
  intro m
  by_cases hm : l = m
  · subst hm; simp [putExecuting]
  · simp [putExecuting, link_setLink_ne _ _ hm]

/-- Putting the executing buffer twice is putting it once. -/
theorem putExecuting_putExecuting {s : State} {l : LinkNo} {e : Execution} (he : s.executing l = some e)
    (e' : Execution) (b : Buffer) :
    (s.putExecuting l (.executing e')).putExecuting l b = s.putExecuting l b := by
  have he' : (s.link l).executing = some e := he
  simp only [putExecuting, link_setLink_self, Link.putExecuting_putExecuting he']
  simp [setLink, setLinks, Links.put_put]

/-- An item just taken is answered: its reply item joins the reply, and the telegram goes on (R192). -/
theorem answered_begin {r : State} {h : Head} {i : Instr} {e : Execution} (he : r.executing h.link = some e)
    (c : Code) (d : List Byte) : Answered r ((r.begin h i).answer h.link c d) h i c d := by
  have hb : (r.begin h i).answer h.link c d = r.putExecuting h.link (Execution.onward h.link
      { e with left := e.left.tail, cur := none, reply := e.reply ++ replyItem i.kind h.tag c d }) := by
    unfold answer
    rw [executing_begin he]
    simp only [State.begin, he, putExecuting_putExecuting he]
    rfl
  rw [hb]
  exact ⟨rfl, ⟨e, he, becomes_putExecuting _ _ _⟩, flagsKept_putExecuting _ _ _⟩

/-- The item in flight is answered (R192). -/
theorem finished_answer {r : State} {l : LinkNo} {e : Execution} {k : CurItem} (he : r.executing l = some e)
    (hk : e.cur = some k) (c : Code) (d : List Byte) : Finished r (r.answer l c d) l c d := by
  have hb : r.answer l c d = r.putExecuting l (Execution.onward l
      { e with reply := e.reply ++ replyItem k.kind k.tag c d }) := by
    simp [answer, he, hk]
  rw [hb]
  exact ⟨rfl, ⟨e, k, he, hk, becomes_putExecuting _ _ _⟩, flagsKept_putExecuting _ _ _⟩

/-- An item just taken presents its first request (R190). -/
theorem waits_begin {r : State} {h : Head} {i : Instr} {e : Execution} (he : r.executing h.link = some e)
    (j : Job) (q : Request) : Waits r ((r.begin h i).ask h.link j q) h i j q := by
  have hb : (r.begin h i).ask h.link j q =
      (r.putExecuting h.link (.executing { e with left := e.left.tail, cur := some ⟨i.kind, h.tag, j⟩ })).present
        (linkRequester h.link) q := by
    unfold ask setJob
    rw [executing_begin he]
    simp only [State.begin, he, putExecuting_putExecuting he]
  rw [hb]
  refine ⟨rfl, ⟨⟨e, he, ?_⟩, ?_, ?_⟩, ?_⟩
  · have b := becomes_putExecuting r h.link
      (.executing { e with left := e.left.tail, cur := some ⟨i.kind, h.tag, j⟩ })
    exact ⟨b.here, b.elsewhere⟩
  · simp [present, setRequest, request]
  · intro p hp
    simp [present, setRequest, request]
    exact tget_tset_ne _ _ (fun he => hp (by simpa using he.symm))
  · exact flagsKept_putExecuting r h.link _

/-- The item in flight presents its next request (R190). -/
theorem continues_ask {r : State} {l : LinkNo} {e : Execution} {k : CurItem} (he : r.executing l = some e)
    (hk : e.cur = some k) (j : Job) (q : Request) : Continues r (r.ask l j q) l j q := by
  have hb : r.ask l j q =
      (r.putExecuting l (.executing { e with cur := some { k with job := j } })).present (linkRequester l) q := by
    simp [ask, setJob, he, hk]
  rw [hb]
  refine ⟨rfl, ⟨⟨e, k, he, hk, ?_⟩, ?_, ?_⟩, ?_⟩
  · have b := becomes_putExecuting r l (.executing { e with cur := some { k with job := j } })
    exact ⟨b.here, b.elsewhere⟩
  · simp [present, setRequest, request]
  · intro p hp
    simp [present, setRequest, request]
    exact tget_tset_ne _ _ (fun he => hp (by simpa using he.symm))
  · exact flagsKept_putExecuting r l _

/-- Taking an item commutes with an update that reads and changes no link. -/
theorem begin_update {f : State → State} {s : State} {h : Head} {i : Instr}
    (hf : ∀ k, f (s.setLinks k) = (f s).setLinks k) (hl : (f s).links = s.links) :
    f (s.begin h i) = (f s).begin h i := by
  have hx : ∀ l, (f s).executing l = s.executing l := fun l => by simp [executing, link, hl]
  unfold State.begin
  rw [hx]
  split
  · rename_i e he
    rw [putExecuting_eq, hf, putExecuting_eq (f s)]
    congr 1
    simp [putExecuting, setLink, link, hl]
  · rfl

end State

end Sys2Proof.Machine
end

