-- ==== Sys2Proof/Laws/PerInstr.lean ====
section
/-! SUPPORT. One family of laws over every command: the items are those commands that carry a link and an item
tag, and their kind numbers are 1 to 38 (R194). -/

namespace Sys2Proof.Laws

/-- A command has a head exactly when it is an item, and its kind number lies in the table of R194. -/
def KindOfItem.Statement (i : Instr) : Prop := (i.head?.isSome = true ↔ 1 ≤ i.kind) ∧ i.kind ≤ 38

theorem KindOfItem.setTime (h : Head) (minute : Nat) (seconds : Nat) :
    KindOfItem.Statement (.setTime h minute seconds) :=
  ⟨iff_of_true rfl (Nat.le_of_ble_eq_true rfl), Nat.le_of_ble_eq_true rfl⟩

theorem KindOfItem.adjustTime (h : Head) (offset : Int) :
    KindOfItem.Statement (.adjustTime h offset) :=
  ⟨iff_of_true rfl (Nat.le_of_ble_eq_true rfl), Nat.le_of_ble_eq_true rfl⟩

theorem KindOfItem.rulesLoad (h : Head) (rules : RuleSet) :
    KindOfItem.Statement (.rulesLoad h rules) :=
  ⟨iff_of_true rfl (Nat.le_of_ble_eq_true rfl), Nat.le_of_ble_eq_true rfl⟩

theorem KindOfItem.bandLoad (h : Head) (band : Nat) (upper : Nat) (group : Nat) (permille : Nat) (litres : Nat) (paperRequired : Bool) :
    KindOfItem.Statement (.bandLoad h band upper group permille litres paperRequired) :=
  ⟨iff_of_true rfl (Nat.le_of_ble_eq_true rfl), Nat.le_of_ble_eq_true rfl⟩

theorem KindOfItem.segLoad (h : Head) (a : Nat) (b : Nat) (setting : Nat) :
    KindOfItem.Statement (.segLoad h a b setting) :=
  ⟨iff_of_true rfl (Nat.le_of_ble_eq_true rfl), Nat.le_of_ble_eq_true rfl⟩

theorem KindOfItem.chunkSize (h : Head) (size : Nat) :
    KindOfItem.Statement (.chunkSize h size) :=
  ⟨iff_of_true rfl (Nat.le_of_ble_eq_true rfl), Nat.le_of_ble_eq_true rfl⟩

theorem KindOfItem.serviceLoad (h : Head) (entries : List Nat) :
    KindOfItem.Statement (.serviceLoad h entries) :=
  ⟨iff_of_true rfl (Nat.le_of_ble_eq_true rfl), Nat.le_of_ble_eq_true rfl⟩

theorem KindOfItem.settings (h : Head) (reserve : Option Nat) (window : Option Nat) (threshold : Option Nat) :
    KindOfItem.Statement (.settings h reserve window threshold) :=
  ⟨iff_of_true rfl (Nat.le_of_ble_eq_true rfl), Nat.le_of_ble_eq_true rfl⟩

theorem KindOfItem.identWrite (h : Head) (identity : Option Nat) (label : Option (List Byte)) :
    KindOfItem.Statement (.identWrite h identity label) :=
  ⟨iff_of_true rfl (Nat.le_of_ble_eq_true rfl), Nat.le_of_ble_eq_true rfl⟩

theorem KindOfItem.start (h : Head) :
    KindOfItem.Statement (.start h) :=
  ⟨iff_of_true rfl (Nat.le_of_ble_eq_true rfl), Nat.le_of_ble_eq_true rfl⟩

theorem KindOfItem.lock (h : Head) :
    KindOfItem.Statement (.lock h) :=
  ⟨iff_of_true rfl (Nat.le_of_ble_eq_true rfl), Nat.le_of_ble_eq_true rfl⟩

theorem KindOfItem.keep (h : Head) :
    KindOfItem.Statement (.keep h) :=
  ⟨iff_of_true rfl (Nat.le_of_ble_eq_true rfl), Nat.le_of_ble_eq_true rfl⟩

theorem KindOfItem.restart (h : Head) :
    KindOfItem.Statement (.restart h) :=
  ⟨iff_of_true rfl (Nat.le_of_ble_eq_true rfl), Nat.le_of_ble_eq_true rfl⟩

theorem KindOfItem.paperOpen (h : Head) (visit : Nat) (vtag : Nat) (number : Nat) (p : Nat) (q : Option Nat) (expected : Option Nat) (replace : Bool) :
    KindOfItem.Statement (.paperOpen h visit vtag number p q expected replace) :=
  ⟨iff_of_true rfl (Nat.le_of_ble_eq_true rfl), Nat.le_of_ble_eq_true rfl⟩

theorem KindOfItem.paperLines (h : Head) (visit : Nat) (vtag : Nat) (lines : List PaperLine) :
    KindOfItem.Statement (.paperLines h visit vtag lines) :=
  ⟨iff_of_true rfl (Nat.le_of_ble_eq_true rfl), Nat.le_of_ble_eq_true rfl⟩

theorem KindOfItem.visitAbort (h : Head) (visit : Nat) (vtag : Nat) :
    KindOfItem.Statement (.visitAbort h visit vtag) :=
  ⟨iff_of_true rfl (Nat.le_of_ble_eq_true rfl), Nat.le_of_ble_eq_true rfl⟩

theorem KindOfItem.logTake (h : Head) (count : Nat) :
    KindOfItem.Statement (.logTake h count) :=
  ⟨iff_of_true rfl (Nat.le_of_ble_eq_true rfl), Nat.le_of_ble_eq_true rfl⟩

theorem KindOfItem.excTake (h : Head) (count : Nat) :
    KindOfItem.Statement (.excTake h count) :=
  ⟨iff_of_true rfl (Nat.le_of_ble_eq_true rfl), Nat.le_of_ble_eq_true rfl⟩

theorem KindOfItem.bayAssign (h : Head) (visit : Nat) (vtag : Nat) (bay : Nat) :
    KindOfItem.Statement (.bayAssign h visit vtag bay) :=
  ⟨iff_of_true rfl (Nat.le_of_ble_eq_true rfl), Nat.le_of_ble_eq_true rfl⟩

theorem KindOfItem.bayRelease (h : Head) (bay : Nat) :
    KindOfItem.Statement (.bayRelease h bay) :=
  ⟨iff_of_true rfl (Nat.le_of_ble_eq_true rfl), Nat.le_of_ble_eq_true rfl⟩

theorem KindOfItem.fill (h : Head) (bay : Nat) (comp : Nat) (product : Nat) (figure : Nat) :
    KindOfItem.Statement (.fill h bay comp product figure) :=
  ⟨iff_of_true rfl (Nat.le_of_ble_eq_true rfl), Nat.le_of_ble_eq_true rfl⟩

theorem KindOfItem.loadEnd (h : Head) (bay : Nat) :
    KindOfItem.Statement (.loadEnd h bay) :=
  ⟨iff_of_true rfl (Nat.le_of_ble_eq_true rfl), Nat.le_of_ble_eq_true rfl⟩

theorem KindOfItem.arrive (h : Head) (tanker : Nat) (driver : Nat) (figures : Figures) (co : Option CoDriver) (capacities : List (Option Nat)) :
    KindOfItem.Statement (.arrive h tanker driver figures co capacities) :=
  ⟨iff_of_true rfl (Nat.le_of_ble_eq_true rfl), Nat.le_of_ble_eq_true rfl⟩

theorem KindOfItem.breakStart (h : Head) (card : Nat) :
    KindOfItem.Statement (.breakStart h card) :=
  ⟨iff_of_true rfl (Nat.le_of_ble_eq_true rfl), Nat.le_of_ble_eq_true rfl⟩

theorem KindOfItem.breakEnd (h : Head) (card : Nat) :
    KindOfItem.Statement (.breakEnd h card) :=
  ⟨iff_of_true rfl (Nat.le_of_ble_eq_true rfl), Nat.le_of_ble_eq_true rfl⟩

theorem KindOfItem.dispatch (h : Head) (visit : Nat) (vtag : Nat) :
    KindOfItem.Statement (.dispatch h visit vtag) :=
  ⟨iff_of_true rfl (Nat.le_of_ble_eq_true rfl), Nat.le_of_ble_eq_true rfl⟩

theorem KindOfItem.gatePassed (h : Head) (visit : Nat) (vtag : Nat) (code : Nat) :
    KindOfItem.Statement (.gatePassed h visit vtag code) :=
  ⟨iff_of_true rfl (Nat.le_of_ble_eq_true rfl), Nat.le_of_ble_eq_true rfl⟩

theorem KindOfItem.sweepStart (h : Head) (opcode : Nat) (scope : Nat) (index : Nat) :
    KindOfItem.Statement (.sweepStart h opcode scope index) :=
  ⟨iff_of_true rfl (Nat.le_of_ble_eq_true rfl), Nat.le_of_ble_eq_true rfl⟩

theorem KindOfItem.sweepStop (h : Head) :
    KindOfItem.Statement (.sweepStop h) :=
  ⟨iff_of_true rfl (Nat.le_of_ble_eq_true rfl), Nat.le_of_ble_eq_true rfl⟩

theorem KindOfItem.sweepRead (h : Head) :
    KindOfItem.Statement (.sweepRead h) :=
  ⟨iff_of_true rfl (Nat.le_of_ble_eq_true rfl), Nat.le_of_ble_eq_true rfl⟩

theorem KindOfItem.logPeek (h : Head) (first : Nat) (count : Nat) :
    KindOfItem.Statement (.logPeek h first count) :=
  ⟨iff_of_true rfl (Nat.le_of_ble_eq_true rfl), Nat.le_of_ble_eq_true rfl⟩

theorem KindOfItem.excPeek (h : Head) (first : Nat) (count : Nat) :
    KindOfItem.Statement (.excPeek h first count) :=
  ⟨iff_of_true rfl (Nat.le_of_ble_eq_true rfl), Nat.le_of_ble_eq_true rfl⟩

theorem KindOfItem.storeRead (h : Head) (visit : Option Nat) :
    KindOfItem.Statement (.storeRead h visit) :=
  ⟨iff_of_true rfl (Nat.le_of_ble_eq_true rfl), Nat.le_of_ble_eq_true rfl⟩

theorem KindOfItem.visitRead (h : Head) (visit : Nat) (compartments : Bool) :
    KindOfItem.Statement (.visitRead h visit compartments) :=
  ⟨iff_of_true rfl (Nat.le_of_ble_eq_true rfl), Nat.le_of_ble_eq_true rfl⟩

theorem KindOfItem.driverRead (h : Head) (selector : Nat) (value : Nat) :
    KindOfItem.Statement (.driverRead h selector value) :=
  ⟨iff_of_true rfl (Nat.le_of_ble_eq_true rfl), Nat.le_of_ble_eq_true rfl⟩

theorem KindOfItem.noteRead (h : Head) :
    KindOfItem.Statement (.noteRead h) :=
  ⟨iff_of_true rfl (Nat.le_of_ble_eq_true rfl), Nat.le_of_ble_eq_true rfl⟩

theorem KindOfItem.noteClear (h : Head) (clear : FlagWord) (mask : Option FlagWord) :
    KindOfItem.Statement (.noteClear h clear mask) :=
  ⟨iff_of_true rfl (Nat.le_of_ble_eq_true rfl), Nat.le_of_ble_eq_true rfl⟩

theorem KindOfItem.identRead (h : Head) :
    KindOfItem.Statement (.identRead h) :=
  ⟨iff_of_true rfl (Nat.le_of_ble_eq_true rfl), Nat.le_of_ble_eq_true rfl⟩

theorem KindOfItem.telegramStart (l : LinkNo) (c : RxChar) :
    KindOfItem.Statement (.telegramStart l c) :=
  ⟨iff_of_false Bool.false_ne_true (Nat.not_succ_le_zero 0), Nat.zero_le 38⟩

theorem KindOfItem.telegramEnd (l : LinkNo) (cs : List RxChar) :
    KindOfItem.Statement (.telegramEnd l cs) :=
  ⟨iff_of_false Bool.false_ne_true (Nat.not_succ_le_zero 0), Nat.zero_le 38⟩

theorem KindOfItem.gap (l : LinkNo) :
    KindOfItem.Statement (.gap l) :=
  ⟨iff_of_false Bool.false_ne_true (Nat.not_succ_le_zero 0), Nat.zero_le 38⟩

theorem KindOfItem.replySent (l : LinkNo) :
    KindOfItem.Statement (.replySent l) :=
  ⟨iff_of_false Bool.false_ne_true (Nat.not_succ_le_zero 0), Nat.zero_le 38⟩

theorem KindOfItem.rstAssert :
    KindOfItem.Statement .rstAssert :=
  ⟨iff_of_false Bool.false_ne_true (Nat.not_succ_le_zero 0), Nat.zero_le 38⟩

theorem KindOfItem.lineReset (cause : ResetCause) (straps : Straps) :
    KindOfItem.Statement (.lineReset cause straps) :=
  ⟨iff_of_false Bool.false_ne_true (Nat.not_succ_le_zero 0), Nat.zero_le 38⟩

theorem KindOfItem.coldStart (rate1 : Bool) (rate0 : Bool) :
    KindOfItem.Statement (.coldStart rate1 rate0) :=
  ⟨iff_of_false Bool.false_ne_true (Nat.not_succ_le_zero 0), Nat.zero_le 38⟩

theorem KindOfItem.mainSupplyLoss :
    KindOfItem.Statement .mainSupplyLoss :=
  ⟨iff_of_false Bool.false_ne_true (Nat.not_succ_le_zero 0), Nat.zero_le 38⟩

theorem KindOfItem.backupSupplyLoss :
    KindOfItem.Statement .backupSupplyLoss :=
  ⟨iff_of_false Bool.false_ne_true (Nat.not_succ_le_zero 0), Nat.zero_le 38⟩

theorem KindOfItem.tbasePulse :
    KindOfItem.Statement .tbasePulse :=
  ⟨iff_of_false Bool.false_ne_true (Nat.not_succ_le_zero 0), Nat.zero_le 38⟩

theorem KindOfItem.minuteEnd :
    KindOfItem.Statement .minuteEnd :=
  ⟨iff_of_false Bool.false_ne_true (Nat.not_succ_le_zero 0), Nat.zero_le 38⟩

theorem KindOfItem.minuteEvent :
    KindOfItem.Statement .minuteEvent :=
  ⟨iff_of_false Bool.false_ne_true (Nat.not_succ_le_zero 0), Nat.zero_le 38⟩

theorem KindOfItem.serviceTurn :
    KindOfItem.Statement .serviceTurn :=
  ⟨iff_of_false Bool.false_ne_true (Nat.not_succ_le_zero 0), Nat.zero_le 38⟩

theorem KindOfItem.allocation :
    KindOfItem.Statement .allocation :=
  ⟨iff_of_false Bool.false_ne_true (Nat.not_succ_le_zero 0), Nat.zero_le 38⟩

theorem KindOfItem.slotRead :
    KindOfItem.Statement .slotRead :=
  ⟨iff_of_false Bool.false_ne_true (Nat.not_succ_le_zero 0), Nat.zero_le 38⟩

theorem KindOfItem.slotWrite :
    KindOfItem.Statement .slotWrite :=
  ⟨iff_of_false Bool.false_ne_true (Nat.not_succ_le_zero 0), Nat.zero_le 38⟩

theorem KindOfItem.wholeListSplice :
    KindOfItem.Statement .wholeListSplice :=
  ⟨iff_of_false Bool.false_ne_true (Nat.not_succ_le_zero 0), Nat.zero_le 38⟩

theorem KindOfItem.stampedSplice :
    KindOfItem.Statement .stampedSplice :=
  ⟨iff_of_false Bool.false_ne_true (Nat.not_succ_le_zero 0), Nat.zero_le 38⟩

theorem KindOfItem.headSplice :
    KindOfItem.Statement .headSplice :=
  ⟨iff_of_false Bool.false_ne_true (Nat.not_succ_le_zero 0), Nat.zero_le 38⟩

theorem KindOfItem.serviceTableGrant :
    KindOfItem.Statement .serviceTableGrant :=
  ⟨iff_of_false Bool.false_ne_true (Nat.not_succ_le_zero 0), Nat.zero_le 38⟩

theorem KindOfItem.storeCountsGrant :
    KindOfItem.Statement .storeCountsGrant :=
  ⟨iff_of_false Bool.false_ne_true (Nat.not_succ_le_zero 0), Nat.zero_le 38⟩

theorem KindOfItem.checkTake :
    KindOfItem.Statement .checkTake :=
  ⟨iff_of_false Bool.false_ne_true (Nat.not_succ_le_zero 0), Nat.zero_le 38⟩

theorem KindOfItem.classLookup (a : Asker) :
    KindOfItem.Statement (.classLookup a) :=
  ⟨iff_of_false Bool.false_ne_true (Nat.not_succ_le_zero 0), Nat.zero_le 38⟩

theorem KindOfItem.pairTest (a : Asker) :
    KindOfItem.Statement (.pairTest a) :=
  ⟨iff_of_false Bool.false_ne_true (Nat.not_succ_le_zero 0), Nat.zero_le 38⟩

theorem KindOfItem.hoursVerdict :
    KindOfItem.Statement .hoursVerdict :=
  ⟨iff_of_false Bool.false_ne_true (Nat.not_succ_le_zero 0), Nat.zero_le 38⟩

theorem KindOfItem.sweepEntryRead :
    KindOfItem.Statement .sweepEntryRead :=
  ⟨iff_of_false Bool.false_ne_true (Nat.not_succ_le_zero 0), Nat.zero_le 38⟩

theorem KindOfItem.recheckContextRead :
    KindOfItem.Statement .recheckContextRead :=
  ⟨iff_of_false Bool.false_ne_true (Nat.not_succ_le_zero 0), Nat.zero_le 38⟩

end Sys2Proof.Laws
end

