-- ==== Sys2Proof/Laws/Store.lean ====
section
/-! SUPPORT. The Record Store's lists as runs of the link table, and what each operation of the store does to them:
`move` (R4, R13), `allocate` (R9), `write` (R12). Each keeps the lists whole (R7). -/

namespace Sys2Proof.Machine

/-! ### Runs of the link table -/

/-- From a slot, following `nx` reaches exactly the listed slots and then `e`. -/
def Runs {α : Type} (nx : α → Option α) : Option α → List α → Option α → Prop
  | h, [], e => h = e
  | h, i :: is, e => h = some i ∧ Runs nx (nx i) is e

namespace Runs

variable {α : Type} {nx nx' : α → Option α} {h e : Option α}

theorem append {a b : List α} : Runs nx h (a ++ b) e ↔ ∃ m, Runs nx h a m ∧ Runs nx m b e := by
  induction a generalizing h with
  | nil => simp [Runs]
  | cons i is ih => simp [Runs, ih, and_assoc]

theorem congr {c : List α} (hc : ∀ i ∈ c, nx' i = nx i) (hr : Runs nx h c e) : Runs nx' h c e := by
  induction c generalizing h with
  | nil => exact hr
  | cons i is ih =>
    refine ⟨hr.1, ?_⟩
    rw [hc i (by simp)]
    exact ih (fun j hj => hc j (by simp [hj])) hr.2

theorem head {c : List α} (hr : Runs nx h c none) : c.head? = h := by
  cases c with
  | nil => simpa [Runs] using hr.symm
  | cons i is => simpa using hr.1.symm

/-- The last slot of a run leads to its end; relinking it moves the end. -/
theorem relast {c : List α} {l : α} (hr : Runs nx h (c ++ [l]) e) (hn : ∀ i ∈ c, nx' i = nx i) :
    Runs nx' h (c ++ [l]) (nx' l) := by
  rw [append] at hr ⊢
  obtain ⟨m, h1, h2⟩ := hr
  exact ⟨m, congr hn h1, h2.1, rfl⟩

theorem last_next {c : List α} {l : α} (hr : Runs nx h (c ++ [l]) e) : nx l = e := by
  rw [append] at hr
  obtain ⟨m, _, h2⟩ := hr
  exact h2.2

/-- A table in which each place leads to the one above it is one run. -/
theorem rising (n k : Nat) {nx : Fin n → Option (Fin n)}
    (hn : ∀ i, nx i = if h : i.val + 1 < n then some ⟨i.val + 1, h⟩ else none) (i : Fin n) (hi : i.val + k = n) :
    Runs nx (some i) ((List.finRange n).drop i.val) none := by
  induction k generalizing i with
  | zero => exact absurd i.isLt (by omega)
  | succ k ih =>
    rw [List.drop_eq_getElem_cons (by simp)]
    refine ⟨by simp, ?_⟩
    rw [hn]
    simp only [List.getElem_finRange, Fin.val_cast]
    by_cases h : i.val + 1 < n
    · rw [dif_pos h]
      exact ih ⟨i.val + 1, h⟩ (show i.val + 1 + k = n by omega)
    · rw [dif_neg h, List.drop_eq_nil_of_le (by rw [List.length_finRange]; omega)]
      rfl

theorem rising_all (n : Nat) {nx : Fin n → Option (Fin n)} (h0 : 0 < n)
    (hn : ∀ i, nx i = if h : i.val + 1 < n then some ⟨i.val + 1, h⟩ else none)
    {c : List (Fin n)} (hc : c = List.finRange n) : Runs nx (some ⟨0, h0⟩) c none := by
  subst hc
  have h := rising n n hn ⟨0, h0⟩ (Nat.zero_add n)
  rwa [show (⟨0, h0⟩ : Fin n).val = 0 from rfl, List.drop_zero] at h

end Runs

namespace Store

/-- The next slot of each slot (R4). -/
def next (st : Store) (i : SlotNo) : Option SlotNo := (st.slot i).next

theorem chainFrom_of_runs {st : Store} {h e : Option SlotNo} {c : List SlotNo} (hr : Runs st.next h c e) :
    st.chainFrom c.length h = c := by
  induction c generalizing h with
  | nil => simp [chainFrom]
  | cons i is ih =>
    obtain ⟨rfl, h2⟩ := hr
    show i :: st.chainFrom is.length (st.next i) = _
    rw [ih h2]

theorem runs_chainFrom {st : Store} {n : Nat} {h : Option SlotNo} (hl : (st.chainFrom n h).length = n) :
    ∃ e, Runs st.next h (st.chainFrom n h) e := by
  induction n generalizing h with
  | zero => exact ⟨h, by simp [chainFrom, Runs]⟩
  | succ n ih =>
    cases h with
    | none => simp [chainFrom] at hl
    | some i =>
      have hl' : (st.chainFrom n (st.slot i).next).length = n := by simpa [chainFrom] using hl
      obtain ⟨e, he⟩ := ih hl'
      exact ⟨e, rfl, he⟩

/-- A whole list is a run from its head to END. -/
theorem ListWhole.runs {st : Store} {l : ListId} (w : st.ListWhole l) :
    Runs st.next (st.desc l).head (st.chain l) none := by
  obtain ⟨e, he⟩ := runs_chainFrom (st := st) (n := (st.desc l).count) (h := (st.desc l).head) w.length
  have he' : Runs st.next (st.desc l).head (st.chain l) e := he
  rcases List.eq_nil_or_concat (st.chain l) with hc | ⟨c, i, hc⟩
  · have h1 := w.head
    rw [hc] at he' h1 ⊢
    simp only [List.head?_nil] at h1
    simp [Runs, ← h1]
  · have ht := w.tail
    rw [List.concat_eq_append] at hc
    rw [hc] at he' ht ⊢
    have hn := w.ends i (by rw [← ht]; simp)
    have := Runs.last_next he'
    rw [show st.next i = none from hn] at this
    rwa [this]

/-- A run from the head to END, with the count, the tail and the owners of a list, makes the list whole. -/
theorem listWhole_of_runs {st : Store} {l : ListId} {c : List SlotNo}
    (hr : Runs st.next (st.desc l).head c none) (hn : (st.desc l).count = c.length)
    (ht : (st.desc l).tail = c.getLast?) (once : c.Nodup) (owned : ∀ i, i ∈ c ↔ (st.slot i).owner = l) :
    st.ListWhole l ∧ st.chain l = c := by
  have hc : st.chain l = c := by unfold chain; rw [hn]; exact chainFrom_of_runs hr
  refine ⟨⟨by rw [hc, hn], by rw [hc]; exact once, by rw [hc]; exact Runs.head hr, by rw [hc, ht], ?_, ?_⟩, hc⟩
  · intro i hi
    rw [ht] at hi
    rcases List.eq_nil_or_concat c with h0 | ⟨d, j, h0⟩
    · simp [h0] at hi
    · rw [List.concat_eq_append] at h0
      rw [h0] at hi hr
      simp only [List.getLast?_append, List.getLast?_singleton, Option.some_or,
        Option.some.injEq] at hi
      subst hi
      exact Runs.last_next hr
  · intro i; rw [hc]; exact owned i

/-! ### Reads of slots and descriptors after updates -/

@[simp] theorem slot_setSlot_self (st : Store) (i : SlotNo) (x : Slot) : (st.setSlot i x).slot i = x := by
  simp [slot, setSlot]

theorem slot_setSlot_ne (st : Store) {i j : SlotNo} (x : Slot) (h : i ≠ j) :
    (st.setSlot i x).slot j = st.slot j := by simp [slot, setSlot, tget_tset_ne _ _ h]

@[simp] theorem desc_setSlot (st : Store) (i : SlotNo) (x : Slot) (l : ListId) :
    (st.setSlot i x).desc l = st.desc l := rfl

@[simp] theorem slot_setDesc (st : Store) (l : ListId) (d : Desc) (i : SlotNo) :
    (st.setDesc l d).slot i = st.slot i := rfl

/-- The number of a descriptor as a natural number (R5). -/
def place : ListId → Nat
  | .free => 0
  | .log => 1
  | .exception => 2
  | .comp v => 3 + 3 * v.val
  | .paper v => 4 + 3 * v.val
  | .pend v => 5 + 3 * v.val

theorem num_val (l : ListId) : l.num.val = place l := by cases l <;> rfl

theorem place_inj {l m : ListId} (h : place l = place m) : l = m := by
  cases l <;> cases m <;> simp only [place] at h <;>
    first
    | rfl
    | omega
    | exact congrArg _ (Fin.ext (by omega))

theorem num_inj {l m : ListId} (h : l.num = m.num) : l = m :=
  place_inj (by rw [← num_val, ← num_val, h])

@[simp] theorem desc_setDesc_self (st : Store) (l : ListId) (d : Desc) : (st.setDesc l d).desc l = d := by
  simp [desc, setDesc]

theorem desc_setDesc_ne (st : Store) {l m : ListId} (d : Desc) (h : l ≠ m) :
    (st.setDesc l d).desc m = st.desc m := by
  simp [desc, setDesc, tget_tset_ne _ _ (fun e => h (num_inj e))]

@[simp] theorem slot_setRecords (st : Store) (l : LogId) (n : Nat) (i : SlotNo) :
    (st.setRecords l n).slot i = st.slot i := by cases l <;> rfl

@[simp] theorem desc_setRecords (st : Store) (l : LogId) (n : Nat) (m : ListId) :
    (st.setRecords l n).desc m = st.desc m := by cases l <;> rfl

theorem own_own (t : ListId) (x : Slot) : own t (own t x) = own t x := by
  unfold own; split <;> simp_all

theorem slot_ownAll (t : ListId) (st : Store) (is : List SlotNo) (j : SlotNo) :
    (ownAll t st is).slot j = if j ∈ is then own t (st.slot j) else st.slot j := by
  induction is generalizing st with
  | nil => simp [ownAll]
  | cons i is ih =>
    simp only [ownAll, ih, List.mem_cons]
    by_cases hj : i = j
    · subst hj; by_cases hi : i ∈ is <;> simp [hi, own_own]
    · have hj' : ¬ j = i := fun e => hj e.symm
      simp [slot_setSlot_ne _ _ hj, hj']

@[simp] theorem desc_ownAll (t : ListId) (st : Store) (is : List SlotNo) (l : ListId) :
    (ownAll t st is).desc l = st.desc l := by
  induction is generalizing st with
  | nil => rfl
  | cons i is ih => simp [ownAll, ih]

@[simp] theorem desc_relink (st : Store) (i : SlotNo) (n : Option SlotNo) (l : ListId) :
    (st.relink i n).desc l = st.desc l := rfl

theorem slot_relink (st : Store) (i j : SlotNo) (n : Option SlotNo) :
    (st.relink i n).slot j = if i = j then { st.slot j with next := n } else st.slot j := by
  unfold relink
  by_cases h : i = j
  · subst h; simp
  · simp [h, slot_setSlot_ne _ _ h]

@[simp] theorem desc_linkTail (st : Store) (t : Option SlotNo) (f : SlotNo) (l : ListId) :
    (st.linkTail t f).desc l = st.desc l := by cases t <;> rfl

theorem slot_linkTail (st : Store) (t : Option SlotNo) (f j : SlotNo) :
    (st.linkTail t f).slot j = if t = some j then { st.slot j with next := some f } else st.slot j := by
  cases t with
  | none => simp [linkTail]
  | some i => simp [linkTail, slot_relink]

/-! ### Operations that leave links and lists -/

/-- Two stores that agree on every slot's place and every descriptor have the same whole lists. -/
theorem whole_of_same {st st' : Store} (w : st.Whole)
    (hs : ∀ i, (st'.slot i).next = (st.slot i).next ∧ (st'.slot i).owner = (st.slot i).owner)
    (hd : ∀ l, st'.desc l = st.desc l) : st'.Whole ∧ ∀ l, st'.chain l = st.chain l := by
  have key : ∀ l, st'.ListWhole l ∧ st'.chain l = st.chain l := by
    intro l
    refine listWhole_of_runs ?_ ?_ ?_ (w l).once ?_
    · rw [hd]; exact Runs.congr (fun i _ => (hs i).1) (w l).runs
    · rw [hd, (w l).length]
    · rw [hd, (w l).tail]
    · intro i; rw [(hs i).2]; exact (w l).owned i
  exact ⟨fun l => (key l).1, fun l => (key l).2⟩

/-- Replacing a slot's record alone keeps every list. -/
theorem whole_setRecord {st : Store} (w : st.Whole) (i : SlotNo) (r : Record) (a : AllocCount) :
    (st.setSlot i { st.slot i with record := r, alloc := a }).Whole ∧
      ∀ l, (st.setSlot i { st.slot i with record := r, alloc := a }).chain l = st.chain l := by
  refine whole_of_same w (fun j => ?_) (fun _ => rfl)
  by_cases h : i = j
  · subst h; simp
  · simp [slot_setSlot_ne _ _ h]

/-- Setting a log's record count keeps every list. -/
theorem whole_setRecords {st : Store} (w : st.Whole) (l : LogId) (n : Nat) :
    (st.setRecords l n).Whole ∧ ∀ m, (st.setRecords l n).chain m = st.chain m :=
  whole_of_same w (fun j => by simp) (fun m => by simp)

/-! ### Moves (R4, R13) -/

/-- A move that has slots to move, opened up: they are the front of the source's chain, and the rest of the chain is
what stays. -/
theorem move_eq {st : Store} {src tgt : ListId} {n : Nat} (hne : src ≠ tgt) {a : List SlotNo} {f l : SlotNo}
    (ha : (st.chain src).take n = a) (hf : a.head? = some f) (hl : a.getLast? = some l) :
    st.move src tgt n =
      ((((ownAll tgt st a).relink l none).linkTail (st.desc tgt).tail f).setDesc src
        ⟨(st.slot l).next, if (st.slot l).next.isNone then none else (st.desc src).tail,
          (st.desc src).count - a.length⟩).setDesc tgt
        ⟨if (st.desc tgt).head.isNone then some f else (st.desc tgt).head, some l,
          (st.desc tgt).count + a.length⟩ := by
  subst ha
  unfold move
  simp only [hf, hl, hne, if_false]

theorem move_nothing {st : Store} {src tgt : ListId} {n : Nat} (ha : (st.chain src).take n = []) :
    st.move src tgt n = st := by
  unfold move; simp [ha]

theorem move_self (st : Store) (l : ListId) (n : Nat) : st.move l l n = st := by
  unfold move; simp only [if_true]; split <;> rfl

/-- What a move changes in a slot besides its link: the owner, and onto FREE the record. -/
theorem slot_move (st : Store) {src tgt : ListId} (n : Nat) (hne : src ≠ tgt) (i : SlotNo) :
    ((st.move src tgt n).slot i).alloc = (st.slot i).alloc ∧
      ((st.move src tgt n).slot i).owner =
        (if i ∈ (st.chain src).take n then tgt else (st.slot i).owner) ∧
      ((st.move src tgt n).slot i).record =
        (if tgt = .free ∧ i ∈ (st.chain src).take n then .none else (st.slot i).record) := by
  cases ha : (st.chain src).take n with
  | nil => rw [move_nothing ha]; simp
  | cons f as =>
    rw [move_eq hne ha rfl (List.getLast?_eq_getLast_of_ne_nil (by simp))]
    simp only [slot_setDesc, slot_linkTail, slot_relink, slot_ownAll]
    by_cases hm : i ∈ f :: as <;> by_cases ht : tgt = .free <;> simp only [hm, ht, own, if_true, if_false] <;>
      (split <;> split <;> simp_all)

/-- R4, R13: a move takes the first slots of its source, in their order, to the tail of its target, and keeps every
list whole. -/
theorem whole_move {st : Store} (w : st.Whole) {src tgt : ListId} (n : Nat) (hne : src ≠ tgt) :
    (st.move src tgt n).Whole ∧
      (st.move src tgt n).chain src = (st.chain src).drop n ∧
      (st.move src tgt n).chain tgt = st.chain tgt ++ (st.chain src).take n ∧
      ∀ l, l ≠ src → l ≠ tgt → (st.move src tgt n).chain l = st.chain l := by
  rcases List.eq_nil_or_concat ((st.chain src).take n) with ha | ⟨as, z, ha⟩
  · rw [move_nothing ha]
    refine ⟨w, ?_, by simp [ha], fun _ _ _ => rfl⟩
    have := List.take_append_drop n (st.chain src)
    rw [ha] at this
    simpa using this.symm
  rw [List.concat_eq_append] at ha
  obtain ⟨f, hf⟩ : ∃ f, (as ++ [z]).head? = some f := by cases as <;> simp
  set a := as ++ [z] with hadef
  set b := (st.chain src).drop n with hb
  have hsplit : a ++ b = st.chain src := by rw [← ha, hb, List.take_append_drop]
  have hlen : (st.chain src).length = a.length + b.length := by rw [← hsplit]; simp
  have hnd : (a ++ b).Nodup := by rw [hsplit]; exact (w src).once
  have hza : z ∈ a := by simp [hadef]
  have hzas : z ∉ as := by
    have h1 : (as ++ [z]).Nodup := hnd.of_append_left
    intro h2
    exact (List.nodup_append.1 h1).2.2 z h2 z (by simp) rfl
  have hdis : ∀ i, i ∈ a → i ∉ b := fun i h1 h2 => (List.nodup_append.1 hnd).2.2 i h1 i h2 rfl
  have howner : ∀ l i, i ∈ st.chain l ↔ (st.slot i).owner = l := fun l i => (w l).owned i
  have hsrc : ∀ i, i ∈ a ∨ i ∈ b ↔ (st.slot i).owner = src := by
    intro i; rw [← howner src, ← hsplit]; exact List.mem_append.symm
  -- the old store
  have hr : Runs st.next (st.desc src).head (a ++ b) none := by rw [hsplit]; exact (w src).runs
  obtain ⟨m, hra, hrb⟩ := Runs.append.1 hr
  have hm : (st.slot z).next = m := Runs.last_next (by rw [hadef] at hra; exact hra)
  have htail : ∀ i, (st.desc tgt).tail = some i → (st.slot i).owner = tgt := by
    intro i hi
    rw [← howner tgt]
    rw [← (w tgt).tail] at hi
    exact List.mem_of_getLast? hi
  -- the new store
  have hnew := move_eq hne ha hf (by simp : (as ++ [z]).getLast? = some z)
  set st' := st.move src tgt n with hst'
  have hnext : ∀ i, st'.next i =
      if (st.desc tgt).tail = some i then some f else if z = i then none else st.next i := by
    intro i
    show (st'.slot i).next = _
    rw [hnew]
    simp only [slot_setDesc, slot_linkTail, slot_relink, slot_ownAll]
    split
    · rfl
    · split
      · rfl
      · split <;> rfl
  have hkeep : ∀ i, (st.desc tgt).tail ≠ some i → z ≠ i → st'.next i = st.next i := by
    intro i h1 h2; rw [hnext, if_neg h1, if_neg h2]
  have hown : ∀ i, (st'.slot i).owner = if i ∈ a then tgt else (st.slot i).owner := by
    intro i; rw [hst', (slot_move st n hne i).2.1, ha]
  have hds : st'.desc src = ⟨m, if m.isNone then none else (st.desc src).tail, (st.desc src).count - a.length⟩ := by
    rw [hnew, desc_setDesc_ne _ _ (Ne.symm hne), desc_setDesc_self, hm]
  have hdt : st'.desc tgt = ⟨if (st.desc tgt).head.isNone then some f else (st.desc tgt).head, some z,
      (st.desc tgt).count + a.length⟩ := by
    rw [hnew, desc_setDesc_self]
  have hdo : ∀ l, l ≠ src → l ≠ tgt → st'.desc l = st.desc l := by
    intro l h1 h2
    rw [hnew, desc_setDesc_ne _ _ (Ne.symm h2), desc_setDesc_ne _ _ (Ne.symm h1), desc_linkTail, desc_relink,
      desc_ownAll]
  have ks : st'.ListWhole src ∧ st'.chain src = b := by
    refine listWhole_of_runs ?_ ?_ ?_ hnd.of_append_right ?_
    · rw [hds]
      refine Runs.congr (fun i hi => hkeep i (fun h => ?_) (fun h => ?_)) hrb
      · exact hne ((hsrc i).1 (Or.inr hi) ▸ htail i h)
      · exact hdis z hza (h ▸ hi)
    · rw [hds, ← (w src).length, hlen]; simp
    · rw [hds]
      cases hb' : b with
      | nil => rw [hb'] at hrb; have : m = none := hrb; simp [this]
      | cons y ys =>
        rw [hb'] at hrb
        obtain ⟨rfl, _⟩ := hrb
        simp only [Option.isNone_some, Bool.false_eq_true, if_false]
        rw [← (w src).tail, ← hsplit, hb', List.getLast?_append_of_ne_nil _ (by simp)]
    · intro i
      rw [hown]
      constructor
      · intro hi
        rw [if_neg (fun h => hdis i h hi)]
        exact (hsrc i).1 (Or.inr hi)
      · intro hi
        split at hi
        · exact absurd hi.symm hne
        · rename_i h
          exact ((hsrc i).2 hi).resolve_left h
  have hra' : Runs st'.next (some f) a none := by
    have h1 : (st.desc src).head = some f := by
      have hf' : (as ++ [z]).head? = some f := hf
      rw [← Runs.head hr, hadef]
      cases as <;> simpa using hf'
    rw [h1, hadef] at hra
    have := Runs.relast (nx' := st'.next) hra (fun i hi => hkeep i (fun h => ?_) (fun h => ?_))
    · rw [hnext z, if_neg, if_pos rfl] at this
      · exact this
      · intro h
        exact hne ((hsrc z).1 (Or.inl hza) ▸ htail z h)
    · exact hne ((hsrc i).1 (Or.inl (by rw [hadef]; simp [hi])) ▸ htail i h)
    · exact hzas (h ▸ hi)
  have kt : st'.ListWhole tgt ∧ st'.chain tgt = st.chain tgt ++ a := by
    refine listWhole_of_runs ?_ ?_ ?_ ?_ ?_
    · rw [hdt]
      rcases List.eq_nil_or_concat (st.chain tgt) with hc | ⟨c, y, hc⟩
      · have h0 : (st.desc tgt).head = none := by rw [← (w tgt).head, hc]; rfl
        simp only [h0, hc, Option.isNone_none, if_true, List.nil_append]
        exact hra'
      · rw [List.concat_eq_append] at hc
        have ht : (st.desc tgt).tail = some y := by rw [← (w tgt).tail, hc]; simp
        have hh : (st.desc tgt).head.isNone = false := by
          rw [← (w tgt).head, hc]; cases c <;> rfl
        simp only [hh, Bool.false_eq_true, if_false]
        rw [Runs.append]
        refine ⟨some f, ?_, hra'⟩
        have hrt := (w tgt).runs
        have hnt := (w tgt).once
        rw [hc] at hrt hnt ⊢
        have := Runs.relast (nx' := st'.next) hrt (fun i hi => hkeep i (fun h => ?_) (fun h => ?_))
        · rwa [hnext y, if_pos ht] at this
        · rw [ht] at h
          have : y = i := by simpa using h
          subst this
          exact (List.nodup_append.1 hnt).2.2 y hi y (by simp) rfl
        · subst h
          have h1 : (st.slot z).owner = tgt := (howner tgt z).1 (by rw [hc]; simp [hi])
          exact hne (((hsrc z).1 (Or.inl hza)).symm.trans h1)
    · have e : (st.chain tgt ++ a).length = (st.chain tgt).length + a.length := List.length_append
      rw [hdt, e, (w tgt).length]
    · rw [hdt, List.getLast?_append_of_ne_nil _ (by rw [hadef]; simp), hadef]; simp
    · rw [List.nodup_append]
      refine ⟨(w tgt).once, hnd.of_append_left, fun i hi j hj he => ?_⟩
      subst he
      exact hne (((hsrc i).1 (Or.inl hj)).symm.trans ((howner tgt i).1 hi))
    · intro i
      rw [hown, List.mem_append]
      constructor
      · rintro (hi | hi)
        · split
          · rfl
          · exact (howner tgt i).1 hi
        · rw [if_pos hi]
      · intro hi
        by_cases h : i ∈ a
        · exact Or.inr h
        · rw [if_neg h] at hi
          exact Or.inl ((howner tgt i).2 hi)
  have ko : ∀ l, l ≠ src → l ≠ tgt → st'.ListWhole l ∧ st'.chain l = st.chain l := by
    intro l h1 h2
    refine listWhole_of_runs ?_ ?_ ?_ (w l).once ?_
    · rw [hdo l h1 h2]
      refine Runs.congr (fun i hi => hkeep i (fun h => ?_) (fun h => ?_)) (w l).runs
      · exact h2 (((howner l i).1 hi).symm.trans (htail i h))
      · subst h
        exact h1 (((howner l z).1 hi).symm.trans ((hsrc z).1 (Or.inl hza)))
    · rw [hdo l h1 h2, (w l).length]
    · rw [hdo l h1 h2, (w l).tail]
    · intro i
      rw [hown, howner]
      by_cases h : i ∈ a
      · rw [if_pos h, (hsrc i).1 (Or.inl h)]
        exact ⟨fun e => absurd e.symm h1, fun e => absurd e.symm h2⟩
      · rw [if_neg h]
  refine ⟨fun l => ?_, ks.2, by rw [kt.2, ha], fun l h1 h2 => (ko l h1 h2).2⟩
  by_cases h1 : l = src
  · subst h1; exact ks.1
  · by_cases h2 : l = tgt
    · subst h2; exact kt.1
    · exact (ko l h1 h2).1

/-! ### Allocations (R9) -/

/-- R9: an allocation takes the head slot of FREE to the tail of its list and gives it its record and a new
allocation count; every other slot keeps record and count, and the lists stay whole. -/
theorem allocate_spec {st : Store} (w : st.Whole) {tgt : ListId} (ht : tgt ≠ .free) (r : Record) :
    (st.chain .free = [] ∧ st.allocate tgt r = none) ∨
      ∃ i st', st.allocate tgt r = some (st', ⟨i, (st.slot i).alloc + 1⟩) ∧ st'.Whole ∧
        st.chain .free = i :: st'.chain .free ∧ st'.chain tgt = st.chain tgt ++ [i] ∧
        (∀ l, l ≠ .free → l ≠ tgt → st'.chain l = st.chain l) ∧
        (st'.slot i).record = r ∧ (st'.slot i).alloc = (st.slot i).alloc + 1 ∧
        ∀ j, j ≠ i → (st'.slot j).record = (st.slot j).record ∧ (st'.slot j).alloc = (st.slot j).alloc := by
  unfold allocate
  have hh := (w .free).head
  cases hc : st.chain .free with
  | nil => rw [hc] at hh; left; simp [← hh]
  | cons i is =>
    right
    rw [hc] at hh
    obtain ⟨wm, h1, h2, h3⟩ := whole_move w 1 (Ne.symm ht)
    obtain ⟨w', hch⟩ := whole_setRecord wm i r (((st.move .free tgt 1).slot i).alloc + 1)
    have hal : ∀ j, ((st.move .free tgt 1).slot j).alloc = (st.slot j).alloc := fun j =>
      (slot_move st 1 (Ne.symm ht) j).1
    refine ⟨i, _, by rw [← hh, ← hal]; rfl, w', ?_, ?_, ?_, by simp, by simp [hal], ?_⟩
    · rw [hch, h1, hc]; rfl
    · rw [hch, h2, hc]; rfl
    · intro l a b; rw [hch]; exact h3 l a b
    · intro j hj
      rw [slot_setSlot_ne _ _ (Ne.symm hj), (slot_move st 1 (Ne.symm ht) j).1, (slot_move st 1 (Ne.symm ht) j).2.2]
      simp [ht]

/-! ### Splices and writes (R12, R13) -/

/-- R13: a whole-list splice empties its source onto the tail of its target. -/
theorem whole_splice {st : Store} (w : st.Whole) {src tgt : ListId} (hne : src ≠ tgt) :
    (st.splice src tgt).Whole ∧ (st.splice src tgt).chain src = [] ∧
      (st.splice src tgt).chain tgt = st.chain tgt ++ st.chain src ∧
      ∀ l, l ≠ src → l ≠ tgt → (st.splice src tgt).chain l = st.chain l := by
  obtain ⟨h0, h1, h2, h3⟩ := whole_move w (st.desc src).count hne
  rw [← (w src).length] at h0 h1 h2 h3
  refine ⟨by unfold splice; rw [← (w src).length]; exact h0, ?_, ?_, ?_⟩ <;> unfold splice <;>
    rw [← (w src).length]
  · rw [h1]; simp
  · rw [h2]; simp
  · exact h3

/-- R12: a write keeps every list. -/
theorem whole_write {st st' : Store} (w : st.Whole) {n : Nat} {l : ListId} {r : SlotRef} {f : WriteFields}
    (h : st.write n l r f = some st') : st'.Whole ∧ ∀ m, st'.chain m = st.chain m := by
  unfold write at h
  split at h
  · simp only [Option.map_eq_some_iff] at h
    obtain ⟨x, _, rfl⟩ := h
    exact whole_setRecord w r.slot x (st.slot r.slot).alloc
  · cases h

/-- R23: after a cold start FREE holds every slot in ascending number, and every list is whole. -/
theorem whole_cold : Store.cold.Whole := by
  have hslot : ∀ i : SlotNo, Store.cold.slot i =
      ⟨.none, 0, if h : i.val + 1 < 1024 then some ⟨i.val + 1, h⟩ else none, .free⟩ := by
    intro i; simp only [slot, Store.cold, tget_tableOf]
  have hdesc : ∀ l, Store.cold.desc l = if l = .free then ⟨some 0, some 1023, 1024⟩ else Desc.empty := by
    intro l
    simp only [desc, Store.cold, tget_tableOf, num_val]
    by_cases h : l = .free
    · subst h; rfl
    · have : place l ≠ 0 := fun e => h (place_inj (m := .free) e)
      simp [h, this]
  have hnext : ∀ i, Store.cold.next i = if h : i.val + 1 < 1024 then some ⟨i.val + 1, h⟩ else none :=
    fun i => congrArg Slot.next (hslot i)
  have hpos : 0 < 1024 := by omega
  obtain ⟨c, hc⟩ : ∃ c, c = List.finRange 1024 := ⟨_, rfl⟩
  have hruns : Runs Store.cold.next (some ⟨0, hpos⟩) c none := Runs.rising_all 1024 hpos hnext hc
  intro l
  by_cases h : l = .free
  · subst h
    refine (listWhole_of_runs (c := c) ?_ ?_ ?_ (hc ▸ List.nodup_finRange _) ?_).1
    · rw [hdesc, if_pos rfl]
      exact hruns
    · rw [hdesc, hc, List.length_finRange]; rfl
    · rw [hdesc, hc, List.getLast?_eq_getElem?]; simp
    · intro i; simp [hslot, hc]
  · refine (listWhole_of_runs (c := []) ?_ ?_ ?_ List.nodup_nil ?_).1
    · rw [hdesc, if_neg h]; rfl
    · rw [hdesc, if_neg h]; rfl
    · rw [hdesc, if_neg h]; rfl
    · intro i; simp [hslot, Ne.symm h]

end Store

end Sys2Proof.Machine
end

