-- ==== Sys2Proof/Laws/Wire.lean ====
section
/-! SUPPORT. The model's encoders of numbers write what `wireBytes` says (R198), and what a run of bytes laid out by
a table is when it is built field by field. -/

namespace Sys2Proof.Machine

theorem wireBytes_one (n : Int) : wireBytes 1 n = [BitVec.ofInt 8 n] := by simp [wireBytes, List.range_succ]

theorem wireBytes_two (n : Int) : wireBytes 2 n = [BitVec.ofInt 8 (n / 256), BitVec.ofInt 8 n] := by
  simp [wireBytes, List.range_succ]

theorem wireBytes_four (n : Int) :
    wireBytes 4 n = [BitVec.ofInt 8 (n / 16777216), BitVec.ofInt 8 (n / 65536), BitVec.ofInt 8 (n / 256),
      BitVec.ofInt 8 n] := by
  simp [wireBytes, List.range_succ]

theorem wireBytes_length (w : Nat) (n : Int) : (wireBytes w n).length = w := by simp [wireBytes]

/-- Two numbers with the same remainder by 256 have the same low byte. -/
theorem ofInt_congr {m n : Int} (h : m % 256 = n % 256) : BitVec.ofInt 8 m = BitVec.ofInt 8 n := by
  apply BitVec.eq_of_toInt_eq
  simp only [BitVec.toInt_ofInt, Int.bmod]
  norm_num [h]

theorem byteOf_eq (n : Nat) : byteOf n = BitVec.ofInt 8 n := by simp [byteOf]

theorem put8_eq (n : Nat) : put8 n = wireBytes 1 n := by rw [wireBytes_one, put8, byteOf_eq]

theorem put16_eq (n : Nat) : put16 n = wireBytes 2 n := by
  rw [wireBytes_two, put16, byteOf_eq, byteOf_eq]; rfl

theorem put32_eq (n : Nat) : put32 n = wireBytes 4 n := by
  simp only [wireBytes_four, put32, put16, byteOf_eq, List.cons_append, List.nil_append]
  rw [Nat.div_div_eq_div_mul]
  rfl

theorem putBit_eq (b : Bool) : putBit b = wireBytes 1 b.toNat := by cases b <;> rfl

theorem putInt16_eq (n : Int) : putInt16 n = wireBytes 2 n := by
  rw [putInt16, put16_eq, wireBytes_two, wireBytes_two, Int.toNat_of_nonneg (by omega)]
  rw [ofInt_congr (m := n % 65536 / 256) (n := n / 256) (by omega),
    ofInt_congr (m := n % 65536) (n := n) (by omega)]

theorem putInt32_eq (n : Int) : putInt32 n = wireBytes 4 n := by
  rw [putInt32, put32_eq, wireBytes_four, wireBytes_four, Int.toNat_of_nonneg (by omega)]
  rw [ofInt_congr (m := n % 4294967296 / 16777216) (n := n / 16777216) (by omega),
    ofInt_congr (m := n % 4294967296 / 65536) (n := n / 65536) (by omega),
    ofInt_congr (m := n % 4294967296 / 256) (n := n / 256) (by omega),
    ofInt_congr (m := n % 4294967296) (n := n) (by omega)]

/-- The fields of a table from an offset on, one after another with no gap: their rows. -/
def rowsFrom (at_ : Nat) : List (Nat × Int) → List (Nat × Nat × Int)
  | [] => []
  | f :: fs => (at_, f.1, f.2) :: rowsFrom (at_ + f.1) fs

/-- A run of bytes built of fields one after another is laid out by their rows. -/
theorem laidOut_fields (fs : List (Nat × Int)) :
    LaidOut (fs.flatMap fun f => wireBytes f.1 f.2) (fs.map Prod.fst).sum (rowsFrom 0 fs) := by
  refine ⟨by simp [List.length_flatMap, wireBytes_length], ?_⟩
  suffices h : ∀ (fs : List (Nat × Int)) (front : List Byte), ∀ r ∈ rowsFrom front.length fs,
      ((front ++ fs.flatMap fun f => wireBytes f.1 f.2).drop r.1).take r.2.1 = wireBytes r.2.1 r.2.2 by
    exact h fs []
  intro fs
  induction fs with
  | nil => intro _ r hr; cases hr
  | cons f fs ih =>
      intro front r hr
      rcases List.mem_cons.1 hr with rfl | hr
      · simp [wireBytes_length]
      · have e : front.length + f.1 = (front ++ wireBytes f.1 f.2).length := by simp [wireBytes_length]
        rw [e] at hr
        simpa using ih (front ++ wireBytes f.1 f.2) r hr

/-- The same for bytes, a size and rows written out. -/
theorem laidOut_of_fields (fs : List (Nat × Int)) {all : List Byte} {size : Nat} {rows : List (Nat × Nat × Int)}
    (ha : all = fs.flatMap fun f => wireBytes f.1 f.2) (hs : (fs.map Prod.fst).sum = size)
    (hr : rowsFrom 0 fs = rows) : LaidOut all size rows := by
  subst ha hs hr
  exact laidOut_fields fs

end Sys2Proof.Machine
end

