-- ==== Sys2Proof/Tests/Slice0.lean ====
section
/-! SUPPORT. Tests. Expected results are worked out by hand from the rules cited; the states are small changes of the
state after a cold start. The theorems `test_witness_…` show that the hypotheses of a statement can be met, clause by
clause, at the ends of each range. -/

open Sys2Proof Sys2Proof.Machine

namespace Sys2Proof.Tests

-- One proof at a time: the kernel's evaluations side by side need more memory than the check allows.
set_option Elab.async false

/-! ### States and commands -/

def o : Head := ⟨.office, 3⟩
def b : Head := ⟨.loading, 3⟩
def g : Head := ⟨.gate, 3⟩
def a : Head := ⟨.audit, 3⟩

/-- After a cold start, and the same in the RUN state, and in RUN with the clock set at minute 1000. -/
def cold : State := State.reset
def ready : State := { cold with cc := { Control.cold with run := .run } }
def clocked : State := { ready with time := { TimeBase.cold with set := true, minutes := 1000 } }
def locked : State := { ready with cc := { ready.cc with locked := true } }

/-- An executing telegram with an item as its next, and NOTE_READ after it. -/
def withItem (h : Head) (i : Instr) (s : State) : State :=
  s.setLink h.link { s.link h.link with
    rx := .ready
    bufA := .executing ⟨7, 2, [encodeItem h i, encodeItem h (.noteRead h)], none, [], false⟩ }

/-- The item is the next of its link and passes the checks of R191. -/
def takes (s : State) (h : Head) (i : Instr) : Bool :=
  decide ((withItem h i s).nextItem h.link = some i) && decide ((withItem h i s).slRefusal h.link i = none)

/-- The outcome byte of the first reply item. -/
def outcome (s : State) (l : LinkNo) : Option Byte := (s.executing l).bind fun e => e.reply[4]?

/-- The item is taken and answered with the outcome. -/
def answers (c : Code) (s : State) (h : Head) (i : Instr) : Bool :=
  takes s h i && match exec i (withItem h i s) with
    | .next t => outcome t h.link == some (BitVec.ofNat 8 c.value)
    | _ => false

/-- The item is taken and waits for the request. -/
def asks (r : Request) (s : State) (h : Head) (i : Instr) : Bool :=
  takes s h i && match exec i (withItem h i s) with
    | .next t => t.request (linkRequester h.link) == some r && outcome t h.link == none
    | _ => false

/-- A requester's request is the next grant. -/
def granting (p : Requester) (r : Request) (s : State) : State :=
  { s with service := [p], index := 0, requests := tset s.requests p.ix (some r) }

/-- A link with an item in flight. -/
def withJob (l : LinkNo) (j : Job) (s : State) : State :=
  s.setLink l { s.link l with bufA := .executing ⟨7, 1, [], some ⟨1, 3, j⟩, [], false⟩ }

def grants (s : State) (p : Requester) (r : Request) : Bool := decide (s.grant = some (p, r))

/-- Some property of the state after a command. -/
def after (i : Instr) (s : State) (p : State → Bool) : Bool :=
  match exec i s with
  | .next t => p t
  | _ => false

/-- The command stops with a fault. -/
def faults (f : Fault) (i : Instr) (s : State) : Bool :=
  match exec i s with
  | .fault e => e == f
  | _ => false

/-- Visit 7, of one compartment and the driver of card 77, with tag 5. -/
def visit7 : Visit := { Visit.freed 5 with arrival := some ⟨9, 77, none, 1, 900⟩ }
def inState (st : VisitState) : State := clocked.setVisit 7 { visit7 with state := st }
def paper7 : Paper := ⟨44, 100, none, some 2⟩
def opened : State := clocked.setVisit 7 { visit7 with state := .arrived, paperState := .opened, paper := some paper7 }
def driver77 : Driver := ⟨77, .duty, 100, 50, 200, 800, 5, none, none, none, some 7⟩
def comp1 : Compartment := ⟨1, some 500, none, 0, 0, none, 0, none, false, false⟩
def slot0 : SlotRef := ⟨0, 1⟩

/-- A store with one record placed on a list, at slot 0 with allocation count 1. -/
def placed (l : ListId) (r : Record) (s : State) : State :=
  s.setStore (((s.store.allocate l r).map Prod.fst).getD s.store)

def window7 : Window := ⟨7, 5, 1, .fill, [⟨1, slot0⟩]⟩
def loading : State := ((inState .assigned).setVisit 7 { visit7 with state := .assigned, bay := some 0 }).setWindow 0 window7
def check7 : Check := { Check.taken 7 { visit7 with paperState := .complete, paper := some paper7 } with phase := .judge }
def checking (c : Check) : State := (inState .checking).setDcu ⟨[], some c⟩
def head7 : LogHead :=
  ⟨.building, none, none, 7, 5, 9, 77, none, some 44, none, none, none, 100, 0, .pass, 0⟩

/-! ### The line -/

/-- The CRC-16 of 11.6: its check value over the nine digits is 29B1H. -/
theorem test_crc : crc16 ([49, 50, 51, 52, 53, 54, 55, 56, 57] : List Byte) = 0x29B1 := by decide +kernel

/-- SET_TIME at minute 1000 (000003E8H) and 59 seconds, kind 1 (R194, R201). -/
theorem test_decode_setup : decodeItem .office ⟨1, 3, 0, 0, 0, [0, 0, 0x03, 0xE8, 59]⟩ = some (.setTime o 1000 59) := by
  decide +kernel

/-- DISPATCH of visit 7 with tag 0105H, kind 26; the body is empty (R201). -/
theorem test_decode_gate : decodeItem .gate ⟨26, 3, 7, 1, 5, []⟩ = some (.dispatch g 7 261) := by decide +kernel

/-- FILL at bay 2, compartment 1, product 1203 (04B3H), figure 500 (01F4H), kind 21. -/
theorem test_decode_bay :
    decodeItem .loading ⟨21, 3, 2, 0, 0, [1, 0x04, 0xB3, 0x01, 0xF4]⟩ = some (.fill b 2 1 1203 500) := by decide +kernel

/-- LOG_PEEK from sequence number 2 for 8 records, kind 31; a body one byte short matches no form. -/
theorem test_decode_audit :
    decodeItem .audit ⟨31, 3, 0, 0, 0, [0, 0, 0, 2, 8]⟩ = some (.logPeek a 2 8) ∧
      decodeItem .audit ⟨31, 3, 0, 0, 0, [0, 0, 0, 2]⟩ = none ∧ decodeItem .audit ⟨39, 3, 0, 0, 0, []⟩ = none := by
  decide +kernel

/-- ADJUST_TIME of -300 seconds is FED4H (R198). -/
theorem test_decode_signed : decodeItem .office ⟨2, 3, 0, 0, 0, [0xFE, 0xD4]⟩ = some (.adjustTime o (-300)) := by
  decide +kernel

/-- No word spells a command, and none changes the queue. -/
theorem test_words_spell_nothing : decodeTableWord 8 1 = none ∧ (cold.withFetchWord 8 1).pending = [] := by
  decide +kernel

/-! ### Well-formedness: each check refuses a term that breaks it alone -/

theorem test_wf_accepts :
    [Instr.setTime ⟨.office, 255⟩ 4294967295 255, .adjustTime o 32767, .adjustTime o (-32768),
      .serviceLoad o (List.replicate 248 255), .paperLines o 255 65535 (List.replicate 49 ⟨255, 65535, 65535⟩),
      .identWrite o (some 4294967295) (some (List.replicate 16 0)), .tbasePulse].all Instr.wf = true := by decide +kernel

theorem test_wf_refuses_setup :
    [Instr.setTime ⟨.office, 256⟩ 0 0, .setTime o 4294967296 0, .setTime o 0 256, .adjustTime o 32768,
      .adjustTime o (-32769), .rulesLoad o { defaultRules with lDay := 65536 },
      .rulesLoad o { defaultRules with lCont := 65536 }, .rulesLoad o { defaultRules with lWeek := 65536 },
      .rulesLoad o { defaultRules with lSpan := 65536 }, .rulesLoad o { defaultRules with b := 65536 },
      .rulesLoad o { defaultRules with f := 65536 }, .rulesLoad o { defaultRules with r := 65536 },
      .rulesLoad o { defaultRules with reclaim := 65536 }, .bandLoad o 256 0 0 0 0 true, .bandLoad o 0 65536 0 0 0 true,
      .bandLoad o 0 0 256 0 0 true, .bandLoad o 0 0 0 65536 0 true, .bandLoad o 0 0 0 0 65536 true, .segLoad o 256 0 0,
      .segLoad o 0 256 0, .segLoad o 0 0 256, .chunkSize o 256, .serviceLoad o [256],
      .serviceLoad o (List.replicate 249 0), .settings o (some 256) none none, .settings o none (some 256) none,
      .settings o none none (some 256), .identWrite o (some 4294967296) none, .identWrite o none (some []),
      .start ⟨.office, 256⟩].all (fun i => !i.wf) = true := by decide +kernel

theorem test_wf_refuses_items :
    [Instr.paperOpen o 256 0 0 0 none none true, .paperOpen o 0 65536 0 0 none none true,
      .paperOpen o 0 0 4294967296 0 none none true, .paperOpen o 0 0 0 65536 none none true,
      .paperOpen o 0 0 0 0 (some 65536) none true, .paperOpen o 0 0 0 0 none (some 256) true,
      .paperLines o 256 0 [], .paperLines o 0 65536 [], .paperLines o 0 0 [⟨256, 0, 0⟩], .paperLines o 0 0 [⟨0, 65536, 0⟩],
      .paperLines o 0 0 [⟨0, 0, 65536⟩], .paperLines o 0 0 (List.replicate 50 ⟨0, 0, 0⟩), .visitAbort o 256 0,
      .visitAbort o 0 65536, .logTake o 256, .excTake o 256, .bayAssign b 256 0 0, .bayAssign b 0 65536 0,
      .bayAssign b 0 0 256, .bayRelease b 256, .loadEnd b 256, .fill b 256 0 0 0, .fill b 0 256 0 0, .fill b 0 0 65536 0,
      .fill b 0 0 0 65536, .breakStart g 4294967296, .breakEnd g 4294967296, .dispatch g 256 0, .dispatch g 0 65536,
      .gatePassed g 256 0 0, .gatePassed g 0 65536 0, .gatePassed g 0 0 65536, .sweepStart a 256 0 0, .sweepStart a 0 256 0,
      .sweepStart a 0 0 256, .logPeek a 4294967296 0, .logPeek a 0 256, .excPeek a 4294967296 0, .excPeek a 0 256,
      .storeRead a (some 256), .visitRead a 256 true, .driverRead a 256 0, .driverRead a 0 4294967296,
      .noteRead ⟨.audit, 256⟩, .sweepStop ⟨.audit, 256⟩].all (fun i => !i.wf) = true := by decide +kernel

theorem test_wf_refuses_arrivals :
    let f : Figures := ⟨0, 0, 0, 0, 0⟩
    [Instr.arrive g 4294967296 0 f none [], .arrive g 0 4294967296 f none [], .arrive g 0 0 { f with day := 65536 } none [],
      .arrive g 0 0 { f with cont := 65536 } none [], .arrive g 0 0 { f with week := 65536 } none [],
      .arrive g 0 0 { f with u := 65536 } none [], .arrive g 0 0 { f with c := 65536 } none [],
      .arrive g 0 0 f (some ⟨4294967296, f⟩) [], .arrive g 0 0 f (some ⟨0, { f with day := 65536 }⟩) [],
      .arrive g 0 0 f none [some 65536], .arrive g 0 0 f none (List.replicate 72 none)].all
        (fun i => !i.wf) = true := by decide +kernel

/-! ### The queue of commands -/

theorem test_witness_queue : cold.pending = [] ∧ exec .tbasePulse cold = .next cold := ⟨rfl, rfl⟩

/-! ### Resets, supplies and the line -/

theorem test_witness_cold_start_sequence :
    ({ cold with store := (placed (.pend 7) (.logHead head7) cold).store }.stamp 7 .lapsed none).2 = some 1 := by
  decide +kernel

/-- Visit 7 is CLEARED with its record, and RST is asserted, or the main supply is absent. -/
def held7 : State := { placed (.pend 7) (.logHead head7) (inState .cleared) with rst := true }
def dark7 : State := { held7 with rst := false, power := .backup }

theorem test_witness_line_reset : ResetBegins .rstReleased held7 ∧ ResetBegins .mainReturns dark7 :=
  ⟨⟨rfl, rfl⟩, rfl, rfl⟩

/-- R46 and R208: at each cause the work begins once nothing else holds the part, and the record of the clearance goes
to EXCEPTION. -/
theorem test_line_resets :
    let work (t : State) := t.alive && (t.visit 7).state == .loaded && (t.visit 7).lapsed && t.rate == .r57600 &&
      t.store.chain .exception == [0] && t.store.chain (.pend 7) == [] && t.logs.seqs == 1 &&
      (t.store.slot 0).record == .logHead { head7 with seq := some 1, outcome := some .resetLapsed }
    let waits (t : State) := !t.alive && (t.visit 7).state == .cleared && t.rate == held7.rate
    let both : State := { dark7 with rst := true }
    after (.lineReset .rstReleased ⟨false, true⟩) held7 work ∧ after (.lineReset .mainReturns ⟨false, true⟩) dark7 work ∧
      after (.lineReset .mainReturns ⟨false, true⟩) both (fun t => waits t && t.power == .main && t.rst) ∧
      after (.lineReset .rstReleased ⟨false, true⟩) both (fun t => waits t && t.power == .backup && !t.rst) ∧
      after (.coldStart true false) held7 (fun t => !t.alive && t.rate == .r115200) := by decide +kernel

/-- R41, R46: the head of an abort that finds no slot in the reset work raises UNRECORDED, and one that finds a slot is
stamped onto EXCEPTION. -/
theorem test_reset_work :
    let s (reserve : Nat) : State := { clocked.setVisit 7 { visit7 with state := .aborting, abort := some ⟨false, 2⟩ } with
      rst := true, reserve, cc := { clocked.cc with keep := true } }
    after (.lineReset .rstReleased ⟨false, false⟩) (s 255) (fun t => t.store.chain .exception == [0] &&
      !hasFlag (t.link .office).flags .unrecorded) ∧
      after (.lineReset .rstReleased ⟨false, false⟩) (s 1024) (fun t => t.store.chain .exception == [] &&
        (t.visit 7).state == .free && hasFlag (t.link .office).flags .unrecorded) := by decide +kernel

theorem test_witness_replies :
    let s (f : Bool) := cold.setLink .gate { Link.reset with bufA := .replying [1] f }
    let u := cold.setLink .gate { Link.reset with bufB := .replying [1] false }
    (s true).alive = true ∧ ((s true).link .gate).replying = some ([1], true) ∧
      BitRate.ofStraps (Straps.mk false false).rate1 (Straps.mk false false).rate0 = (s true).rate ∧ ((s false).link .gate).bufA = .replying [1] false ∧
      (u.link .gate).bufB = .replying [1] false ∧ (u.link .gate).bufA.busy = false := by decide +kernel

theorem test_witness_supplies :
    cold.power = .main ∧ { cold with rst := true }.alive = false ∧
      { cold with power := .backup }.alive = false ∧ after .mainSupplyLoss cold (fun t => t.power == .backup) ∧
      after .backupSupplyLoss cold (fun t => t.power == .lost) := by decide +kernel

theorem test_witness_characters :
    let s := cold.setLink .gate { Link.reset with rx := .ready }
    cold.alive = true ∧ (s.link .gate).rx = .ready ∧
      after (.telegramStart .gate ⟨0, false⟩) s (fun t => (t.link .gate).rx == .receiving) ∧
      after (.gap .gate) cold (fun t => (t.link .gate).rx == .ready) := by decide +kernel

/-- One NOTE_READ in telegram 7: 13 bytes from the length on (11.6). -/
def one : Telegram := ⟨7, [⟨36, 3, 0, 0, 0, []⟩]⟩

theorem test_witness_telegrams :
    let s := cold.setLink .gate { Link.reset with rx := .ready }
    s.alive = true ∧ (s.link .gate).rx = .ready ∧ (s.link .gate).bufA = .empty ∧ one.number < 65536 ∧
      1 ≤ one.items.length ∧ one.items.length ≤ 16 ∧ (∀ i ∈ one.items, i.body.length ≤ 249) ∧
      (putTelegram one).length ≤ 512 ∧ (putTelegram one).head? = some 0 := by decide +kernel

theorem test_witness_telegrams_wait :
    let k : Link := { Link.reset with rx := .ready, bufA := .replying [1] false }
    let s := cold.setLink .gate k
    s.alive = true ∧ (s.link .gate).rx = .ready ∧ (s.link .gate).bufA.busy = true ∧ (s.link .gate).bufB = .empty ∧
      after (.telegramStart .gate ⟨0, false⟩) s (fun t => (t.link .gate).bufB == .filling [0] false) := by
  decide +kernel

theorem test_witness_dropped :
    let s (bs : List Byte) := cold.setLink .gate { Link.reset with rx := .receiving, bufA := .filling bs false }
    let cs : List RxChar := [⟨0, false⟩]
    let short : List Byte := [0, 8, 0, 7, 1, 0, 0]
    let long : List Byte := 2 :: 1 :: List.replicate 509 0
    (s short).alive = true ∧ ((s short).link .gate).filling = some (short, false) ∧ cs ≠ [] ∧
      Link.lengthField (short ++ cs.map RxChar.byte) = some 8 ∧ (short ++ cs.map RxChar.byte).length = 8 ∧
      parseTelegram (short ++ cs.map RxChar.byte) = none ∧
      Link.lengthField (long ++ cs.map RxChar.byte) = some 513 ∧ (long ++ cs.map RxChar.byte).length = 512 := by
  decide +kernel

theorem test_witness_items_decode :
    (Instr.dispatch g 47 65535).wf = true ∧ (Instr.dispatch g 47 65535).head? = some g := by decide +kernel

theorem test_witness_refused_items :
    let s := withItem g (.dispatch g 7 5) cold
    (Instr.dispatch g 7 5).head? = some g ∧ s.nextItem .gate = some (.dispatch g 7 5) ∧
      (s.executing .gate).isSome = true ∧ s.cc.run = .config ∧ configRefuses (Instr.dispatch g 7 5).kind = true ∧
      mayUse .audit (Instr.dispatch a 7 5).kind = false ∧ decodeItem .gate ⟨0, 0, 0, 0, 0, []⟩ = none ∧
      after (.dispatch g 7 5) s (fun t => outcome t .gate == some 17) := by decide +kernel

/-! ### The Time Base -/

theorem test_witness_set_and_adjust_time :
    answers .done ready o (.setTime o 1000 59) ∧ answers .malformed ready o (.setTime o 1000 60) ∧
      answers .ignored clocked o (.setTime o 0 0) ∧ answers .clockUnset ready o (.adjustTime o 300) ∧
      answers .done clocked o (.adjustTime o 300) ∧ answers .doneClamped clocked o (.adjustTime o 301) ∧
      answers .done clocked o (.adjustTime o (-300)) ∧ answers .doneClamped clocked o (.adjustTime o (-301)) := by
  decide +kernel

theorem test_witness_pulses :
    let s (hold : Bool) (n : Nat) (slew : Int) := { clocked with time := { clocked.time with hold, seconds := n, slew } }
    cold.power ≠ .lost ∧ cold.time.set = false ∧ (s true 0 0).time.hold = true ∧ (s false 58 0).time.seconds < 59 ∧
      (s false 59 1).time.seconds = 59 ∧
      after .tbasePulse (s false 59 1) (fun t => t.time.minutes == 1001 && t.time.seconds == 1 && t.time.slew == 0) ∧
      after .minuteEnd (s false 59 (-1)) (fun t => t.time.minutes == 1001 && t.time.seconds == 0 && t.time.hold) ∧
      after .tbasePulse (s true 0 0) (fun t => !t.time.hold && t.time.seconds == 0) := by decide +kernel

theorem test_witness_minutes :
    let s := { clocked with time := { clocked.time with seconds := 59 } }
    s.power ≠ .lost ∧ s.time.atEnd = true ∧ s.time.minutes + 1 < 4294967295 ∧ ClockSound s.time ∧
      after .tbasePulse s (fun t => t.time.minutes == 1001) :=
  ⟨by decide, by decide, by decide, ⟨by decide, by decide, by decide⟩, by decide⟩

theorem test_witness_clearances_lapse :
    let x := { visit7 with state := .cleared, clearance := some ⟨12, 1001⟩ }
    let s := { clocked.setVisit 7 x with time := { clocked.time with events := [1001] } }
    let u := granting .expiry (.stamped 7 .lapsed none)
      { placed (.pend 7) (.logHead head7) (inState .lapsing) with logs := { LogUnit.cold with lapses := [7] } }
    s.alive = true ∧ s.time.events = [1001] ∧
      after .minuteEvent s (fun t => (t.visit 7).state == .lapsing && t.logs.lapses == [7] &&
        t.request .expiry == some (.stamped 7 .lapsed none)) ∧
      grants u .expiry (.stamped 7 .lapsed none) ∧ (u.visit 7).state = .lapsing ∧ u.logs.lapses = [7] ∧
      after .stampedSplice u (fun t => (t.visit 7).state == .loaded && (t.visit 7).lapsed && t.logs.seqs == 1 &&
        (t.store.desc .exception).count == 1 && hasFlag (t.link .gate).flags .clearanceLapsed) := by decide +kernel

/-! ### Setup -/

theorem test_witness_reports :
    let s (w : Option Ask) (p : Phase) := checking { check7 with phase := p, ask := w }
    (s none .judge).checkWaits check7 = false ∧
      (s (some .verdict) .judge).checkWaits { check7 with ask := some .verdict } = true ∧
      ((s none .judge).visit check7.visit).state = .checking ∧ Phase.build ≠ .read ∧ Phase.build ≠ .judge ∧
      (s none .build).dcu.check = some { check7 with phase := .build } ∧
      ((s none .judge).report (some 7)).dcu.check = none ∧
      (((s (some .verdict) .read).report none).dcu.check.map Check.stale) = some true := by decide +kernel

theorem test_witness_rules_load :
    answers .done ready o (.rulesLoad o defaultRules) ∧
      answers .doneClamped ready o (.rulesLoad o { defaultRules with b := 121 }) ∧
      answers .doneClamped ready o (.rulesLoad o { defaultRules with f := 31 }) ∧
      answers .locked locked o (.rulesLoad o defaultRules) := by decide +kernel

theorem test_witness_class_table :
    answers .done ready o (.bandLoad o 15 10000 15 100 1000 true) ∧
      answers .doneClamped ready o (.bandLoad o 0 1 0 101 0 true) ∧
      answers .doneClamped ready o (.bandLoad o 0 1 0 0 1001 true) ∧
      answers .malformed ready o (.bandLoad o 0 10001 0 0 0 true) ∧
      answers .malformed ready o (.bandLoad o 0 1 16 0 0 true) ∧
      answers .malformed ready o (.bandLoad o 16 1 0 0 0 true) ∧ answers .locked locked o (.bandLoad o 0 1 0 0 0 true) ∧
      answers .done ready o (.segLoad o 15 0 1) ∧ answers .malformed ready o (.segLoad o 16 0 1) ∧
      answers .malformed ready o (.segLoad o 0 16 1) ∧ answers .malformed ready o (.segLoad o 0 0 2) ∧
      answers .locked locked o (.segLoad o 0 0 0) ∧ answers .done ready o (.chunkSize o 8) ∧
      answers .done ready o (.chunkSize o 1) ∧ answers .malformed ready o (.chunkSize o 0) ∧
      answers .malformed ready o (.chunkSize o 9) ∧ answers .locked locked o (.chunkSize o 8) := by decide +kernel

/-- R64's runs: bands 0, 1 and 2 with limits 100, 50 and 200 cover 0 to 99, nothing, and 100 to 199. -/
theorem test_bands :
    let t := { ClassTable.cold with bands := tableOf 16 fun n =>
      (⟨if n = 0 then 100 else if n = 1 then 50 else if n = 2 then 200 else 0, n, 0, 0, false⟩ : Band) }
    t.lookup 99 = .band 0 ⟨100, 0, 0, 0, false⟩ ∧ t.lookup 100 = .band 2 ⟨200, 2, 0, 0, false⟩ ∧
      t.lookup 200 = .unclassified ∧ t.coverage 1 = none ∧ t.coverage 2 = some (100, 199) := by decide +kernel

theorem test_witness_service :
    let s := withJob .office .serviceLoad (granting .p0 (.serviceTable defaultService) ready)
    asks (.serviceTable defaultService) ready o (.serviceLoad o [1, 2, 4, 0, 1, 2, 4, 6, 3, 5]) ∧
      asks (.serviceTable Requester.all) ready o (.serviceLoad o [0, 1, 2, 3, 4, 5, 6]) ∧
      answers .malformed ready o (.serviceLoad o []) ∧
      answers .malformed ready o (.serviceLoad o (List.replicate 33 0)) ∧
      answers .malformed ready o (.serviceLoad o [0, 1, 2, 3, 4, 5, 7]) ∧
      answers .tableInvalid ready o (.serviceLoad o [0, 1, 2, 3, 4, 5]) ∧
      grants s .p0 (.serviceTable defaultService) ∧ s.job .office = some .serviceLoad ∧
      after .serviceTableGrant s (fun t => t.service == defaultService && t.index == 0) := by decide +kernel

theorem test_witness_settings :
    answers .done ready o (.settings o (some 0) none none) ∧ answers .done ready o (.settings o none (some 60) none) ∧
      answers .done ready o (.settings o none none (some 255)) ∧
      answers .malformed ready o (.settings o none (some 61) none) ∧
      answers .malformed ready o (.settings o none (some 0) none) ∧
      answers .malformed ready o (.settings o none none (some 0)) ∧
      answers .malformed ready o (.settings o none none none) := by decide +kernel

theorem test_witness_configuration :
    let named := { cold with cc := { Control.cold with identity := some 5 } }
    let label : List Byte := List.replicate 16 65
    let banded := { cold with classes := { ClassTable.cold with bands := Vector.replicate 16 ⟨1, 0, 0, 0, false⟩ } }
    answers .done cold o (.identWrite o (some 5) none) ∧ answers .ignored named o (.identWrite o (some 6) none) ∧
      answers .donePartial named o (.identWrite o (some 6) (some label)) ∧
      answers .malformed cold o (.identWrite o none none) ∧ answers .malformed cold o (.identWrite o (some 0) none) ∧
      answers .tableInvalid cold o (.start o) ∧ answers .done banded o (.start o) ∧ answers .already ready o (.start o) ∧
      answers .tableInvalid cold o (.lock o) ∧ answers .done banded o (.lock o) ∧ answers .already locked o (.lock o) ∧
      answers .done cold o (.keep o) ∧
      answers .already { cold with cc := { Control.cold with keep := true } } o (.keep o) ∧
      answers .done cold o (.restart o) := by decide +kernel

theorem test_witness_readers :
    answers .done cold a (.noteRead a) ∧ answers .done cold a (.identRead a) ∧ answers .done cold a (.sweepRead a) ∧
      answers .done cold a (.driverRead a 0 77) ∧ answers .malformed cold a (.driverRead a 0 0) ∧
      answers .done cold a (.driverRead a 1 255) ∧ answers .malformed cold a (.driverRead a 1 256) ∧
      answers .malformed cold a (.driverRead a 2 0) ∧ answers .done cold g (.visitRead g 47 false) ∧
      answers .malformed cold g (.visitRead g 48 false) ∧ answers .done cold g (.noteClear g 0xFFFF (some 0xFFFF)) := by
  decide +kernel

/-- R196: ATTENTION follows the flag and its mask position, and an asserted RST makes it low. -/
theorem test_witness_attention :
    let s := cold.setLink .gate { Link.reset with flags := Flag.checkDone.bit, mask := Flag.checkDone.bit }
    s.alive = true ∧ FlagsCarried s ∧ s.attention .gate = true ∧ { s with rst := true }.attention .gate = false := by
  refine ⟨by decide, fun l => ?_, by decide, by decide⟩
  cases l <;> decide

/-- R118, R125: ten minutes into a break at B 30 and F 10, a credit of 5 becomes 15 with the case FRAGMENT (2); the
effective figures are day 100, continuous 50, credit 15 and span start 800. -/
theorem test_driver_read :
    let s := clocked.setDriver 3 (some { driver77 with activity := .onBreak, breakStart := some 990 })
    (s.driverReport (some 3)).drop 42 = [1, 0, 100, 0, 50, 15, 0, 0, 0x03, 0x20, 2] ∧
      (clocked.driverReport none).take 3 = [0, 0, 1] ∧ (s.driverReport (some 3)).take 3 = [1, 3, 0] := by decide +kernel

/-! ### Papers -/

theorem test_witness_paper_open :
    let s := inState .arrived
    answers .done s o (.paperOpen o 7 5 44 1440 (some 1440) (some 16) false) ∧
      answers .doneClamped s o (.paperOpen o 7 5 44 1441 none none false) ∧
      answers .doneClamped s o (.paperOpen o 7 5 44 0 none none false) ∧
      answers .doneClamped s o (.paperOpen o 7 5 44 100 (some 99) none false) ∧
      answers .doneClamped s o (.paperOpen o 7 5 44 100 none (some 17) false) ∧
      answers .malformed s o (.paperOpen o 48 5 44 1 none none false) ∧
      answers .staleVisit s o (.paperOpen o 7 6 44 1 none none false) ∧
      answers .busy (inState .lapsing) o (.paperOpen o 7 5 44 1 none none false) ∧
      answers .state (inState .cleared) o (.paperOpen o 7 5 44 1 none none false) ∧
      answers .paperPresent opened o (.paperOpen o 7 5 44 1 none none false) ∧
      asks (.splice (.paper 7) .free) opened o (.paperOpen o 7 5 44 1 none none true) ∧
      answers .busy (checking { check7 with phase := .build }) o (.paperOpen o 7 5 44 1 none none false) := by
  decide +kernel

theorem test_witness_paper_lines :
    let l : PaperLine := ⟨1, 9999, 500⟩
    let full := clocked.setVisit 7 { opened.visit 7 with accepted := 2 }
    asks (.alloc (.paper 7) .bounded (.paperLine l)) opened o (.paperLines o 7 5 [l]) ∧
      answers .done opened o (.paperLines o 7 5 []) ∧ answers .donePartial full o (.paperLines o 7 5 [l]) ∧
      answers .malformed opened o (.paperLines o 7 5 [l, l, l, l, l]) ∧
      answers .malformed opened o (.paperLines o 7 5 (List.replicate 9 l)) ∧
      answers .malformed opened o (.paperLines o 7 5 [⟨1, 10000, 500⟩]) ∧
      answers .malformed opened o (.paperLines o 48 5 [l]) ∧ answers .staleVisit opened o (.paperLines o 7 4 [l]) ∧
      answers .busy (inState .aborting) o (.paperLines o 7 5 [l]) ∧
      answers .state (inState .arrived) o (.paperLines o 7 5 [l]) := by decide +kernel

theorem test_witness_paper_grants :
    let l : PaperLine := ⟨1, 1203, 500⟩
    let s (left : List PaperLine) :=
      granting .p0 (.alloc (.paper 7) .bounded (.paperLine l)) (withJob .office (.paperLines 7 5 left 0 0 true) opened)
    let u := granting .p0 (.splice (.paper 7) .free) (withJob .office (.paperOpen 7 5 false) opened)
    grants (s []) .p0 (.alloc (.paper 7) .bounded (.paperLine l)) ∧
      (s []).job .office = some (.paperLines 7 5 [] 0 0 true) ∧ ((s []).visit 7).tag = 5 ∧
      ((s []).visit 7).state ≠ .aborting ∧ { s [] with reserve := 1024 }.store.freeCount ≤ 1024 ∧
      (s []).reserve < (s []).store.freeCount ∧ ((s []).store.allocate (.paper 7) (.paperLine l)).isSome = true ∧
      grants u .p0 (.splice (.paper 7) .free) ∧ u.job .office = some (.paperOpen 7 5 false) ∧
      after .allocation (s [l]) (fun t => (t.visit 7).accepted == 1 && (t.visit 7).paperState == .opened) ∧
      after .allocation (s []) (fun t => (t.visit 7).accepted == 1 && (t.visit 7).paperState == .short &&
        hasFlag (t.link .office).flags .paperClosed) := by decide +kernel

theorem test_witness_paper_cut_short :
    let l : PaperLine := ⟨1, 1203, 500⟩
    let x := { opened.visit 7 with state := .aborting, abort := some ⟨false, 0⟩ }
    let s := granting .p0 (.alloc (.paper 7) .bounded (.paperLine l)) (withJob .gate (.abort 7 none)
      (withJob .office (.paperLines 7 5 [l] 0 0 true) (clocked.setVisit 7 x)))
    let u := granting .p0 (.splice (.paper 7) .free) (withJob .office (.paperOpen 7 4 false) opened)
    grants s .p0 (.alloc (.paper 7) .bounded (.paperLine l)) ∧ s.job .office = some (.paperLines 7 5 [l] 0 0 true) ∧
      (s.visit 7).state = .aborting ∧ (s.store.allocate (.paper 7) (.paperLine l)).isSome = true ∧
      s.reserve < s.store.freeCount ∧ { s with reserve := 1024 }.store.freeCount ≤ 1024 ∧
      grants u .p0 (.splice (.paper 7) .free) ∧ u.job .office = some (.paperOpen 7 4 false) ∧ (u.visit 7).tag ≠ 4 ∧
      after .allocation s (fun t => (t.visit 7).accepted == 0 && t.request .p2 == some (.splice (.comp 7) .free) &&
        t.request .p0 == none) := by decide +kernel

theorem test_witness_paper_states :
    let x (accepted : Nat) (expected : Option Nat) : Visit :=
      { visit7 with paper := some { paper7 with expected }, accepted }
    State.paperAfter (x 2 (some 2)) 1 true = .truncated ∧ State.paperAfter (x 2 (some 2)) 0 false = .complete ∧
      State.paperAfter (x 1 (some 2)) 0 true = .short ∧ State.paperAfter (x 1 none) 0 true = .complete ∧
      State.paperAfter (x 1 none) 0 false = .opened := by decide +kernel

/-! ### Bays and fills -/

theorem test_witness_bay_items :
    let atLoading := loading.setVisit 7 { visit7 with state := .loading, bay := some 0 }
    asks (.read (.comp 7) none) (inState .arrived) b (.bayAssign b 7 5 16) ∧
      asks (.read (.comp 7) none) (inState .held) b (.bayAssign b 7 5 1) ∧
      answers .malformed (inState .arrived) b (.bayAssign b 7 5 0) ∧
      answers .malformed (inState .arrived) b (.bayAssign b 7 5 17) ∧
      answers .malformed (inState .arrived) b (.bayAssign b 48 5 1) ∧
      answers .staleVisit (inState .arrived) b (.bayAssign b 7 4 1) ∧
      answers .busy (inState .releasing) b (.bayAssign b 7 5 1) ∧ answers .state (inState .loaded) b (.bayAssign b 7 5 1) ∧
      answers .bayBusy ((inState .arrived).setWindow 0 (some window7)) b (.bayAssign b 7 5 1) ∧
      answers .done loading b (.bayRelease b 1) ∧ answers .notMapped loading b (.bayRelease b 16) ∧
      answers .malformed loading b (.bayRelease b 0) ∧ answers .state atLoading b (.bayRelease b 1) ∧
      answers .done atLoading b (.loadEnd b 1) ∧ answers .notMapped loading b (.loadEnd b 2) ∧
      answers .malformed loading b (.loadEnd b 17) ∧ answers .state loading b (.loadEnd b 1) := by decide +kernel

theorem test_witness_bay_preparations :
    let s := placed (.comp 7) (.compartment comp1) loading
    let r := granting .p1 (.read (.comp 7) none) (withJob .loading (.bayRead 0 7 5) s)
    let w := granting .p1 (.write (.comp 7) slot0 (.prepare 0)) (withJob .loading (.bayWrite 0 7 5 1 slot0 none) s)
    grants r .p1 (.read (.comp 7) none) ∧ r.job .loading = some (.bayRead 0 7 5) ∧
      r.store.read (.comp 7) none = .slot slot0 (.compartment comp1) none ∧ r.window 0 = some window7 ∧
      (r.setWindow 0 none).window 0 = none ∧ grants w .p1 (.write (.comp 7) slot0 (.prepare 0)) ∧
      w.job .loading = some (.bayWrite 0 7 5 1 slot0 none) ∧
      (w.store.write w.now (.comp 7) slot0 (.prepare 0)).isSome = true ∧
      after .slotRead r (fun t => t.request .p1 == some (.write (.comp 7) slot0 (.prepare 0))) := by decide +kernel

theorem test_witness_fill :
    asks (.read (.comp 7) (some slot0)) loading b (.fill b 1 1 9999 65535) ∧
      answers .malformed loading b (.fill b 1 1 10000 0) ∧ answers .malformed loading b (.fill b 0 1 0 0) ∧
      answers .notMapped loading b (.fill b 16 1 0 0) ∧ answers .notMapped loading b (.fill b 1 2 0 0) ∧
      answers .notMapped loading b (.fill b 1 0 0 0) ∧
      answers .notMapped (loading.setWindow 0 (some { window7 with access := .read })) b (.fill b 1 1 0 0) := by
  decide +kernel

theorem test_witness_fill_grants :
    let s (c : Compartment) := placed (.comp 7) (.compartment c) loading
    let r (c : Compartment) := granting .p1 (.read (.comp 7) (some slot0))
      (withJob .loading (.fillRead 0 7 5 slot0 1203 501) (s c))
    let f : WriteFields := .fill 501 1203 1 501 true false
    let w := granting .p1 (.write (.comp 7) slot0 f) (withJob .loading (.fillWrite 7 501 true false) (s comp1))
    let mixed := { comp1 with product := some 1202, net := 1 }
    grants (r comp1) .p1 (.read (.comp 7) (some slot0)) ∧
      (r comp1).job .loading = some (.fillRead 0 7 5 slot0 1203 501) ∧
      (r comp1).store.read (.comp 7) (some slot0) = .slot slot0 (.compartment comp1) none ∧
      cold.store.read (.comp 7) (some slot0) = .moved ∧ (r comp1).window 0 = some window7 ∧
      after .slotRead (r comp1) (fun t => t.request .p1 == some (.write (.comp 7) slot0 f)) ∧
      after .slotRead (r mixed) (fun t => t.request .p1 == none) ∧
      grants w .p1 (.write (.comp 7) slot0 f) ∧ w.job .loading = some (.fillWrite 7 501 true false) ∧
      (w.store.slot 0).owner = .comp 7 ∧ (w.store.slot 0).alloc = 1 ∧ (w.store.slot 0).record = .compartment comp1 ∧
      (cold.store.slot 0).owner ≠ .comp 7 ∧
      after .slotWrite w (fun t => (t.visit 7).state == .loading && (t.store.slot 0).record ==
        .compartment { comp1 with
          net := 501, product := some 1203, fills := 1, figure := some 501, overfull := true, lastFill := some 1000 }) := by
  decide +kernel

/-! ### Arrivals and drivers -/

def figs : Figures := ⟨100, 50, 200, 30, 5⟩
def left77 : Driver :=
  { driver77 with activity := .absent, lastDeparture := some 1000, linked := none, floors := some ⟨100, 50, 200⟩ }

theorem test_witness_arrive :
    let fresh (c : Option Nat) : Request := .alloc (.comp 0) .bounded (.compartment { comp1 with capacity := c })
    let eight : List (Option Nat) := List.replicate 8 (some 1)
    let full := { clocked with visits := Vector.replicate 48 { visit7 with state := .loaded } }
    let crowded := { clocked with drivers := Vector.replicate 256 (some { left77 with card := 5 }) }
    asks (fresh (some 1)) { clocked with reserve := 1016 } g (.arrive g 9 77 figs none eight) ∧
      asks (fresh none) (clocked.setDriver 3 (some left77)) g (.arrive g 9 77 figs (some ⟨78, figs⟩) [none]) ∧
      answers .clockUnset ready g (.arrive g 9 77 figs none eight) ∧
      answers .malformed clocked g (.arrive g 0 77 figs none eight) ∧
      answers .malformed clocked g (.arrive g 9 0 figs none eight) ∧
      answers .malformed clocked g (.arrive g 9 77 figs (some ⟨0, figs⟩) eight) ∧
      answers .malformed clocked g (.arrive g 9 77 figs (some ⟨77, figs⟩) eight) ∧
      answers .malformed clocked g (.arrive g 9 77 figs none []) ∧
      answers .malformed clocked g (.arrive g 9 77 figs none (none :: eight)) ∧
      answers .malformed clocked g (.arrive g 9 77 figs none [some 0]) ∧
      answers .visitsFull full g (.arrive g 9 77 figs none eight) ∧
      answers .driverOnSite (clocked.setDriver 3 (some driver77)) g (.arrive g 9 77 figs none eight) ∧
      answers .driversFull crowded g (.arrive g 9 77 figs none eight) ∧
      answers .storeFull { clocked with reserve := 1017 } g (.arrive g 9 77 figs none eight) := by decide +kernel

theorem test_witness_arrivals_complete :
    let w (left : List (Option Nat)) : ArriveWork := ⟨figs, none, left, 1, 1000, 10080⟩
    let s (left : List (Option Nat)) := granting .p2 (.alloc (.comp 7) .bounded (.compartment comp1))
      (withJob .gate (.arrive 7 (w left)) (clocked.setVisit 7 { visit7 with state := .arrived, arrivalMark := true }))
    let u := granting .p2 (.splice (.comp 7) .free) (withJob .gate (.arriveUndo 7)
      (clocked.setVisit 7 { visit7 with state := .arrived, arrivalMark := true }))
    grants (s []) .p2 (.alloc (.comp 7) .bounded (.compartment comp1)) ∧ ((s []).visit 7).arrival = visit7.arrival ∧
      (Record.compartment comp1).isHead = false ∧ (s []).job .gate = some (.arrive 7 (w [])) ∧
      (s []).reserve < (s []).store.freeCount ∧ { s [] with reserve := 1024 }.store.freeCount ≤ 1024 ∧
      ((s []).store.allocate (.comp 7) (.compartment comp1)).isSome = true ∧
      grants u .p2 (.splice (.comp 7) .free) ∧ u.job .gate = some (.arriveUndo 7) ∧ (u.visit 7).state = .arrived ∧
      after .allocation (s []) (fun t => !(t.visit 7).arrivalMark && (t.driver 0).map Driver.card == some 77 &&
        (t.driver 0).map Driver.spanStart == some 970) ∧
      after .allocation (s [some 3]) (fun t => t.request .p2 ==
        some (.alloc (.comp 7) .bounded (.compartment { comp1 with number := 2, capacity := some 3 }))) ∧
      after .wholeListSplice u (fun t => (t.visit 7).state == .free && (t.visit 7).tag == 5) := by decide +kernel

/-- R111 and R112 with floors of 100, 50 and 200: declared 90, 60 and 150 become 100, 60 and 200, and a span start of
970 is kept back at 800. Beyond the limit of the span the declaration stands. -/
theorem test_witness_admissions :
    let f : Figures := ⟨90, 60, 150, 30, 40⟩
    let x (n : Nat) := (admission defaultRules n 7 77 f (some left77)).entry
    left77.floors = some ⟨100, 50, 200⟩ ∧ 1609 - left77.spanStart < defaultRules.lSpan ∧
      defaultRules.lSpan ≤ 1610 - left77.spanStart ∧
      ((x 1000).day, (x 1000).cont, (x 1000).week, (x 1000).spanStart, (x 1000).credit) = (100, 60, 200, 800, 29) ∧
      ((x 1610).day, (x 1610).cont, (x 1610).week, (x 1610).spanStart, (x 1610).floors) = (90, 60, 150, 1580, none) := by
  decide +kernel

theorem test_witness_entries :
    let w : ArriveWork := ⟨figs, none, [], 1, 11080, 10080⟩
    let at_ (s : State) := { s with time := { s.time with minutes := 11080 } }
    let entry (n : Nat) : Option Driver :=
      some { left77 with card := n + 1, lastDeparture := some (if n = 200 then 999 else 1000) }
    let full := at_ { clocked with drivers := tableOf 256 entry }
    w.reclaim = full.rules.reclaim ∧ w.minute = full.time.minutes ∧ full.entryOf 256 = some 255 ∧
      full.entryFor w [256] 256 = some 255 ∧ full.entryOf 300 = none ∧ full.entryFor w [300] 300 = some 200 ∧
      (at_ clocked).driver 0 = none ∧ (at_ clocked).entryFor w [300] 300 = some 0 := by decide +kernel

/-- R113, R114: a card is admitted over its own entry, whose floors raise the 0 it declares, and over nothing of the entry
of another card. -/
theorem test_witness_admitted :
    let w : ArriveWork := ⟨figs, none, [], 1, 1000, 10080⟩
    let s := clocked.setDriver 3 (some left77)
    let own := s.admitDriver w [77] 7 77 ⟨0, 0, 0, 0, 0⟩
    let fresh := s.admitDriver w [78] 7 78 ⟨0, 0, 0, 0, 0⟩
    s.entryFor w [77] 77 = some 3 ∧ s.driver 3 = some left77 ∧ left77.card = 77 ∧ s.entryFor w [78] 78 = some 0 ∧
      s.driver 0 = none ∧ (own.1.driver 3).map Driver.week = some 200 ∧ own.1.driver 0 = none ∧
      (fresh.1.driver 0).map Driver.card = some 78 ∧ (fresh.1.driver 0).map Driver.week = some 0 ∧
      fresh.1.driver 3 = some left77 := by decide +kernel

theorem test_witness_breaks :
    let s (d : Driver) := clocked.setDriver 3 (some d)
    let broken (m credit : Nat) : Driver := { driver77 with activity := .onBreak, breakStart := some m, credit }
    answers .done (s driver77) g (.breakStart g 77) ∧ answers .malformed (s driver77) g (.breakStart g 0) ∧
      answers .state (s driver77) g (.breakStart g 78) ∧ answers .state (s left77) g (.breakStart g 77) ∧
      answers .already (s (broken 990 5)) g (.breakStart g 77) ∧ answers .done (s (broken 990 5)) g (.breakEnd g 77) ∧
      answers .malformed (s driver77) g (.breakEnd g 0) ∧ answers .state (s driver77) g (.breakEnd g 78) ∧
      answers .state (s left77) g (.breakEnd g 77) ∧ answers .already (s driver77) g (.breakEnd g 77) ∧
      (s (broken 990 5)).entryOf 77 = some 3 ∧ (broken 990 5).linked = some 7 ∧ (broken 990 5).breakStart = some 990 ∧
      ([(340, 5), (341, 5), (975, 5), (976, 5), (990, 5), (991, 5)].map fun x =>
          let d := (broken x.1 x.2).endBreak defaultRules 1000
          (d.day, d.cont, d.credit, d.spanStart)) =
        [(0, 0, 0, 1000), (100, 0, 0, 800), (100, 0, 0, 800), (100, 50, 29, 800), (100, 50, 15, 800),
          (100, 50, 5, 800)] := by decide +kernel

/-- R121 with 50 minutes driven of a limit of 300: 250 minutes more reach the limit, 251 take one break on the road
and leave 1, 551 take two. R122: a crew's member drives half, rounded up. -/
theorem test_witness_commits :
    driver77.activity ≠ .absent ∧
      ([250, 251, 550, 551].map fun p => (driver77.depart defaultRules 1000 p false).cont) = [300, 1, 300, 1] ∧
      (driver77.depart defaultRules 1000 101 true).cont = 101 ∧
      (driver77.depart defaultRules 1000 101 true).floors = some ⟨100, 50, 200⟩ := by decide +kernel

theorem test_witness_rules_ranged : RulesRanged defaultRules := by constructor <;> decide

theorem test_witness_driver_sound : driver77.Sound defaultRules :=
  ⟨by unfold FiguresOrdered; decide, fun _ h => (nomatch h), by decide, by decide, by decide⟩

def onSite : State := (inState .cleared).setDriver 3 (some driver77)

theorem onSite_driver (e : EntryNo) : onSite.driver e = if 3 = e then some driver77 else none := by
  unfold onSite State.setDriver State.driver
  rw [tget_tset]
  split
  · rfl
  · exact tget_replicate (n := 256) none e

/-- The premises of the commit of a visit: the driver of visit 7 is on site, and it has no co-driver. -/
theorem test_witness_trip : DriversSound onSite ∧ (onSite.visit 7).arrival = some ⟨9, 77, none, 1, 900⟩ ∧
    (none : Option Nat) ≠ some 77 := by
  refine ⟨⟨test_witness_rules_ranged, fun e d h => ?_, fun e f d k he hf _ => ?_⟩, by decide +kernel, by decide⟩
  · rw [onSite_driver] at h
    split at h
    · exact Option.some.inj h ▸ test_witness_driver_sound
    · exact nomatch h
  · rw [onSite_driver] at he hf
    split at he
    · split at hf
      · rename_i h1 h2; exact h1.symm.trans h2
      · exact nomatch hf
    · exact nomatch he

/-! ### Dispatch, release and abort -/

theorem test_witness_dispatch :
    let queue (n : Nat) (s : State) := s.setDcu ⟨(List.finRange 48).take n, none⟩
    answers .done (queue 7 (inState .loaded)) g (.dispatch g 7 5) ∧ answers .done (inState .held) g (.dispatch g 7 5) ∧
      answers .queueFull (queue 8 (inState .loaded)) g (.dispatch g 7 5) ∧
      answers .already (queue 8 (inState .queued)) g (.dispatch g 7 5) ∧ (7 : VisitNo) ∈ (queue 8 cold).dcu.queue ∧
      answers .already (inState .checking) g (.dispatch g 7 5) ∧ answers .state (inState .cleared) g (.dispatch g 7 5) ∧
      answers .malformed (inState .loaded) g (.dispatch g 48 5) ∧
      answers .staleVisit (inState .loaded) g (.dispatch g 7 6) ∧
      answers .busy (inState .releasing) g (.dispatch g 7 5) := by decide +kernel

theorem test_witness_gate_passed :
    let s := (inState .cleared).setVisit 7 { visit7 with state := .cleared, clearance := some ⟨65535, 1010⟩ }
    let lapsed := clocked.setVisit 7 { visit7 with state := .loaded, lapsed := true }
    asks (.splice (.comp 7) .free) s g (.gatePassed g 7 5 65535) ∧ answers .badCode s g (.gatePassed g 7 5 65534) ∧
      answers .badCode s g (.gatePassed g 7 5 0) ∧ answers .malformed s g (.gatePassed g 48 5 65535) ∧
      answers .staleVisit s g (.gatePassed g 7 6 65535) ∧ answers .late lapsed g (.gatePassed g 7 5 65535) ∧
      answers .late (inState .lapsing) g (.gatePassed g 7 5 65535) ∧
      answers .busy (inState .aborting) g (.gatePassed g 7 5 65535) ∧
      answers .state (inState .loaded) g (.gatePassed g 7 5 65535) := by decide +kernel

theorem test_witness_releases :
    let s (r : Request) := granting .p2 r (withJob .gate (.release 7)
      (clocked.setVisit 7 { visit7 with state := .releasing, passMinute := some 1000 }))
    let q : Request := .stamped 7 .released (some 1000)
    let u := placed (.pend 7) (.logHead head7) (s q)
    (s q).job .gate = some (.release 7) ∧ ((s q).visit 7).state = .releasing ∧
      grants (s (.splice (.comp 7) .free)) .p2 (.splice (.comp 7) .free) ∧
      grants (s (.splice (.paper 7) .free)) .p2 (.splice (.paper 7) .free) ∧ grants u .p2 q ∧
      after .wholeListSplice (s (.splice (.comp 7) .free)) (fun t => t.request .p2 == some (.splice (.paper 7) .free)) ∧
      after .wholeListSplice (s (.splice (.paper 7) .free)) (fun t => t.request .p2 == some q) ∧
      after .stampedSplice u (fun t => (t.visit 7).state == .free && t.store.logRecords == 1 &&
        hasFlag (t.link .office).flags .logReady) := by decide +kernel

theorem test_witness_visit_abort :
    let c := checking check7
    let waiting := checking { check7 with ask := some .verdict }
    asks (.splice (.comp 7) .free) (inState .loaded) o (.visitAbort o 7 5) ∧
      asks (.stamped 7 .aborted none) (inState .cleared) g (.visitAbort g 7 5) ∧
      asks (.splice (.comp 7) .free) c g (.visitAbort g 7 5) ∧ takes waiting g (.visitAbort g 7 5) ∧
      after (.visitAbort g 7 5) (withItem g (.visitAbort g 7 5) waiting) (fun t => t.request .p2 == none &&
        t.dcu.check.map Check.phase == some .abandon && (t.visit 7).state == .aborting) ∧
      answers .malformed (inState .loaded) o (.visitAbort o 48 5) ∧
      answers .staleVisit (inState .loaded) o (.visitAbort o 7 6) ∧
      answers .busy (inState .releasing) o (.visitAbort o 7 5) ∧ answers .state (inState .free) o (.visitAbort o 7 5) := by
  decide +kernel

theorem test_witness_aborts :
    let s (cleared : Bool) (n : Nat) (r : Request) := granting .p2 r (withJob .gate (.abort 7 none)
      (clocked.setVisit 7 { visit7 with state := .aborting, abort := some ⟨cleared, n⟩ }))
    let head := abortHead 7 visit7
    let alloc := s false 3 (.alloc (.pend 7) .bounded head)
    let stamped := s true 0 (.stamped 7 .aborted none)
    alloc.job .gate = some (.abort 7 none) ∧ (alloc.visit 7).state = .aborting ∧
      (alloc.visit 7).abort = some ⟨false, 3⟩ ∧ grants alloc .p2 (.alloc (.pend 7) .bounded head) ∧
      alloc.allocRefused (.pend 7) .bounded head = false ∧ (alloc.store.allocate (.pend 7) head).isSome = true ∧
      { alloc with reserve := 1024 }.allocRefused (.pend 7) .bounded head = true ∧
      grants stamped .p2 (.stamped 7 .aborted none) ∧ (stamped.visit 7).abort = some ⟨true, 0⟩ ∧
      after .wholeListSplice (s false 2 (.splice (.pend 7) .free)) (fun t =>
        t.request .p2 == some (.alloc (.pend 7) .bounded head)) ∧
      after .allocation alloc (fun t => t.request .p2 == some (.stamped 7 .aborted none)) ∧
      after .allocation { alloc with reserve := 1024 } (fun t => (t.visit 7).state == .free &&
        hasFlag (t.link .office).flags .unrecorded) ∧
      after .stampedSplice stamped (fun t => t.request .p2 == some (.splice (.comp 7) .free)) ∧
      after .wholeListSplice (s true 2 (.splice (.paper 7) .free)) (fun t => (t.visit 7).state == .free) := by
  decide +kernel

/-! ### The Record Store -/

theorem test_witness_turns :
    let s := granting .p0 (.read .log none) cold
    let skip := { s with service := [.p1, .p0] }
    skip.alive = true ∧ skip.service[skip.index]? = some .p1 ∧ skip.request .p1 = none ∧ skip.request .p0 ≠ none ∧
      [Requester.p0, .p1, .p2, .p3, .check, .sweep, .expiry].all (fun p => cold.request p == none) ∧
      grants s .p0 (.read .log none) ∧ after .serviceTurn skip (fun t => t.index == 1) ∧
      after .slotRead { skip with index := 1 } (fun t => t.index == 0 && t.request .p0 == none) := by decide +kernel

theorem placed_whole {s : State} {l : ListId} (w : s.store.Whole) (h : l ≠ .free) (r : Record) :
    (placed l r s).store.Whole := by
  show ((((s.store.allocate l r).map Prod.fst).getD s.store)).Whole
  rcases Store.allocate_spec w h r with ⟨_, h0⟩ | ⟨i, st, h0, hw, _⟩
  · rw [h0]; exact w
  · rw [h0]; exact hw

/-- Whole lists with records on them: a pending record of a head and a compartment, and one on LOG. -/
def stocked : State :=
  placed .log (.logHead { head7 with seq := some 1, outcome := some .released })
    (placed (.pend 7) (.logComp ⟨1, 1203, 4, 501, none, none, false⟩) (placed (.pend 7) (.logHead head7) clocked))

theorem test_witness_whole : stocked.store.Whole := by
  have h0 : clocked.store.Whole := Store.whole_cold
  have h1 := placed_whole h0 (l := .pend 7) (by decide) (.logHead head7)
  have h2 := placed_whole h1 (l := .pend 7) (by decide) (.logComp ⟨1, 1203, 4, 501, none, none, false⟩)
  exact placed_whole h2 (l := .log) (by decide) (.logHead { head7 with seq := some 1, outcome := some .released })

theorem test_witness_moves :
    let s (p : Requester) (r : Request) := granting p r stocked
    let q : Request := .alloc (.comp 7) .bounded (.compartment comp1)
    grants (s .p2 q) .p2 q ∧ ListId.comp 7 ≠ .free ∧
      ¬ ((stocked.store.desc .free).count ≤ stocked.reserve) ∧
      (stocked.store.desc .free).count ≤ { s .p2 q with reserve := 1021 }.reserve ∧
      grants (s .p0 (.splice (.pend 7) .free)) .p0 (.splice (.pend 7) .free) ∧ ListId.pend 7 ≠ .free ∧
      stocked.store.chain (.pend 7) = [0, 1] ∧
      after .allocation (s .p2 q) (fun t => t.store.chain (.comp 7) == [3] && (t.store.slot 3).alloc == 1) ∧
      after .wholeListSplice (s .p0 (.splice (.pend 7) .free)) (fun t => t.store.chain (.pend 7) == [] &&
        (t.store.desc .free).tail == some 1 && (t.store.slot 1).record == .none) := by decide +kernel

theorem test_witness_record_splices :
    let s (p : Requester) (r : Request) := granting p r stocked
    let up := { s .p2 (.stamped 7 .released (some 1000)) with logs := { stocked.logs with seqs := 1 } }
    grants up .p2 (.stamped 7 .released (some 1000)) ∧ stocked.store.chain (.pend 6) = [] ∧
      grants (s .p0 (.headSplice .log 1)) .p0 (.headSplice .log 1) ∧
      grants (s .p0 (.headSplice .exception 0)) .p0 (.headSplice .exception 0) ∧
      after .stampedSplice up (fun t => t.store.chain .log == [2, 0, 1] && t.logs.seqs == 2 &&
        (t.store.slot 0).record == .logHead { head7 with
          seq := some 2, outcome := some .released, passMinute := some 1000 }) ∧
      after .headSplice (granting .p0 (.headSplice .log 1)
          { stocked with store := (stocked.store.splice (.pend 7) .log) })
        (fun t => t.store.chain .log == [0, 1] && (t.store.slot 2).record == .none) := by decide +kernel

theorem test_witness_reads_and_writes :
    let s (r : Request) := granting .p1 r stocked
    let lost := granting .check (.read (.comp 7) (some slot0)) (checking { check7 with phase := .read })
    let w : Request := .write (.pend 7) slot0 (.complete 1000)
    grants (s (.read (.pend 7) none)) .p1 (.read (.pend 7) none) ∧ grants (s w) .p1 w ∧
      (stocked.store.slot 0).owner = .pend 7 ∧ (stocked.store.slot 0).alloc = 1 ∧ (ListId.pend 7).writable = true ∧
      (stocked.store.slot 0).record = .logHead head7 ∧ (ListId.log).writable = false ∧
      (placed (.comp 7) (.compartment comp1) cold).store.found (.comp 7) slot0 = true ∧
      lost.checkReadLost .moved = true ∧ faults .neverTaken .slotRead lost ∧
      after .slotWrite (s w) (fun t =>
        (t.store.slot 0).record == .logHead { head7 with mark := .complete, clearMinute := some 1000 }) := by
  decide +kernel

theorem test_witness_store_and_visit_reads :
    let s := placed (.comp 7) (.compartment comp1) (inState .arrived)
    let x := s.visit 7
    let counts := granting .p3 (.storeCounts (some 7)) (withJob .audit .storeRead s)
    let walk := granting .p3 (.read (.comp 7) none) (withJob .audit (.visitRead 7 x []) s)
    asks (.storeCounts none) ready a (.storeRead a none) ∧ asks (.storeCounts (some 47)) ready a (.storeRead a (some 47)) ∧
      answers .malformed ready a (.storeRead a (some 48)) ∧ grants counts .p3 (.storeCounts (some 7)) ∧
      counts.job .audit = some .storeRead ∧ asks (.read (.comp 7) none) s a (.visitRead a 7 true) ∧
      answers .done (inState .free) a (.visitRead a 7 true) ∧ grants walk .p3 (.read (.comp 7) none) ∧
      walk.job .audit = some (.visitRead 7 x []) ∧
      s.store.read (.comp 7) none = .slot slot0 (.compartment comp1) none ∧
      s.store.read (.comp 7) (some ⟨0, 2⟩) = .moved ∧ s.store.read (.comp 6) none = .empty ∧
      after .storeCountsGrant counts (fun t => (t.link .audit).replying.isSome) := by decide +kernel

theorem test_witness_takes_and_peeks :
    let g0 : Gather := ⟨.log, 1, 0, [], none, 0⟩
    let one : LogRecord := ⟨{ head7 with seq := some 1, outcome := some .released }, []⟩
    let s (j : Job) (r : Request) := granting .p0 r (withJob .office j stocked)
    let done1 : Gather := { g0 with got := [one], slots := 1 }
    asks (.read .log none) ready o (.logTake o 8) ∧ asks (.read .exception none) ready o (.excTake o 1) ∧
      asks (.read .log none) ready a (.logPeek a 1 8) ∧ asks (.read .exception none) ready a (.excPeek a 0 1) ∧
      answers .malformed ready o (.logTake o 0) ∧ answers .malformed ready a (.excPeek a 0 9) ∧
      grants (s (.take g0) (.read .log none)) .p0 (.read .log none) ∧
      (s (.take g0) (.read .log none)).job .office = some (.take g0) ∧
      (s (.peek g0) (.read .log none)).job .office = some (.peek g0) ∧
      stocked.store.read .log none = .slot ⟨2, 1⟩ (.logHead one.head) none ∧ g0.got = [] ∧
      clocked.store.read .log none = .empty ∧ clocked.store.read .log (some slot0) = .moved ∧
      grants (s (.take done1) (.headSplice .log 1)) .p0 (.headSplice .log 1) ∧ done1.got = one :: [] ∧ g0.cur = none ∧
      one.head.compCount = ([] : List LogComp).length ∧
      after .slotRead (s (.take g0) (.read .log none)) (fun t => t.request .p0 == some (.headSplice .log 1)) ∧
      after .headSplice (s (.take done1) (.headSplice .log 1)) (fun t => t.logs.takeLog == some ⟨1, 1, 1, 1⟩ &&
        t.store.logRecords == 0 && (t.store.desc .log).count == 0) := by decide +kernel

/-- R199, written out from its tables: a peek of one record of one compartment, with a deviation of -2 and a margin of
-1. -/
theorem test_peek_layout :
    peekBytes (some ⟨1, 2, 3, 4⟩) [⟨⟨.complete, some 5, some .lapsed, 7, 6, 8, 9, none, some 10, some 0, some 11, none, 12, -1,
        .pass, 1⟩, [⟨1, 1203, 3, 500, some 502, some (-2), true⟩]⟩] =
      [1, 0, 0, 0, 1, 0, 0, 0, 2, 3, 4, 1,
        0, 0, 0, 5, 2, 3, 7, 0, 6, 0, 0, 0, 8, 0, 0, 0, 9, 0, 0, 0, 0, 0, 0, 0, 10, 1, 0, 0, 0, 11, 0, 0, 0, 0, 0, 12,
        0xFF, 0xFF, 1, 1,
        1, 3, 0x04, 0xB3, 3, 0x01, 0xF4, 0x01, 0xF6, 0xFF, 0xFF, 0xFF, 0xFE] := by decide +kernel

/-- R200, written out from its tables: a HELD visit with its paper, a failed check and one compartment. -/
theorem test_visit_layout :
    visitBytes 7 { visit7 with
        state := .held, recheckFail := true, bay := some 15, paperState := .complete, paper := some paper7, accepted := 2
        lastCheck := some ⟨.fail, some .quantityOut, some (.compartment 3), 4, -2⟩ } [{ comp1 with net := 300 }] =
      [7, 0, 5, 8, 16, 11, 0, 0, 0, 9, 0, 0, 0, 77, 0, 0, 0, 0, 1, 0, 0, 0x03, 0x84, 16,
        2, 0, 0, 0, 44, 0, 100, 0, 0, 2, 2, 2, 8, 1, 3, 4, 0xFF, 0xFE, 0, 0, 0, 0, 0, 0, 0, 0, 0, 0, 1,
        1, 0, 0x01, 0xF4, 0, 0, 0x01, 0x2C, 0, 0, 0, 0, 0, 0, 0, 0, 0, 0] := by decide +kernel

/-! ### The dispatch check -/

theorem test_witness_checks_taken :
    let s := (inState .queued).setDcu ⟨[7], none⟩
    let l : PaperLine := ⟨1, 1203, 500⟩
    let r (list : ListId) (at_ : Option SlotRef) (c : Check) (s : State) := granting .check (.read list at_)
      (s.setDcu ⟨[], some c⟩)
    let reading := { check7 with phase := .read }
    let paper := r (.paper 7) none reading (placed (.paper 7) (.paperLine l) (inState .checking))
    let comp := r (.comp 7) none reading (placed (.comp 7) (.compartment comp1) (inState .checking))
    let stale := r (.comp 7) none { reading with stale := true } (inState .checking)
    let laden := r (.comp 7) none reading
      (placed (.comp 7) (.compartment { comp1 with product := some 1203, net := 1 }) (inState .checking))
    let paperless := r (.comp 7) none { reading with paperState := .none } (inState .checking)
    let gone := withJob .gate (.abort 7 none) (r (.comp 7) none { reading with phase := .abandon }
      (clocked.setVisit 7 { visit7 with state := .aborting, abort := some ⟨false, 0⟩ }))
    s.alive = true ∧ s.dcu.check = none ∧ s.dcu.queue = [7] ∧ (s.visit 7).state = .queued ∧
      paper.dcu.check = some reading ∧ grants paper .check (.read (.paper 7) none) ∧ reading.stale = false ∧
      paper.store.read (.paper 7) none = .slot slot0 (.paperLine l) none ∧ comp.store.read (.paper 7) none = .empty ∧
      comp.store.read (.comp 7) none = .slot slot0 (.compartment comp1) none ∧
      grants comp .check (.read (.comp 7) none) ∧ comp.store.read (.comp 7) (some ⟨0, 2⟩) = .moved ∧
      (stale.visit 7).state = .checking ∧ grants stale .check (.read (.comp 7) none) ∧
      grants gone .check (.read (.comp 7) none) ∧
      after .checkTake s (fun t => (t.visit 7).state == .checking && t.request .check == some (.read (.paper 7) none)) ∧
      after .slotRead paper (fun t => t.request .check == some (.read (.comp 7) none)) ∧
      after .slotRead comp (fun t => (t.dcu.check.map fun c => (c.phase, c.ask)) == some (.judge, some .verdict)) ∧
      after .slotRead laden (fun t => (t.dcu.check.bind Check.ask) == some (.lookup 1203)) ∧
      paperless.store.read (.comp 7) none = .empty ∧ ((Judge.start.paperStep .none).onward).2 = none ∧
      after .slotRead paperless (fun t => (t.visit 7).state == .held &&
        (t.visit 7).lastCheck == some ⟨.fail, some .paperIncomplete, none, 1, 0⟩) ∧
      after .slotRead stale (fun t => (t.visit 7).state == .loaded && t.dcu.check == none &&
        hasFlag (t.link .gate).flags .checkDone) ∧
      after .slotRead gone (fun t => t.dcu.check == none && t.request .p2 == some (.splice (.comp 7) .free)) := by
  decide +kernel

/-- R134 and R135 on a band that allows the greater of 3 litres and 10 in 1000: 1010 of 1000 declared passes and 1011
does not. -/
theorem test_witness_judging :
    let band : Band := ⟨2000, 4, 10, 3, true⟩
    let c (net : Nat) : Compartment := { comp1 with product := some 1203, net }
    let l : PaperLine := ⟨1, 1203, 1000⟩
    let case_ (ls : List PaperLine) (c : Compartment) := (compartmentCase ls c (.band 0 band)).1
    case_ [l] (c 1010) = none ∧ case_ [l] (c 1011) = some .quantityOut ∧ case_ [l] (c 989) = some .quantityOut ∧
      case_ [] (c 1010) = some .lineMissing ∧ case_ [l, l] (c 1010) = some .duplicateLine ∧
      case_ [{ l with product := 1202 }] (c 1010) = some .productMismatch ∧
      case_ [l] { c 1010 with overfull := true } = some .compartmentOver ∧
      (compartmentCase [] (c 1) (.band 0 { band with paperRequired := false })).1 = none ∧
      Judge.start.reason = none ∧ (Judge.start.fail .lineMissing none).reason ≠ none ∧
      (Judge.mk [] [] [] [(3, 4)] none none 255).pairs = [(3, 4)] ∧
      ((Judge.mk [] [] [] [(3, 4)] none none 255).takePair true).1.count = 255 := by decide +kernel

theorem test_witness_class_answers :
    let j : Judge := ⟨[], [], [{ comp1 with product := some 1203, net := 1 }], [], none, none, 0⟩
    let p : Judge := ⟨[], [], [], [(15, 15)], none, none, 0⟩
    let c (x : Judge) (q : Ask) := { check7 with judge := x, ask := some q }
    let s (x : Judge) (q : Ask) := checking (c x q)
    let sweep (x : Judge) (q : Ask) := (inState .loaded).setSweep { SweepUnit.cold with
      status := ⟨.running, some 2, some (.single 7), some 7, 0, 0, none, none⟩, work := .judging 7 5 x q }
    (s j (.lookup 1203)).alive = true ∧ (s j (.lookup 1203)).dcu.check = some (c j (.lookup 1203)) ∧
      (c j (.lookup 1203)).phase ≠ .abandon ∧ check7.phase = .judge ∧ check7.ask = none ∧
      after (.classLookup .check) (checking { c j (.lookup 1203) with phase := .abandon }) (fun t =>
        t.dcu.check == none && (t.visit 7).lastCheck == none) ∧
      (sweep j (.lookup 1203)).sweep.work = .judging 7 5 j (.lookup 1203) ∧
      after (.classLookup .check) (s j (.lookup 1203)) (fun t => (t.dcu.check.bind Check.ask) == some .verdict &&
        t.dcu.check.map (fun x => (x.judge.reason, x.judge.item)) ==
          some (some .unclassified, some (.compartment 1))) ∧
      after (.pairTest .check) (s p (.pair 15 15)) (fun t => (t.dcu.check.bind Check.ask) == some .verdict) ∧
      after (.classLookup .sweep) (sweep j (.lookup 1203)) (fun t => (t.visit 7).recheckFail &&
        t.sweep.status.state == .fail && hasFlag (t.link .audit).flags .sweepDone) ∧
      after (.pairTest .sweep) (sweep p (.pair 15 15)) (fun t => !(t.visit 7).recheckFail &&
        t.sweep.status.state == .pass) := by decide +kernel

/-- R140 on 50 minutes of continuous drive of 300, in a span begun at 800 of 810 minutes: at minute 1000 a trip of 250
needs no break and ends 360 within the span, one of 251 needs a break of 30. -/
theorem test_witness_verdicts :
    1 ≤ defaultRules.lCont ∧ driver77.cont < defaultRules.lCont ∧
      defaultRules.lCont ≤ { driver77 with cont := 300 }.cont ∧
      soloVerdict defaultRules 1000 250 250 driver77 = ⟨.hoursOk, 250, []⟩ ∧
      soloVerdict defaultRules 1000 500 581 driver77 = ⟨.spanShort, -1, [(.driver, .spanShort)]⟩ ∧
      soloVerdict defaultRules 1000 500 580 driver77 = ⟨.hoursOk, 0, []⟩ ∧
      soloVerdict defaultRules 1000 501 501 driver77 = ⟨.dayShort, -1, [(.driver, .dayShort)]⟩ ∧
      soloVerdict defaultRules 1000 1 1 { driver77 with cont := 300 } = ⟨.breakDue, 0, [(.driver, .breakDue)]⟩ ∧
      crewVerdict defaultRules 1000 1001 600 driver77 { driver77 with week := 2801 } =
        ⟨.dayShort, -2, [(.driver, .dayShort), (.coDriver, .weekShort)]⟩ := by decide +kernel

theorem test_witness_hours_verdict :
    let s (c : Check) := ((inState .checking).setDcu ⟨[], some c⟩).setDriver 3 (some driver77)
    let c := { check7 with ask := some .verdict }
    let tired := { c with paper := some { paper7 with p := 501 } }
    (s c).alive = true ∧ (s c).dcu.check = some c ∧ c.ask = some .verdict ∧ c.phase = .judge ∧
      ((s c).visit c.visit).state = .checking ∧
      after .hoursVerdict (s c) (fun t => t.dcu.check.map Check.phase == some .build &&
        t.dcu.check.map Check.margin == some (some 400) && (t.request .check).isSome) ∧
      after .hoursVerdict (s tired) (fun t => (t.visit 7).state == .held && t.dcu.check == none &&
        (t.visit 7).lastCheck == some ⟨.fail, some .dayShort, some .driver, 1, -1⟩) ∧
      after .hoursVerdict (s { c with stale := true }) (fun t => (t.visit 7).state == .loaded) ∧
      after .hoursVerdict (s { c with phase := .abandon }) (fun t => t.dcu.check == none &&
        (t.visit 7).lastCheck == none) := by decide +kernel

theorem test_witness_clearances :
    let c := { check7 with phase := .build, build := [slot0], margin := some 3 }
    let s (c : Check) (r : Request) := granting .check r ((placed (.pend 7) (.logHead head7) (inState .checking)).setDcu
      ⟨[], some c⟩)
    let q : Request := .alloc (.pend 7) .opened (.logHead head7)
    let w : Request := .write (.pend 7) slot0 (.complete 1000)
    let u := s { c with phase := .unwind } (.splice (.pend 7) .free)
    let gone (r : Request) := s { c with phase := .abandon } r
    (s c q).dcu.check = some c ∧ grants (s c q) .check q ∧
      (s c q).allocRefused (.pend 7) .opened (.logHead head7) = false ∧
      ((s c q).store.allocate (.pend 7) (.logHead head7)).isSome = true ∧
      { s c q with logs := { LogUnit.cold with seqs := 4294967294 } }.allocRefused (.pend 7) .opened (.logHead head7) =
        true ∧
      ((s c q).visit 7).state = .checking ∧ grants (s c w) .check w ∧
      ((s c w).store.write (s c w).time.minutes (.pend 7) slot0 (.complete 1000)).isSome = true ∧
      u.dcu.check = some { c with phase := .unwind } ∧ grants u .check (.splice (.pend 7) .free) ∧
      after .allocation (s c q) (fun t => t.request .check == some w) ∧
      after .slotWrite (s c w) (fun t => (t.visit 7).state == .cleared && (t.visit 7).clearance == some ⟨1, 1010⟩ &&
        (t.visit 7).lastCheck == some ⟨.pass, none, none, 0, 3⟩ && hasFlag (t.link .gate).flags .checkDone) ∧
      after .wholeListSplice u (fun t => (t.visit 7).state == .held &&
        (t.visit 7).lastCheck == some ⟨.logFull, none, none, 0, 3⟩) ∧
      grants (gone q) .check q ∧ grants (gone w) .check w ∧
      grants (gone (.splice (.pend 7) .free)) .check (.splice (.pend 7) .free) ∧
      after .allocation (gone q) (fun t => t.dcu.check == none && t.store.chain (.pend 7) == [0, 1]) ∧
      after .slotWrite (gone w) (fun t => t.dcu.check == none && (t.visit 7).lastCheck == none) ∧
      after .wholeListSplice (gone (.splice (.pend 7) .free)) (fun t => t.dcu.check == none) := by decide +kernel

/-! ### Sweeps -/

theorem test_witness_sweep_items :
    let running := ready.setSweep { SweepUnit.cold with
      status := ⟨.running, some 1, some .all, some 3, 0, 0, none, none⟩, work := .hoursGrant }
    let waiting := running.present .sweep (.read .free none)
    answers .malformed ready a (.sweepStart a 1 2 0) ∧ answers .busy running a (.sweepStart a 1 1 0) ∧
      answers .done ready a (.sweepStart a 3 1 0) ∧ answers .malformed ready a (.sweepStart a 2 0 48) ∧
      answers .done ready a (.sweepStart a 2 0 47) ∧ answers .done ready a (.sweepStart a 1 0 255) ∧
      answers .done waiting a (.sweepStop a) ∧ answers .already ready a (.sweepStop a) ∧
      after (.sweepStop a) (withItem a (.sweepStop a) waiting) (fun t => t.sweep.orphan &&
        t.sweep.status.state == .aborted && t.request .sweep == some (.read .free none)) := by decide +kernel

theorem test_witness_sweep_steps :
    let run (op : Nat) (p : Nat) (w : SweepWork) := SweepUnit.mk
      ⟨.running, some op, some .all, some p, 0, 0, none, none⟩ w false none
    let entry := (clocked.setDriver 255 (some { driver77 with cont := 300 })).setSweep (run 1 255 .hoursEntry)
    let rest := (clocked.setDriver 3 (some { driver77 with activity := .onBreak, breakStart := some 340 })).setSweep
      (run 1 3 .hoursEntry)
    let context := (clocked.setVisit 7 { visit7 with state := .held, paperState := .complete }).setSweep
      (run 2 7 .context)
    let grant_ (u : SweepUnit) := granting .sweep (.read .free none) (clocked.setSweep u)
    let orphan : SweepUnit := { SweepUnit.cold with orphan := true, deferred := some (.read (.paper 3) none) }
    entry.alive = true ∧ entry.sweep.work = .hoursEntry ∧ entry.sweep.status.position = some (255 : EntryNo).val ∧
      entry.sweep.status.state = .running ∧ entry.request .sweep = none ∧ context.sweep.work = .context ∧
      context.sweep.status.position = some (7 : VisitNo).val ∧ grants (grant_ orphan) .sweep (.read .free none) ∧
      (grant_ orphan).sweep.orphan = true ∧ (grant_ (run 1 3 .hoursGrant)).sweep.work = .hoursGrant ∧
      after .sweepEntryRead entry (fun t => t.sweep.status.state == .fail && t.sweep.status.examined == 1 &&
        t.sweep.status.first == some (255, .breakDue) && hasFlag (t.link .audit).flags .sweepDone) ∧
      after .sweepEntryRead rest (fun t => t.sweep.status.last == some 3 &&
        t.sweep.status.first == some (3, .restOnSite) && t.request .sweep == some (.read .free none)) ∧
      after .recheckContextRead context (fun t => t.request .sweep == some (.read (.paper 7) none)) ∧
      after .slotRead (grant_ orphan) (fun t => !t.sweep.orphan && t.request .sweep == some (.read (.paper 3) none)) ∧
      after .slotRead (grant_ (run 1 3 .hoursGrant)) (fun t => t.sweep.work == .hoursEntry) := by decide +kernel

theorem test_witness_recheck_walk :
    let l : PaperLine := ⟨1, 1203, 500⟩
    let s (list : ListId) (r : Option SlotRef) (u : State) := granting .sweep (.read list r)
      (u.setSweep ⟨⟨.running, some 2, some (.single 7), some 7, 0, 0, none, none⟩, .walk 7 5 Judge.start, false, none⟩)
    let paper := s (.paper 7) none (placed (.paper 7) (.paperLine l) (inState .loaded))
    let comp := s (.comp 7) none (placed (.comp 7) (.compartment { comp1 with net := 1, product := some 1203 })
      (inState .loaded))
    let moved := s (.paper 7) (some slot0) (clocked.setVisit 7 { visit7 with state := .loaded, recheckFail := true })
    grants paper .sweep (.read (.paper 7) none) ∧ paper.sweep.orphan = false ∧
      paper.sweep.work = .walk 7 5 Judge.start ∧
      paper.store.read (.paper 7) none = .slot slot0 (.paperLine l) none ∧ comp.store.read (.paper 7) none = .empty ∧
      paper.store.read (.comp 7) none = .empty ∧ moved.store.read (.paper 7) (some slot0) = .moved ∧
      after .slotRead paper (fun t => t.request .sweep == some (.read (.comp 7) none) &&
        t.sweep.work == .walk 7 5 { Judge.start with lines := [l] }) ∧
      after .slotRead comp (fun t => t.request .sweep == none &&
        (match t.sweep.work with | .judging 7 5 _ (.lookup 1203) => true | _ => false)) ∧
      after .slotRead moved (fun t => (t.visit 7).recheckFail && t.sweep.status.examined == 0 &&
        t.sweep.status.state == .pass) := by decide +kernel

/-! ### Invariants -/

/-- Visit 7 is CLEARED, with its whole record on its PENDING list. -/
def pending7 : LogHead := { head7 with mark := .complete, clearMinute := some 1000 }
def cleared7 : State := placed (.pend 7) (.logHead pending7) (inState .cleared)

theorem cleared7_whole : cleared7.store.Whole :=
  placed_whole (s := inState .cleared) (l := .pend 7) Store.whole_cold (by decide) _

theorem cleared7_list :
    (cleared7.store.slots.toList.tail.all fun x => decide (x.record = .none ∧ x.owner = .free)) = true ∧
      cleared7.store.slot 0 = ⟨.logHead pending7, 1, none, .pend 7⟩ := by decide +kernel

theorem cleared7_slots (i : SlotNo) :
    (i = 0 ∧ cleared7.store.slot i = ⟨.logHead pending7, 1, none, .pend 7⟩) ∨
      ((cleared7.store.slot i).record = .none ∧ (cleared7.store.slot i).owner = .free) := by
  by_cases h : i = 0
  · exact .inl ⟨h, h ▸ cleared7_list.2⟩
  · have hi : 0 < i.val := Nat.pos_of_ne_zero fun h0 => h (Fin.ext h0)
    have hm : cleared7.store.slot i ∈ cleared7.store.slots.toList.tail := by
      refine List.mem_iff_getElem.2 ⟨i.val - 1, by simp; omega, ?_⟩
      simp only [List.getElem_tail, Vector.getElem_toList, Store.slot, tget, Nat.sub_add_cancel hi]
    exact .inr (by simpa using List.all_eq_true.1 cleared7_list.1 _ hm)

theorem cleared7_pending : ∀ v : VisitNo, v = 7 ∨
    ((cleared7.visit v).state = .free ∧ (cleared7.visit v).abort = none ∧ cleared7.store.recordsOn (.pend v) = []) := by
  decide +kernel

theorem cleared7_awaits : PendingFits (cleared7.visit 7) (cleared7.store.recordsOn (.pend 7)) := by
  have h : (cleared7.visit 7).state = .cleared ∧ (cleared7.visit 7).abort = none ∧
      cleared7.store.recordsOn (.pend 7) = [.logHead pending7] := by decide +kernel
  unfold PendingFits
  rw [h.1, h.2.1, h.2.2]
  exact ⟨⟨pending7, []⟩, rfl, rfl, rfl, rfl, rfl⟩

theorem cleared7_requests (p : Requester) : cleared7.request p = none := by cases p <;> rfl

theorem cleared7_units : cleared7.sweep.deferred = none ∧ cleared7.dcu.check = none := ⟨rfl, rfl⟩

theorem cleared7_jobs (l : LinkNo) : cleared7.job l = none := by cases l <;> rfl

/-- R6: the one record in the pool is a head on a PENDING list. -/
theorem test_witness_kinds_sound : KindsSound cleared7 := by
  refine ⟨fun i => ?_, fun p r h => ?_, fun r h => ?_⟩
  · cases cleared7_slots i with
    | inl h => simp only [h.2]; exact Or.inl rfl
    | inr h => simp only [h.1, h.2, ListId.holds]
  · rw [cleared7_requests] at h; exact nomatch h
  · rw [cleared7_units.1] at h; exact nomatch h

/-- What RecordsStaySound asks of a state: R6, R43, R163 and R164 with one clearance pending, and nothing asked that
would change it. -/
theorem test_witness_records_sound : cleared7.store.Whole ∧ KindsSound cleared7 ∧ RecordsSound cleared7 ∧
    cleared7.alive = true ∧ step cleared7 = .next cleared7 := by
  refine ⟨cleared7_whole, test_witness_kinds_sound, ⟨fun v => ?_, fun m => ?_, ?_, by decide +kernel, fun _ => ?_⟩, rfl, rfl⟩
  · cases cleared7_pending v with
    | inl h => subst h; exact cleared7_awaits
    | inr h => unfold PendingFits; rw [h.1, h.2.1]; exact h.2.2
  · refine ⟨[], ?_, ?_, fun _ h => (nomatch h), List.Pairwise.nil⟩ <;> cases m <;> decide +kernel
  · intro i j h k hi hj he hn
    cases cleared7_slots i with
    | inl h0 =>
        cases cleared7_slots j with
        | inl h1 => rw [h0.1, h1.1]
        | inr h1 => rw [h1.1] at hj; exact nomatch hj
    | inr h0 => rw [h0.1] at hi; exact nomatch hi
  · refine ⟨fun l => by cases l <;> rfl, fun l _ => cleared7_requests _, fun l v q h => ?_, fun l v h => ?_, ?_, ?_, ?_,
      fun _ => cleared7_requests _, ?_⟩
    · rw [cleared7_jobs] at h; exact nomatch h
    · rw [cleared7_jobs] at h; exact nomatch h
    · rintro l m v (⟨q, h⟩ | h) _ <;> (rw [cleared7_jobs] at h; exact nomatch h)
    · intro l r v h
      rw [cleared7_requests] at h; exact nomatch h
    · intro c h
      rw [cleared7_units.2] at h; exact nomatch h
    · rintro r (h | h)
      · rw [cleared7_requests] at h; exact nomatch h
      · rw [cleared7_units.1] at h; exact nomatch h

/-- The same state has no visit to check or to lapse. -/
theorem test_witness_records_idle : QueueSound cleared7 ∧ LapsesSound cleared7 := by
  refine ⟨⟨by decide, by decide, ?_, fun v => ?_⟩, ⟨by decide, ?_, rfl⟩⟩
  · decide +kernel
  · constructor
    · intro h; exact absurd h (by revert v; decide +kernel)
    · rintro ⟨c, h, _⟩
      rw [cleared7_units.2] at h; exact nomatch h
  · decide +kernel

def queued7 : State := (inState .queued).setDcu ⟨[7], none⟩

theorem test_witness_queue_sound : queued7.alive = true ∧ QueueSound queued7 ∧ step queued7 = .next queued7 := by
  refine ⟨rfl, ⟨by decide, by decide, by decide +kernel, fun v => ?_⟩, rfl⟩
  constructor
  · intro h
    exact absurd h (by revert v; decide +kernel)
  · rintro ⟨c, h, _⟩
    exact nomatch h

def bayed : State := (inState .assigned).setVisit 7 { visit7 with state := .assigned, bay := some 0 }

theorem test_witness_windows_sound : WindowsSound (bayed.setWindow 0 (some window7)) := by
  have hw : ∀ c, (bayed.setWindow 0 (some window7)).window c = if 0 = c then some window7 else none := by
    intro c
    unfold State.setWindow State.window
    rw [tget_tset]
    split
    · rfl
    · exact tget_replicate (n := 16) none c
  refine ⟨fun c w h => ?_, fun v h => ⟨0, window7, by rw [hw]; rfl, ?_⟩⟩
  · rw [hw] at h
    split at h
    · rename_i hc
      subst hc
      cases h
      exact ⟨by decide +kernel, by decide +kernel, by decide +kernel, by decide +kernel⟩
    · exact nomatch h
  · revert v
    decide +kernel

def lapsing7 : State :=
  { (inState .lapsing).present .expiry (.stamped 7 .lapsed none) with logs := { LogUnit.cold with lapses := [7] } }

theorem test_witness_lapses_sound : lapsing7.alive = true ∧ LapsesSound lapsing7 :=
  ⟨rfl, ⟨by decide, by decide +kernel, by decide +kernel⟩⟩

theorem test_witness_classes_sound : ClassTable.cold.Symmetric ∧ ClassTable.cold.Ranged :=
  ⟨fun x y => by simp [ClassTable.cold], ⟨by decide, by decide, by decide, by decide, by decide⟩⟩

theorem test_witness_registers_sound :
    ClockSound clocked.time ∧ FlagsFollow clocked ∧ FlagsCarried clocked ∧ ServiceSound clocked ∧
      SettingsSound { clocked with reserve := 255, logs := { LogUnit.cold with window := 60, codes := 65535 } } := by
  refine ⟨⟨by decide, by decide, by decide⟩, ⟨by decide +kernel, by decide +kernel, by decide +kernel, by decide +kernel⟩,
    fun l => by cases l <;> decide, ⟨⟨by decide, by decide, fun p => by cases p <;> decide⟩, by decide, ?_, ?_⟩,
    ⟨by decide, by decide, by decide, by decide⟩⟩
  · intro p ps h
    cases p <;> exact nomatch h
  · intro ps h
    exact nomatch h

end Sys2Proof.Tests
end

section
/-! PROOFS. What the pieces of a step away from the store's grants keep, said once for each operation: the store, the
sequence counter, the service table and its index, the registers in their ranges, and requests that R6 and R19 allow
(`Steady`). -/

namespace Sys2Proof.Machine

/-! ### Lines: the flags and the mask of one link -/

/-- The condition flags (R196). -/
def Flag.isCondition : Flag → Bool
  | .logReady | .excReady | .storeLow => true
  | _ => false

/-- A change of a link that keeps its condition flags and leaves the positions it does not carry clear. -/
structure LineSteady (l : LinkNo) (k k' : Link) : Prop where
  condition : ∀ f : Flag, f.isCondition = true → hasFlag k'.flags f = hasFlag k.flags f
  flags : k.flags &&& ~~~(carried l) = 0 → k'.flags &&& ~~~(carried l) = 0
  mask : k.mask &&& ~~~(carried l) = 0 → k'.mask &&& ~~~(carried l) = 0

namespace LineSteady

variable {l : LinkNo} {k k' k'' : Link}

theorem of_eq (hf : k'.flags = k.flags) (hm : k'.mask = k.mask) : LineSteady l k k' :=
  ⟨fun _ _ => by rw [hf], fun h => by rwa [hf], fun h => by rwa [hm]⟩

theorem refl (k : Link) : LineSteady l k k := of_eq rfl rfl

theorem trans (a : LineSteady l k k') (b : LineSteady l k' k'') : LineSteady l k k'' :=
  ⟨fun f hf => (b.condition f hf).trans (a.condition f hf), fun h => b.flags (a.flags h),
    fun h => b.mask (a.mask h)⟩

end LineSteady

theorem hasFlag_putFlag (w : FlagWord) (f g : Flag) (b : Bool) :
    hasFlag (putFlag w f b) g = if f = g then b else hasFlag w g := by
  cases b <;> cases f <;> cases g <;> simp [hasFlag, putFlag, Flag.bit, Flag.position]

/-- An event flag that a link carries. -/
def Raises (l : LinkNo) (f : Flag) : Prop := f.isCondition = false ∧ f.bit &&& ~~~(carried l) = 0

theorem LineSteady.raised {l : LinkNo} {f : Flag} (hf : Raises l f) (k : Link) : LineSteady l k (k.raised f) := by
  refine ⟨fun g hg => ?_, fun h => ?_, id⟩
  · have : f ≠ g := fun e => by simp [← e, hf.1] at hg
    simp [Link.raised, hasFlag_putFlag, this]
  · show (k.flags ||| f.bit) &&& _ = 0
    rw [BitVec.and_comm, BitVec.and_or_distrib_left, BitVec.and_comm _ k.flags, h, BitVec.and_comm, hf.2]
    rfl

theorem raises_telegramError (l : LinkNo) : Raises l .telegramError := ⟨rfl, by cases l <;> decide⟩

theorem raises_overrun (l : LinkNo) : Raises l .overrun := ⟨rfl, by cases l <;> decide⟩

/-! ### The receivers -/

namespace Link

theorem putFilling_line (l : LinkNo) (k : Link) (b : Buffer) : LineSteady l k (k.putFilling b) := by
  unfold putFilling
  split <;> exact .of_eq rfl rfl

theorem putReplying_line (l : LinkNo) (k : Link) (b : Buffer) : LineSteady l k (k.putReplying b) := by
  unfold putReplying
  split <;> exact .of_eq rfl rfl

theorem wake_line (l : LinkNo) (k : Link) : LineSteady l k (wake l k) := by
  unfold wake
  split <;> (try split) <;> exact .of_eq rfl rfl

theorem drop_line (l : LinkNo) (k : Link) (rx : RxState) : LineSteady l k (k.drop rx) :=
  ((putFilling_line l k .empty).trans (.raised (raises_telegramError l) _)).trans (.of_eq rfl rfl)

theorem received_line (l : LinkNo) (k : Link) (bs : List Byte) (f : Bool) : LineSteady l k (received l k bs f) := by
  have hfill := putFilling_line l k (.filling bs f)
  unfold received
  simp only
  split
  · exact hfill
  · split
    · split
      · split
        · exact hfill.trans (drop_line l _ _)
        · split
          · exact hfill.trans (drop_line l _ _)
          · exact (hfill.trans (putFilling_line l _ _)).trans (.of_eq rfl rfl)
      · exact hfill
    · split
      · exact hfill.trans (drop_line l _ _)
      · exact hfill

theorem first_line (l : LinkNo) (k : Link) (c : RxChar) : LineSteady l k (k.first c) := by
  unfold first
  split
  · exact .of_eq rfl rfl
  · split
    · exact .of_eq rfl rfl
    · exact (LineSteady.raised (raises_overrun l) k).trans (.of_eq rfl rfl)

theorem rxChar_line (l : LinkNo) (k : Link) (c : RxChar) : LineSteady l k (rxChar l k c) := by
  unfold rxChar
  split
  · exact .refl k
  · exact first_line l k c
  · split
    · exact .refl k
    · exact received_line l k _ _

theorem rxChars_line (l : LinkNo) (cs : List RxChar) (k : Link) : LineSteady l k (rxChars l k cs) := by
  induction cs generalizing k with
  | nil => exact .refl k
  | cons c cs ih => exact (rxChar_line l k c).trans (ih _)

theorem rxGap_line (l : LinkNo) (k : Link) : LineSteady l k k.rxGap := by
  unfold rxGap
  split
  · exact .of_eq rfl rfl
  · exact .of_eq rfl rfl
  · exact drop_line l k _

end Link

/-! ### Steady pieces -/

/-- A request that R6 and R19 allow a party to present. -/
def Request.Tame (r : Request) : Prop := r.KeepsKinds ∧ ∀ ps, r = .serviceTable ps → TableValid ps

theorem Request.tame_read (l : ListId) (i : Option SlotRef) : (Request.read l i).Tame := ⟨trivial, nofun⟩

theorem FlagsFollow.congr {s t : State} (h : FlagsFollow s) (hk : t.links = s.links) (hs : t.store = s.store)
    (he : t.reserve = s.reserve) (ht : t.logs.threshold = s.logs.threshold) : FlagsFollow t := by
  have line : ∀ l, t.link l = s.link l := State.link_congr hk
  have low : t.storeLow = s.storeLow := by simp [State.storeLow, hs, he]
  have log : t.logReady = s.logReady := by simp [State.logReady, hs, ht]
  have exc : t.excReady = s.excReady := by simp [State.excReady, hs]
  exact ⟨by rw [line, low]; exact h.low, by rw [line, log]; exact h.log, by rw [line, exc]; exact h.exc,
    by rw [line, log]; exact h.audit⟩

/-- What a piece of a step away from the store's grants leaves unchanged, and the ranges that it keeps. -/
structure Steady (s t : State) : Prop where
  store     : t.store = s.store
  seqs      : t.logs.seqs = s.logs.seqs
  index     : t.index = s.index
  service   : t.service = s.service
  symmetric : s.classes.Symmetric → t.classes.Symmetric
  ranged    : s.classes.Ranged → t.classes.Ranged
  drivers   : DriversSound s → DriversSound t
  clock     : ClockSound s.time → ClockSound t.time
  follow    : FlagsFollow s → FlagsFollow t
  carried   : FlagsCarried s → FlagsCarried t
  settings  : SettingsSound s → SettingsSound t
  asked     : ∀ p r, t.request p = some r → s.request p = some r ∨ s.sweep.deferred = some r ∨ r.Tame
  held      : ∀ r, t.sweep.deferred = some r → s.sweep.deferred = some r ∨ ∃ l i, r = .read l i

namespace Steady

variable {r s t : State}

theorem refl (s : State) : Steady s s :=
  ⟨rfl, rfl, rfl, rfl, id, id, id, id, id, id, id, fun _ _ h => .inl h, fun _ h => .inl h⟩

theorem trans (a : Steady r s) (b : Steady s t) : Steady r t where
  store := b.store.trans a.store
  seqs := b.seqs.trans a.seqs
  index := b.index.trans a.index
  service := b.service.trans a.service
  symmetric h := b.symmetric (a.symmetric h)
  ranged h := b.ranged (a.ranged h)
  drivers h := b.drivers (a.drivers h)
  clock h := b.clock (a.clock h)
  follow h := b.follow (a.follow h)
  carried h := b.carried (a.carried h)
  settings h := b.settings (a.settings h)
  asked p q hq := by
    have fromHeld : s.sweep.deferred = some q → r.request p = some q ∨ r.sweep.deferred = some q ∨ q.Tame := by
      intro h
      rcases a.held q h with h | ⟨l, i, rfl⟩
      · exact .inr (.inl h)
      · exact .inr (.inr (Request.tame_read l i))
    rcases b.asked p q hq with h | h | h
    · exact a.asked p q h
    · exact fromHeld h
    · exact .inr (.inr h)
  held q hq := by
    rcases b.held q hq with h | h
    · exact a.held q h
    · exact .inr h

/-- A change that leaves the store, the tables and the links alone. -/
theorem of_rest (hs : t.store = s.store) (hl : t.logs = s.logs) (hi : t.index = s.index) (hv : t.service = s.service)
    (hc : t.classes = s.classes) (hd : t.drivers = s.drivers) (hr : t.rules = s.rules) (ht : t.time = s.time)
    (hk : t.links = s.links) (he : t.reserve = s.reserve)
    (asked : ∀ p r, t.request p = some r → s.request p = some r ∨ s.sweep.deferred = some r ∨ r.Tame)
    (held : ∀ r, t.sweep.deferred = some r → s.sweep.deferred = some r ∨ ∃ l i, r = .read l i) : Steady s t where
  store := hs
  seqs := by rw [hl]
  index := hi
  service := hv
  symmetric h := by rwa [hc]
  ranged h := by rwa [hc]
  drivers h := ⟨by rw [hr]; exact h.rules, by rw [hr]; unfold State.driver; rw [hd]; exact h.sound,
    by unfold State.driver; rw [hd]; exact h.unique⟩
  clock h := by rwa [ht]
  follow h := h.congr hk hs he (by rw [hl])
  carried h := by unfold FlagsCarried State.link; rw [hk]; exact h
  settings h := ⟨by rw [he]; exact h.reserve, by rw [hl]; exact h.window, by rw [hl]; exact h.threshold,
    by rw [hl]; exact h.codes⟩
  asked := asked
  held := held

/-- A change that leaves requests alone besides. -/
theorem of_same (hs : t.store = s.store) (hl : t.logs = s.logs) (hi : t.index = s.index) (hv : t.service = s.service)
    (hc : t.classes = s.classes) (hd : t.drivers = s.drivers) (hr : t.rules = s.rules) (ht : t.time = s.time)
    (hk : t.links = s.links) (he : t.reserve = s.reserve) (hq : t.requests = s.requests)
    (hw : t.sweep.deferred = s.sweep.deferred) : Steady s t :=
  of_rest hs hl hi hv hc hd hr ht hk he (fun p _ h => .inl (State.request_congr hq p ▸ h)) (fun _ h => .inl (hw ▸ h))

/-! #### One rule for each update of the state -/

theorem setVisit (h : Steady r s) (v : VisitNo) (x : Visit) : Steady r (s.setVisit v x) :=
  h.trans (.of_same rfl rfl rfl rfl rfl rfl rfl rfl rfl rfl rfl rfl)

theorem changeVisit (h : Steady r s) (v : VisitNo) (st : VisitState) (f : Visit → Visit) :
    Steady r (s.changeVisit v st f) := by
  unfold State.changeVisit
  split
  · exact h.setVisit _ _
  · exact h

theorem setWindow (h : Steady r s) (b : BayIx) (w : Option Window) : Steady r (s.setWindow b w) :=
  h.trans (.of_same rfl rfl rfl rfl rfl rfl rfl rfl rfl rfl rfl rfl)

theorem setDcu (h : Steady r s) (x : Dcu) : Steady r (s.setDcu x) :=
  h.trans (.of_same rfl rfl rfl rfl rfl rfl rfl rfl rfl rfl rfl rfl)

theorem setCheck (h : Steady r s) (c : Option Check) : Steady r (s.setCheck c) := h.setDcu _

theorem setCc (h : Steady r s) (x : Control) : Steady r (s.setCc x) :=
  h.trans (.of_same rfl rfl rfl rfl rfl rfl rfl rfl rfl rfl rfl rfl)

theorem setSweep (h : Steady r s) (x : SweepUnit)
    (hx : ∀ q, x.deferred = some q → s.sweep.deferred = some q ∨ ∃ l i, q = .read l i) : Steady r (s.setSweep x) :=
  h.trans (.of_rest rfl rfl rfl rfl rfl rfl rfl rfl rfl rfl (fun _ _ h => .inl h) hx)

theorem setRequest (h : Steady r s) (p : Requester) (q : Option Request)
    (hq : ∀ x, q = some x → s.request p = some x ∨ s.sweep.deferred = some x ∨ x.Tame) :
    Steady r (s.setRequest p q) := by
  refine h.trans (.of_rest rfl rfl rfl rfl rfl rfl rfl rfl rfl rfl (fun _ x hx => ?_) (fun _ h => .inl h))
  rw [State.request_setRequest] at hx
  split at hx
  · next e => exact e ▸ hq x hx
  · exact .inl hx

theorem present (h : Steady r s) (p : Requester) {q : Request} (hq : q.Tame) : Steady r (s.present p q) :=
  h.setRequest p _ fun _ hx => .inr (.inr (Option.some.inj hx ▸ hq))

theorem setLink {l : LinkNo} {k : Link} (h : Steady r s) (hk : LineSteady l (s.link l) k) :
    Steady r (s.setLink l k) := by
  refine h.trans ?_
  have cond : ∀ m f, f.isCondition = true →
      hasFlag ((s.setLink l k).link m).flags f = hasFlag (s.link m).flags f := by
    intro m f hf
    by_cases e : l = m
    · subst e; rw [State.link_setLink_self]; exact hk.condition f hf
    · rw [State.link_setLink_ne _ _ e]
  exact
    { store := rfl, seqs := rfl, index := rfl, service := rfl, symmetric := id, ranged := id
      drivers := fun h => ⟨h.rules, h.sound, h.unique⟩
      clock := id
      follow := fun h => ⟨(cond _ _ rfl).trans h.low, (cond _ _ rfl).trans h.log, (cond _ _ rfl).trans h.exc,
        (cond _ _ rfl).trans h.audit⟩
      carried := fun h m => by
        by_cases e : l = m
        · subst e; rw [State.link_setLink_self]; exact ⟨hk.flags (h l).1, hk.mask (h l).2⟩
        · rw [State.link_setLink_ne _ _ e]; exact h m
      settings := fun h => ⟨h.reserve, h.window, h.threshold, h.codes⟩
      asked := fun _ _ h => .inl h
      held := fun _ h => .inl h }

theorem raise {l : LinkNo} {f : Flag} (h : Steady r s) (hf : Raises l f) : Steady r (s.raise l f) :=
  h.setLink (.raised hf _)

theorem setLogs (h : Steady r s) (x : LogUnit) (hq : x.seqs = s.logs.seqs) (ht : x.threshold = s.logs.threshold)
    (hx : SettingsSound s → (1 ≤ x.window ∧ x.window ≤ 60) ∧ x.codes ≤ 65535) : Steady r (s.setLogs x) := by
  refine h.trans ?_
  exact
    { store := rfl, seqs := hq, index := rfl, service := rfl, symmetric := id, ranged := id
      drivers := fun h => ⟨h.rules, h.sound, h.unique⟩
      clock := id
      follow := fun h =>
        have e : (s.setLogs x).logReady = s.logReady := by simp [State.logReady, ht]
        ⟨h.low, h.log.trans e.symm, h.exc, h.audit.trans e.symm⟩
      carried := id
      settings := fun h => ⟨h.reserve, (hx h).1, by rw [State.setLogs_logs, ht]; exact h.threshold, (hx h).2⟩
      asked := fun _ _ h => .inl h
      held := fun _ h => .inl h }

theorem setTime (h : Steady r s) (x : TimeBase) (hx : ClockSound s.time → ClockSound x) : Steady r (s.setTime x) :=
  h.trans
    { store := rfl, seqs := rfl, index := rfl, service := rfl, symmetric := id, ranged := id
      drivers := fun h => ⟨h.rules, h.sound, h.unique⟩
      clock := hx
      follow := fun h => ⟨h.low, h.log, h.exc, h.audit⟩
      carried := id
      settings := fun h => ⟨h.reserve, h.window, h.threshold, h.codes⟩
      asked := fun _ _ h => .inl h
      held := fun _ h => .inl h }

theorem setClasses (h : Steady r s) (x : ClassTable) (hs : s.classes.Symmetric → x.Symmetric)
    (hx : s.classes.Ranged → x.Ranged) : Steady r (s.setClasses x) :=
  h.trans
    { store := rfl, seqs := rfl, index := rfl, service := rfl, symmetric := hs, ranged := hx
      drivers := fun h => ⟨h.rules, h.sound, h.unique⟩
      clock := id
      follow := fun h => ⟨h.low, h.log, h.exc, h.audit⟩
      carried := id
      settings := fun h => ⟨h.reserve, h.window, h.threshold, h.codes⟩
      asked := fun _ _ h => .inl h
      held := fun _ h => .inl h }

/-- A change of the driver table and the rule set alone. -/
theorem of_drivers (hl : t = { s with drivers := t.drivers, rules := t.rules })
    (hd : DriversSound s → DriversSound t) : Steady s t := by
  rw [hl] at hd ⊢
  exact
    { store := rfl, seqs := rfl, index := rfl, service := rfl, symmetric := id, ranged := id
      drivers := hd
      clock := id
      follow := fun h => ⟨h.low, h.log, h.exc, h.audit⟩
      carried := id
      settings := fun h => ⟨h.reserve, h.window, h.threshold, h.codes⟩
      asked := fun _ _ h => .inl h
      held := fun _ h => .inl h }

/-! #### Items and links -/

theorem putExecuting (h : Steady r s) (l : LinkNo) (b : Buffer) : Steady r (s.putExecuting l b) :=
  h.setLink (.of_eq (Link.putExecuting_flags _ _) (Link.putExecuting_mask _ _))

theorem answer (h : Steady r s) (l : LinkNo) (c : Code) (d : List Byte) : Steady r (s.answer l c d) := by
  unfold State.answer
  split
  · split
    · exact h.putExecuting _ _
    · exact h
  · exact h

theorem refuse (h : Steady r s) (l : LinkNo) (c : Code) : Steady r (s.refuse l c) := h.answer l c []

theorem setJob (h : Steady r s) (l : LinkNo) (j : Job) : Steady r (s.setJob l j) := by
  unfold State.setJob
  split
  · split
    · exact h.putExecuting _ _
    · exact h
  · exact h

theorem begin (h : Steady r s) (x : Head) (i : Instr) : Steady r (s.begin x i) := by
  unfold State.begin
  split
  · exact h.putExecuting _ _
  · exact h

theorem ask (h : Steady r s) (l : LinkNo) (j : Job) {q : Request} (hq : q.Tame) : Steady r (s.ask l j q) :=
  (h.setJob l j).present _ hq

/-- An item command is steady where its block is, on whatever the link's telegram spells. -/
theorem takeItem {h : Head} {i : Instr} {f : State → State}
    (hf : s.nextItem h.link = some i → ∀ u, Steady u (f u)) : Steady s (s.takeItem h i f) := by
  unfold State.takeItem
  split
  · next hn =>
    split
    · exact ((refl s).begin h i).refuse _ _
    · exact ((refl s).begin h i).trans (hf hn _)
  · exact refl s

theorem changeLink (l : LinkNo) {f : Link → Link} (hf : ∀ k, LineSteady l k (f k)) (s : State) :
    Steady s (s.changeLink l f) := by
  unfold State.changeLink
  split
  · exact (refl s).setLink (hf _)
  · exact refl s

end Steady

end Sys2Proof.Machine
end

section
/-! PROOFS. The operations of the blocks are steady: those of an abort, the Dispatch Check Unit, the driver table and
the setup items. -/

namespace Sys2Proof.Machine

/-! ### Requests of the blocks -/

theorem Request.tame_alloc {l : ListId} {k : AllocClass} {x : Record} (h : (Request.alloc l k x).KeepsKinds) :
    (Request.alloc l k x).Tame := ⟨h, nofun⟩

theorem Request.tame_write (l : ListId) (i : SlotRef) (f : WriteFields) : (Request.write l i f).Tame :=
  ⟨trivial, nofun⟩

theorem Request.tame_stamped (v : VisitNo) (o : LogOutcome) (p : Option Nat) : (Request.stamped v o p).Tame :=
  ⟨trivial, nofun⟩

theorem Request.tame_return {l : ListId} (h : (Request.splice l .free).KeepsKinds) : (Request.splice l .free).Tame :=
  ⟨h, nofun⟩

theorem abortRequest_tame {v : VisitNo} {x : Visit} {c : AbortCourse} {q : Request}
    (h : abortRequest v x c = some q) : q.Tame := by
  have course : ∀ q ∈ abortCourse v x c.fromClearance, q.Tame := by
    intro q hq
    cases hc : c.fromClearance <;> simp only [abortCourse, hc, if_true, if_false, Bool.false_eq_true, List.mem_cons,
      List.not_mem_nil, or_false] at hq
    · rcases hq with rfl | rfl | rfl | rfl | rfl
      · exact Request.tame_return trivial
      · exact Request.tame_return trivial
      · exact Request.tame_return trivial
      · exact Request.tame_alloc (.inl rfl)
      · exact Request.tame_stamped _ _ _
    · rcases hq with rfl | rfl | rfl
      · exact Request.tame_stamped _ _ _
      · exact Request.tame_return trivial
      · exact Request.tame_return trivial
  rw [State.abortRequest_eq_course] at h
  exact course q (List.mem_of_getElem? h)

namespace Steady

variable {r s : State}

/-! ### Aborts (R38 to R41, R89) -/

theorem freeFrom (h : Steady r s) (v : VisitNo) (st : VisitState) : Steady r (s.freeFrom v st) :=
  h.changeVisit _ _ _

theorem presentAbort (h : Steady r s) (v : VisitNo) (l : LinkNo) : Steady r (s.presentAbort v l) := by
  unfold State.presentAbort
  split
  · exact h
  · split
    · exact h
    · next hq => exact h.present _ (abortRequest_tame hq)

theorem startAbort (h : Steady r s) (v : VisitNo) : Steady r (s.startAbort v) := by
  unfold State.startAbort
  split
  · exact h
  · split
    · exact h.presentAbort _ _
    · split
      · exact h.presentAbort _ _
      · exact h

theorem abortAnswered (h : Steady r s) (l : LinkNo) (v : VisitNo) (n : Option Nat) :
    Steady r (s.abortAnswered l v n) := by
  unfold State.abortAnswered
  split
  · exact h
  · simp only
    split
    · next hq => exact (h.setVisit _ _).ask _ _ (abortRequest_tame hq)
    · exact (h.freeFrom _ _).answer _ _ _

theorem abortUnrecorded (h : Steady r s) (l : LinkNo) (v : VisitNo) : Steady r (s.abortUnrecorded l v) :=
  ((h.freeFrom _ _).raise ⟨rfl, by decide⟩).answer _ _ _

/-! ### The Dispatch Check Unit (chapter 8) -/

theorem endCheck (h : Steady r s) (c : Check) (x : CheckRecord) (st : VisitState) (cl : Option Clearance) :
    Steady r (s.endCheck c x st cl) :=
  ((h.changeVisit _ _ _).setCheck none).raise ⟨rfl, by decide⟩

theorem nextCode_le {n : Nat} : State.nextCode n ≤ 65535 := by
  unfold State.nextCode Config.maxHalf
  split <;> omega

theorem endPass (h : Steady r s) (c : Check) : Steady r (s.endPass c) :=
  (h.setLogs { s.logs with codes := State.nextCode s.logs.codes } rfl rfl fun hs => ⟨hs.window, nextCode_le⟩).endCheck _ _ _ _

theorem report (h : Steady r s) (v : Option VisitNo) : Steady r (s.report v) := by
  unfold State.report
  split
  · exact h
  · split
    · split
      · exact h.setCheck _
      · exact h.endCheck _ _ _ _
    · exact h

theorem reportList (h : Steady r s) (l : ListId) : Steady r (s.reportList l) := by
  unfold State.reportList
  split
  · exact h.report _
  · exact h

theorem abandonCheck (h : Steady r s) (v : VisitNo) : Steady r (s.abandonCheck v) := by
  unfold State.abandonCheck
  split
  · exact h
  · split
    · split <;> exact h.setCheck _
    · exact h

theorem clearanceHead_kept (c d : Check) :
    (Request.alloc (.pend c.visit) .opened (State.clearanceHead d)).KeepsKinds := .inl rfl

theorem beginBuild (h : Steady r s) (c : Check) : Steady r (s.beginBuild c) :=
  (h.setCheck _).present _ (Request.tame_alloc (clearanceHead_kept c _))

theorem decideOutcome (h : Steady r s) (c : Check) : Steady r (s.decideOutcome c) := by
  unfold State.decideOutcome
  split
  · exact h.endCheck _ _ _ _
  · exact h.beginBuild _

theorem buildGoesOn (h : Steady r s) (c : Check) (i : SlotRef) : Steady r (s.buildGoesOn c i) := by
  unfold State.buildGoesOn
  simp only
  split
  · exact (h.setCheck _).present _ (Request.tame_alloc (.inr rfl))
  · exact (h.setCheck _).present _ (Request.tame_write _ _ _)

theorem beginUnwind (h : Steady r s) (c : Check) : Steady r (s.beginUnwind c) :=
  (h.setCheck _).present _ (Request.tame_return trivial)

theorem judgeGoesOn (h : Steady r s) (c : Check) (j : Judge × Option Ask) : Steady r (s.judgeGoesOn c j) := by
  unfold State.judgeGoesOn
  simp only
  split
  · exact h.setCheck _
  · split
    · exact h.decideOutcome _
    · exact h.setCheck _

theorem checkTakes (h : Steady r s) {f : Check → State} (hf : ∀ c, Steady r (f c)) : Steady r (s.checkTakes f) := by
  unfold State.checkTakes
  split
  · exact h
  · split
    · exact (h.setCheck _).startAbort _
    · exact hf _

theorem checkJudges (h : Steady r s) {f : Check → State} (hf : ∀ c, Steady r (f c)) :
    Steady r (s.checkJudges f) :=
  h.checkTakes fun c => by
    split
    · exact h.endCheck _ _ _ _
    · exact hf c

theorem checkRead (h : Steady r s) (l : ListId) (a : ReadAnswer) : Steady r (s.checkRead l a) :=
  h.checkJudges fun c => by
    split
    · exact (h.setCheck _).present _ (Request.tame_read _ _)
    · exact h.judgeGoesOn _ _
    · exact h

theorem checkAlloc (h : Steady r s) (i : Option SlotRef) : Steady r (s.checkAlloc i) := by
  cases i with
  | none => exact h.checkTakes fun c => h.beginUnwind c
  | some i => exact h.checkTakes fun c => h.buildGoesOn c i

theorem checkWrite (h : Steady r s) (b : Bool) : Steady r (s.checkWrite b) :=
  h.checkTakes fun c => by
    split
    · exact h.endPass c
    · exact h.beginUnwind c

theorem checkSplice (h : Steady r s) : Steady r s.checkSplice := h.checkTakes fun _ => h.endCheck _ _ _ _

theorem checkAnswered (h : Steady r s) : Steady r s.checkAnswered := by
  unfold State.checkAnswered
  split
  · exact h
  · exact h.setCheck _

end Steady

/-! ### The driver table (chapter 7) -/

namespace Driver

variable {d : Driver} {x : RuleSet}

theorem applyBreak_card (n l : Nat) : (d.applyBreak x n l).card = d.card := by
  unfold applyBreak; split <;> rfl

theorem endBreak_card (n : Nat) : (d.endBreak x n).card = d.card := by
  unfold endBreak; split
  · exact applyBreak_card _ _
  · rfl

/-- The end of a break leaves figures, floors and credit in their ranges, and the link (R117). -/
theorem Sound.applyBreak (h : d.Sound x) (hx : RulesRanged x) (n l : Nat) :
    FiguresOrdered (d.applyBreak x n l).day (d.applyBreak x n l).cont (d.applyBreak x n l).week ∧
      (∀ w, (d.applyBreak x n l).floors = some w → FiguresOrdered w.day w.cont w.week) ∧
      (d.applyBreak x n l).credit < x.b ∧ (d.applyBreak x n l).linked = d.linked := by
  have hb := hx.b
  have hc := h.credit
  obtain ⟨h1, h2, h3, h4⟩ := h.figures
  unfold Driver.applyBreak
  split
  · exact ⟨⟨le_refl 0, by simp, by simp, h4⟩, by simp, by simp; omega, rfl⟩
  · exact ⟨⟨by simp, h2, h3, h4⟩, h.floors, by simp; omega, rfl⟩
  · next hk =>
    refine ⟨h.figures, h.floors, ?_, rfl⟩
    unfold breakCase at hk
    split at hk
    · cases hk
    · split at hk
      · cases hk
      · split at hk
        · simp only; omega
        · cases hk
  · exact ⟨h.figures, h.floors, hc, rfl⟩

theorem Sound.endBreak (h : d.Sound x) (hx : RulesRanged x) (n : Nat) : (d.endBreak x n).Sound x := by
  unfold Driver.endBreak
  split
  · next ha =>
    obtain ⟨f, w, c, k⟩ := h.applyBreak hx n (d.breakLength n)
    exact ⟨f, w, c, by simp [k, h.linked, ha], by simp⟩
  · exact h

theorem Sound.startBreak (h : d.Sound x) (ha : d.activity ≠ .absent) (n : Nat) :
    Driver.Sound { d with activity := .onBreak, breakStart := some n } x :=
  ⟨h.figures, h.floors, h.credit, by simp [h.linked, ha], by simp⟩

theorem Sound.unlink (h : d.Sound x) (n : Nat) : (d.unlink n).Sound x :=
  ⟨h.figures, h.floors, h.credit, by simp [Driver.unlink], by simp [Driver.unlink]⟩

theorem Sound.setFloors (h : d.Sound x) : d.setFloors.Sound x :=
  ⟨h.figures, fun w hw => by cases hw; exact h.figures, h.credit, h.linked, h.started⟩

/-- The continuous drive after the last road break of a solo trip is at most the limit and the trip's addition (R121). -/
theorem lastLeg_le {p lCont cont k : Nat} (hk : k = ceilDiv ((p : Int) - ((lCont : Int) - cont)).toNat lCont)
    (h0 : k ≠ 0) (hl : 0 < lCont) :
    ((p : Int) - ((lCont : Int) - cont) - ((k : Int) - 1) * lCont).toNat ≤ lCont ∧
      ((p : Int) - ((lCont : Int) - cont) - ((k : Int) - 1) * lCont).toNat ≤ cont + p := by
  generalize ha : ((p : Int) - ((lCont : Int) - cont)).toNat = a at hk
  have cover : a ≤ k * lCont := by
    have h1 := Nat.div_add_mod (a + lCont - 1) lCont
    have h2 := Nat.mod_lt (a + lCont - 1) hl
    rw [hk, ceilDiv, Nat.mul_comm]
    omega
  obtain ⟨j, rfl⟩ : ∃ j, k = j + 1 := ⟨k - 1, by omega⟩
  have hj : ((j + 1 : Nat) : Int) - 1 = (j : Int) := by omega
  rw [Nat.add_mul, Nat.one_mul] at cover
  rw [hj]
  have hm : ((j : Int) * lCont) = ((j * lCont : Nat) : Int) := by simp
  rw [hm]
  omega

theorem Sound.commitSolo (h : d.Sound x) (hx : RulesRanged x) (p : Nat) : (d.commitSolo x p).Sound x := by
  have hb := hx.b
  have hl := hx.lCont
  have hc := h.credit
  obtain ⟨h1, h2, h3, h4⟩ := h.figures
  refine ⟨?_, h.floors, ?_, h.linked, h.started⟩
  · unfold Driver.commitSolo FiguresOrdered
    simp only
    split
    · omega
    · next h0 =>
      unfold roadBreaks at h0
      split at h0
      · exact absurd rfl h0
      · next hp =>
        have := lastLeg_le (p := p) (cont := d.cont) (lCont := x.lCont) rfl h0 (by omega)
        rw [show roadBreaks x p ((x.lCont : Int) - d.cont) =
          ceilDiv ((p : Int) - ((x.lCont : Int) - d.cont)).toNat x.lCont from if_neg hp]
        omega
  · unfold Driver.commitSolo
    simp only
    split
    · exact hc
    · omega

theorem Sound.commitCrew (h : d.Sound x) (hx : RulesRanged x) (p : Nat) : (d.commitCrew x p).Sound x := by
  have hl := hx.lCont
  obtain ⟨h1, h2, h3, h4⟩ := h.figures
  exact ⟨by simp only [Driver.commitCrew, FiguresOrdered]; omega, h.floors, h.credit, h.linked, h.started⟩

theorem depart_card (n p : Nat) (crew : Bool) : (d.depart x n p crew).card = d.card := by
  have := endBreak_card (d := d) (x := x) n
  cases crew <;> exact this

theorem Sound.depart (h : d.Sound x) (hx : RulesRanged x) (n p : Nat) (crew : Bool) :
    (d.depart x n p crew).Sound x := by
  have hf := (h.endBreak hx n).setFloors
  cases crew
  · exact (hf.commitSolo hx p).unlink n
  · exact (hf.commitCrew hx p).unlink n

theorem Sound.capCredit (h : d.Sound x) {y : RuleSet} (hy : RulesRanged y) : (d.capCredit y.b).Sound y := by
  have hb := hy.b
  unfold Driver.capCredit
  split
  · exact ⟨h.figures, h.floors, by simp only; omega, h.linked, h.started⟩
  · exact ⟨h.figures, h.floors, by omega, h.linked, h.started⟩

theorem capCredit_card (b : Nat) : (d.capCredit b).card = d.card := by
  unfold capCredit; split <;> rfl

end Driver

/-- R111 to R113: an admitted entry is sound. -/
theorem admission_sound {x : RuleSet} (hx : RulesRanged x) (n : Nat) (v : VisitNo) (card : Nat) (f : Figures)
    {old : Option Driver} (ho : ∀ d, old = some d → d.Sound x) :
    (admission x n v card f old).entry.Sound x ∧ (admission x n v card f old).entry.card = card := by
  have hb := hx.b
  have fresh : ∀ (day cont week start : Nat) (w : Option Floors) (m : Option Nat), FiguresOrdered day cont week →
      (∀ y, w = some y → FiguresOrdered y.day y.cont y.week) →
      Driver.Sound
        { card, activity := .duty, day, cont, week, spanStart := start, credit := min f.c (x.b - 1),
          breakStart := none, lastDeparture := m, floors := w, linked := some v } x := by
    intro day cont week start w m hf hw
    exact ⟨hf, hw, by simp only; omega, by simp, by simp⟩
  have declared : FiguresOrdered (min f.day 1440) (min f.cont (min f.day 1440))
      (max (min f.week 8191) (min f.day 1440)) := by
    unfold FiguresOrdered; omega
  unfold admission
  simp only [clampFigures]
  cases old with
  | none => exact ⟨fresh _ _ _ _ _ _ declared nofun, rfl⟩
  | some d =>
    cases hw : d.floors with
    | none => simp only [hw]; exact ⟨fresh _ _ _ _ _ _ declared nofun, trivial⟩
    | some w =>
      simp only [hw]
      split
      · obtain ⟨h1, h2, h3, h4⟩ := (ho d rfl).floors w hw
        refine ⟨fresh _ _ _ _ _ _ ?_ (fun y hy => ?_), rfl⟩
        · unfold FiguresOrdered; omega
        · cases hy; exact ⟨h1, h2, h3, h4⟩
      · exact ⟨fresh _ _ _ _ _ _ declared nofun, rfl⟩

/-- R107, R108: a clamped rule set is in its ranges. -/
theorem clampRules_ranged (x : RuleSet) : RulesRanged (clampRules x) := by
  constructor <;> simp only [clampRules, clamp] <;> omega

theorem defaultRules_ranged : RulesRanged defaultRules := by constructor <;> decide

/-- What `entryOf` answers: an entry that holds the card, or that none does (R105). -/
theorem entryOf_some {s : State} {card : Nat} {e : EntryNo} (h : s.entryOf card = some e) :
    ∃ d, s.driver e = some d ∧ d.card = card := by
  have := List.find?_some h
  revert this
  split
  · next d hd => exact fun hc => ⟨d, hd, by simpa using hc⟩
  · simp

theorem entryOf_none {s : State} {card : Nat} (h : s.entryOf card = none) {e : EntryNo} {d : Driver}
    (hd : s.driver e = some d) : d.card ≠ card := by
  have := List.find?_eq_none.1 h e (List.mem_finRange e)
  rw [hd] at this
  simpa using this

namespace DriversSound

variable {s : State}

/-- An entry replaced by a sound one whose card no other entry holds. -/
theorem setDriver (h : DriversSound s) {e : EntryNo} {d : Driver} (hd : d.Sound s.rules)
    (hc : ∀ f g, f ≠ e → s.driver f = some g → g.card ≠ d.card) : DriversSound (s.setDriver e (some d)) := by
  refine ⟨h.rules, fun f g hg => ?_, fun f g x y hx hy hxy => ?_⟩
  · rw [State.driver_setDriver] at hg
    split at hg
    · cases hg; exact hd
    · exact h.sound f g hg
  · rw [State.driver_setDriver] at hx hy
    split at hx <;> split at hy
    · next a b => exact a.symm.trans b
    · next a b => cases hx; exact absurd hxy.symm (hc g y (Ne.symm b) hy)
    · next a b => cases hy; exact absurd hxy (hc f x (Ne.symm a) hx)
    · exact h.unique f g x y hx hy hxy

/-- A held entry changed with its card kept. -/
theorem changeDriver (h : DriversSound s) {e : EntryNo} {d d' : Driver} (he : s.driver e = some d)
    (hd : d'.Sound s.rules) (hc : d'.card = d.card) : DriversSound (s.setDriver e (some d')) :=
  h.setDriver hd fun f g hf hg e' => hf (h.unique f e g d hg he (e'.trans hc))

theorem withRules (h : DriversSound s) {x : RuleSet} (hx : RulesRanged x) : DriversSound (s.withRules x) := by
  have entry : ∀ e d, (s.withRules x).driver e = some d → ∃ d₀, s.driver e = some d₀ ∧ d₀.capCredit x.b = d := by
    intro e d hd
    simp only [State.driver, State.withRules, tget_map, Option.map_eq_some_iff] at hd
    exact hd
  refine ⟨hx, fun e d hd => ?_, fun e f d g hd hg hdg => ?_⟩
  · obtain ⟨d₀, h₀, rfl⟩ := entry e d hd
    exact (h.sound e d₀ h₀).capCredit hx
  · obtain ⟨d₀, h₀, rfl⟩ := entry e d hd
    obtain ⟨g₀, k₀, rfl⟩ := entry f g hg
    rw [Driver.capCredit_card, Driver.capCredit_card] at hdg
    exact h.unique e f d₀ g₀ h₀ k₀ hdg

/-- R113: an admission takes an entry that holds the card, or one for a card that no entry holds. -/
theorem admitDriver (h : DriversSound s) (w : ArriveWork) (cards : List Nat) (v : VisitNo) (card : Nat)
    (f : Figures) : DriversSound (s.admitDriver w cards v card f).1 := by
  unfold State.admitDriver
  split
  · exact h
  · next e he =>
    have old : ∀ d, (s.driver e).filter (fun d => d.card == card) = some d → d.Sound s.rules := fun d hd =>
      h.sound e d (Option.filter_eq_some_iff.1 hd).1
    obtain ⟨hs, hc⟩ := admission_sound h.rules s.now v card f old
    refine h.setDriver hs fun i g hi hg => ?_
    rw [hc]
    unfold State.entryFor at he
    split at he
    · next e' ho =>
      cases he
      obtain ⟨d, hd, hdc⟩ := entryOf_some ho
      exact fun e' => hi (h.unique i e g d hg hd (e'.trans hdc.symm))
    · next ho => exact entryOf_none ho hg

theorem changeLinked (v : VisitNo) {f : Driver → Driver} (cs : List Nat) :
    ∀ {s : State}, (∀ d, d.Sound s.rules → (f d).Sound s.rules ∧ (f d).card = d.card) → DriversSound s →
      DriversSound (s.changeLinked v f cs) := by
  induction cs with
  | nil => exact fun _ h => h
  | cons c cs ih =>
    intro s hf h
    unfold State.changeLinked
    simp only
    split
    · exact ih hf h
    · split
      · next d hd =>
        split
        · exact ih hf (h.changeDriver hd (hf d (h.sound _ d hd)).1 (hf d (h.sound _ d hd)).2)
        · exact ih hf h
      · exact ih hf h

end DriversSound

/-! ### Changes of the driver table -/

namespace State

theorem admitDriver_eq (s : State) (w : ArriveWork) (cards : List Nat) (v : VisitNo) (card : Nat) (f : Figures) :
    (s.admitDriver w cards v card f).1 = { s with drivers := (s.admitDriver w cards v card f).1.drivers } := by
  unfold admitDriver; split <;> rfl

theorem admitCo_eq (s : State) (w : ArriveWork) (cards : List Nat) (v : VisitNo) :
    (s.admitCo w cards v).1 = { s with drivers := (s.admitCo w cards v).1.drivers } := by
  unfold admitCo
  split
  · rfl
  · exact admitDriver_eq _ _ _ _ _ _

theorem changeLinked_eq (v : VisitNo) (f : Driver → Driver) (cs : List Nat) (s : State) :
    s.changeLinked v f cs = { s with drivers := (s.changeLinked v f cs).drivers } := by
  induction cs generalizing s with
  | nil => rfl
  | cons c cs ih =>
    unfold changeLinked
    rw [ih]
    simp only
    split
    · rfl
    · split
      · split <;> rfl
      · rfl

end State

namespace Steady

variable {r s : State}

theorem setDrivers {t : State} (h : Steady r s) (hl : t = { s with drivers := t.drivers })
    (hd : DriversSound s → DriversSound t) : Steady r t := by
  refine h.trans (of_drivers ?_ hd)
  rw [hl]

theorem admitDriver (h : Steady r s) (w : ArriveWork) (cards : List Nat) (v : VisitNo) (card : Nat) (f : Figures) :
    Steady r (s.admitDriver w cards v card f).1 :=
  h.setDrivers (State.admitDriver_eq _ _ _ _ _ _) fun hs => hs.admitDriver _ _ _ _ _

theorem admitCo (h : Steady r s) (w : ArriveWork) (cards : List Nat) (v : VisitNo) :
    Steady r (s.admitCo w cards v).1 := by
  unfold State.admitCo
  split
  · exact h
  · exact h.admitDriver _ _ _ _ _

theorem commitTrip (h : Steady r s) (v : VisitNo) : Steady r (s.commitTrip v) :=
  h.setDrivers (State.changeLinked_eq _ _ _ _) fun hs =>
    .changeLinked v _ (fun _ hd => ⟨hd.depart hs.rules _ _ _, Driver.depart_card _ _ _⟩) hs

theorem releaseDrivers (h : Steady r s) (v : VisitNo) : Steady r (s.releaseDrivers v) :=
  h.setDrivers (State.changeLinked_eq _ _ _ _) fun hs =>
    .changeLinked v _ (fun _ hd => ⟨(hd.endBreak hs.rules _).unlink _, Driver.endBreak_card _⟩) hs

theorem breakItem (h : Steady r s) {e : EntryNo} {d d' : Driver} (he : s.driver e = some d)
    (hd : DriversSound s → d'.Sound s.rules) (hc : d'.card = d.card) : Steady r (s.breakItem e d') := by
  have hset : Steady r (s.setDriver e (some d')) := h.setDrivers rfl fun hs => hs.changeDriver he (hd hs) hc
  unfold State.breakItem
  split
  · exact hset.report _
  · exact hset

theorem atCard (h : Steady r s) (l : LinkNo) (card : Nat) {f : EntryNo → Driver → State}
    (hf : ∀ e d, s.driver e = some d → d.activity ≠ .absent → Steady r (f e d)) :
    Steady r (s.atCard l card f) := by
  unfold State.atCard
  split
  · exact h.refuse _ _
  · split
    · exact h.refuse _ _
    · split
      · exact h.refuse _ _
      · next hd =>
        split
        · exact h.refuse _ _
        · next ha => exact hf _ _ hd ha

theorem onBreakStart (h : Steady r s) (l : LinkNo) (card : Nat) : Steady r (s.onBreakStart l card) :=
  h.atCard l card fun _ _ hd ha => by
    split
    · exact h.answer _ _ _
    · exact (h.breakItem hd (fun hs => (hs.sound _ _ hd).startBreak ha _) rfl).answer _ _ _

theorem onBreakEnd (h : Steady r s) (l : LinkNo) (card : Nat) : Steady r (s.onBreakEnd l card) :=
  h.atCard l card fun _ _ hd _ => by
    split
    · exact (h.breakItem hd (fun hs => (hs.sound _ _ hd).endBreak hs.rules _) (Driver.endBreak_card _)).answer _ _ _
    · exact h.answer _ _ _

theorem onDriverRead (h : Steady r s) (l : LinkNo) (selector value : Nat) :
    Steady r (s.onDriverRead l selector value) := by
  unfold State.onDriverRead
  split
  · split
    · exact h.refuse _ _
    · exact h.answer _ _ _
  · split
    · exact h.refuse _ _
    · exact h.answer _ _ _
  · exact h.refuse _ _

end Steady

end Sys2Proof.Machine
end

section
/-! PROOFS. The items of every chapter, the events that take no grant, and the answers to grants are steady. -/

namespace Sys2Proof.Machine

/-! ### The setup items (chapters 4, 7 and 12) -/

theorem hasFlag_clear (w clear : FlagWord) {f : Flag} (hf : f.isCondition = true) :
    hasFlag (w &&& ~~~(clear &&& ~~~conditionBits)) f = hasFlag w f := by
  cases f <;> simp [Flag.isCondition] at hf <;>
    simp [hasFlag, conditionBits, Flag.bit, Flag.position]

theorem clearNotes_line (l : LinkNo) (k : Link) (clear : FlagWord) (mask : Option FlagWord) :
    LineSteady l k (State.clearNotes l k clear mask) where
  condition f hf := hasFlag_clear _ _ hf
  flags h := by
    show (k.flags &&& _) &&& _ = 0
    rw [BitVec.and_assoc, BitVec.and_comm (~~~_), ← BitVec.and_assoc, h]
    simp
  mask h := by
    cases mask with
    | none => exact h
    | some m =>
      show (m &&& carried l) &&& _ = 0
      simp [BitVec.and_assoc]

theorem namesAll_iff {ps : List Requester} : State.namesAll ps = true ↔ ∀ p, p ∈ ps := by
  constructor
  · intro h p
    have all := List.all_eq_true.1 h p (by cases p <;> decide)
    simpa using all
  · intro h
    exact List.all_eq_true.2 fun p _ => by simpa using h p

/-- The entries of a SERVICE_LOAD as requesters are those numbered so (R198). -/
theorem serviceEntries_eq_some {ns : List Nat} {ps : List Requester} :
    State.serviceEntries ns = some ps ↔ ps.map Requester.value = ns := by
  have one : ∀ n p, requester? n = some p ↔ p.value = n := by
    intro n p
    constructor
    · intro h
      unfold requester? at h
      split at h <;> cases h <;> rfl
    · rintro rfl
      cases p <;> rfl
  induction ns generalizing ps with
  | nil => cases ps <;> simp [State.serviceEntries]
  | cons n ns ih =>
    cases ps with
    | nil => unfold State.serviceEntries; split <;> simp
    | cons p ps =>
      rw [List.map_cons, List.cons.injEq]
      refine Iff.trans ?_ (and_congr (one n p) (ih (ps := ps)))
      cases hp : requester? n <;> cases hs : State.serviceEntries ns <;> simp [State.serviceEntries, hp, hs]

theorem serviceEntries_length {ns : List Nat} {ps : List Requester} (h : State.serviceEntries ns = some ps) :
    ps.length = ns.length := by
  rw [← serviceEntries_eq_some.1 h, List.length_map]

theorem follow_follows (s : State) : FlagsFollow s.follow := by
  constructor <;> simp [State.follow, State.link, Links.get, Links.put, hasFlag_putFlag] <;> rfl

theorem putFlag_carried {w c : FlagWord} {f : Flag} {b : Bool} (h : w &&& ~~~c = 0) (hf : f.bit &&& ~~~c = 0) :
    putFlag w f b &&& ~~~c = 0 := by
  cases b
  · show (w &&& ~~~f.bit) &&& ~~~c = 0
    rw [BitVec.and_assoc, BitVec.and_comm (~~~_), ← BitVec.and_assoc, h]
    simp
  · show (w ||| f.bit) &&& ~~~c = 0
    rw [BitVec.and_comm, BitVec.and_or_distrib_left, BitVec.and_comm _ w, h, BitVec.and_comm, hf]
    rfl

theorem follow_carried {s : State} (h : FlagsCarried s) : FlagsCarried s.follow := by
  intro l
  cases l
  · exact ⟨putFlag_carried (putFlag_carried (putFlag_carried (h .office).1 (by decide)) (by decide)) (by decide),
      (h .office).2⟩
  · exact h .loading
  · exact h .gate
  · exact ⟨putFlag_carried (h .audit).1 (by decide), (h .audit).2⟩

/-- A decoded SETTINGS carries bytes. -/
def SettingsBytes (o : Option Instr) : Prop :=
  ∀ h a b c, o = some (.settings h a b c) → (∀ x, a = some x → x ≤ 255) ∧ ∀ x, c = some x → x ≤ 255

theorem settingsBytes_map {α : Type} {f : α → Instr} (hf : ∀ x h a b c, f x ≠ .settings h a b c) (o : Option α) :
    SettingsBytes (o.map f) := by
  intro h a b c ho
  cases o with
  | none => cases ho
  | some x => exact absurd (Option.some.inj ho) (hf x h a b c)

theorem opt?_byte {p v : Byte} {o : Option Nat} (ho : opt? p v.toNat = some o) (x : Nat) (hx : o = some x) :
    x ≤ 255 := by
  subst hx
  simp only [opt?, Option.map_eq_some_iff] at ho
  obtain ⟨_, _, ho⟩ := ho
  split at ho <;> cases ho
  have := v.isLt
  omega

/-- The kinds of a setup item whose bodies have a fixed form. -/
theorem decodeSetup_fixed (hd : Head) {k : Nat} (bs : List Byte) (hk : k ∉ [3, 4, 7, 8, 9]) :
    SettingsBytes (decodeSetup hd k bs) := by
  rcases k with _ | _ | _ | _ | _ | _ | _ | _ | _ | _ | _ | _ | _ | _ | k <;> try (simp at hk; done)
  all_goals rcases bs with _ | ⟨_, _ | ⟨_, _ | ⟨_, _ | ⟨_, _ | ⟨_, _ | _⟩⟩⟩⟩⟩ <;> exact nofun

theorem decodeSetup_rules (hd : Head) (bs : List Byte) : SettingsBytes (decodeSetup hd 3 bs) := by
  rcases bs with _ | ⟨_, _ | ⟨_, _ | ⟨_, _ | ⟨_, _ | ⟨_, _ | ⟨_, _ | ⟨_, _ | ⟨_, _ | ⟨_, _ | ⟨_, _ | ⟨_, _ | ⟨_,
    _ | ⟨_, _ | ⟨_, _ | ⟨_, _ | ⟨_, _ | _⟩⟩⟩⟩⟩⟩⟩⟩⟩⟩⟩⟩⟩⟩⟩⟩ <;> exact nofun

theorem decodeSetup_band (hd : Head) (bs : List Byte) : SettingsBytes (decodeSetup hd 4 bs) := by
  rcases bs with _ | ⟨_, _ | ⟨_, _ | ⟨_, _ | ⟨_, _ | ⟨_, _ | ⟨_, _ | ⟨_, _ | ⟨_, _ | ⟨r, _ | _⟩⟩⟩⟩⟩⟩⟩⟩⟩
  case cons.cons.cons.cons.cons.cons.cons.cons.cons.nil => exact settingsBytes_map nofun (bit? r)
  all_goals exact nofun

theorem decodeSetup_service (hd : Head) (bs : List Byte) : SettingsBytes (decodeSetup hd 7 bs) := by
  cases bs with
  | nil => exact nofun
  | cons n bs =>
    show SettingsBytes (if _ then _ else _)
    split <;> exact nofun

theorem decodeSetup_settings (hd : Head) (bs : List Byte) : SettingsBytes (decodeSetup hd 8 bs) := by
  rcases bs with _ | ⟨p, _ | ⟨x, _ | ⟨q, _ | ⟨y, _ | ⟨r, _ | ⟨z, _ | _⟩⟩⟩⟩⟩⟩
  case cons.cons.cons.cons.cons.cons.nil =>
    intro h a b c ho
    replace ho : (match opt? p x.toNat, opt? q y.toNat, opt? r z.toNat with
      | some x, some y, some z => some (Instr.settings hd x y z)
      | _, _, _ => none) = some (.settings h a b c) := ho
    split at ho
    · next hx _ hz =>
      cases ho
      exact ⟨opt?_byte hx, opt?_byte hz⟩
    · cases ho
  all_goals exact nofun

theorem decodeSetup_ident (hd : Head) (bs : List Byte) : SettingsBytes (decodeSetup hd 9 bs) := by
  rcases bs with _ | ⟨p, _ | ⟨a, _ | ⟨b, _ | ⟨c, _ | ⟨d, _ | ⟨q, bs⟩⟩⟩⟩⟩⟩
  case cons.cons.cons.cons.cons.cons =>
    intro h x y z ho
    replace ho : (match opt? p (nat32 a b c d), getLabel q bs with
      | some x, some y => some (Instr.identWrite hd x y)
      | _, _ => none) = some (.settings h x y z) := ho
    split at ho <;> cases ho
  all_goals exact nofun

theorem getArrive_kind {h : Head} {t d : Nat} {bs : List Byte} {i : Instr} (hi : getArrive h t d bs = some i) :
    i.kind = 23 := by
  unfold getArrive at hi
  split at hi
  · split at hi
    · cases hi; rfl
    · cases hi
  · cases hi

theorem decodeTarget_settings (hd : Head) (v t : Nat) {k : Nat} (bs : List Byte) (hk : targetKind k = true) :
    SettingsBytes (decodeTarget hd v t k bs) := by
  have kinds : k = 14 ∨ k = 15 ∨ k = 34 ∨ k ∈ [16, 19, 20, 21, 22, 26, 27] := by
    simp only [targetKind, Bool.or_eq_true, beq_iff_eq] at hk
    simp only [List.mem_cons, List.not_mem_nil, or_false]
    omega
  rcases kinds with rfl | rfl | rfl | hk
  · rcases bs with _ | ⟨n3, _ | ⟨n2, _ | ⟨n1, _ | ⟨n0, _ | ⟨p1, _ | ⟨p0, _ | ⟨qp, _ | ⟨q1, _ | ⟨q0, _ | ⟨ep, _ | ⟨e,
      _ | ⟨r, _ | _⟩⟩⟩⟩⟩⟩⟩⟩⟩⟩⟩⟩
    case cons.cons.cons.cons.cons.cons.cons.cons.cons.cons.cons.cons.nil =>
      intro h x y z ho
      replace ho : (match opt? qp (nat16 q1 q0), opt? ep e.toNat, bit? r with
        | some q, some e, some r => some (Instr.paperOpen hd v t (nat32 n3 n2 n1 n0) (nat16 p1 p0) q e r)
        | _, _, _ => none) = some (.settings h x y z) := ho
      split at ho <;> cases ho
    all_goals exact nofun
  · cases bs with
    | nil => exact nofun
    | cons n bs => exact settingsBytes_map nofun (getLines n.toNat bs)
  · rcases bs with _ | ⟨c, _ | _⟩
    case cons.nil => exact settingsBytes_map nofun (bit? c)
    all_goals exact nofun
  · simp only [List.mem_cons, List.not_mem_nil, or_false] at hk
    rcases hk with rfl | rfl | rfl | rfl | rfl | rfl | rfl
    all_goals rcases bs with _ | ⟨_, _ | ⟨_, _ | ⟨_, _ | ⟨_, _ | ⟨_, _ | _⟩⟩⟩⟩⟩ <;> exact nofun

theorem decodeOther_settings (hd : Head) {k : Nat} (bs : List Byte) (hl : 13 < k) (hk : targetKind k = false) :
    SettingsBytes (decodeOther hd k bs) := by
  have kinds : k = 23 ∨ k = 33 ∨ k = 37 ∨ k ∈ [17, 18, 24, 25, 28, 29, 30, 31, 32, 35, 36, 38] ∨ 39 ≤ k := by
    simp only [targetKind, Bool.or_eq_false_iff, beq_eq_false_iff_ne] at hk
    simp only [List.mem_cons, List.not_mem_nil, or_false]
    omega
  rcases kinds with rfl | rfl | rfl | hk | hk
  · rcases bs with _ | ⟨_, _ | ⟨_, _ | ⟨_, _ | ⟨_, _ | ⟨_, _ | ⟨_, _ | ⟨_, _ | ⟨_, bs⟩⟩⟩⟩⟩⟩⟩⟩
    case cons.cons.cons.cons.cons.cons.cons.cons => exact fun h a b c ho => nomatch getArrive_kind ho
    all_goals exact nofun
  · rcases bs with _ | ⟨p, _ | ⟨v, _ | _⟩⟩
    case cons.cons.nil => exact settingsBytes_map nofun (opt? p v.toNat)
    all_goals exact nofun
  · rcases bs with _ | ⟨_, _ | ⟨_, _ | ⟨p, _ | ⟨m1, _ | ⟨m0, _ | _⟩⟩⟩⟩⟩
    case cons.cons.cons.cons.cons.nil => exact settingsBytes_map nofun (opt? p (nat16 m1 m0))
    all_goals exact nofun
  · simp only [List.mem_cons, List.not_mem_nil, or_false] at hk
    rcases hk with rfl | rfl | rfl | rfl | rfl | rfl | rfl | rfl | rfl | rfl | rfl | rfl
    all_goals rcases bs with _ | ⟨_, _ | ⟨_, _ | ⟨_, _ | ⟨_, _ | ⟨_, _ | _⟩⟩⟩⟩⟩ <;> exact nofun
  · obtain ⟨n, rfl⟩ : ∃ n, k = n + 39 := ⟨k - 39, by omega⟩
    exact nofun

/-- The values that a SETTINGS carries are bytes (R198). -/
theorem decodeItem_settings (l : LinkNo) (i : RawItem) : SettingsBytes (decodeItem l i) := by
  unfold decodeItem
  simp only
  generalize i.kind.toNat = k
  split
  · by_cases hk : k ∈ [3, 4, 7, 8, 9]
    · simp only [List.mem_cons, List.not_mem_nil, or_false] at hk
      rcases hk with rfl | rfl | rfl | rfl | rfl
      · exact decodeSetup_rules _ _
      · exact decodeSetup_band _ _
      · exact decodeSetup_service _ _
      · exact decodeSetup_settings _ _
      · exact decodeSetup_ident _ _
    · exact decodeSetup_fixed _ _ hk
  · next hl =>
    split
    · next hk => exact decodeTarget_settings _ _ _ _ hk
    · next hk => exact decodeOther_settings _ _ (by omega) (by simpa using hk)

/-- What the next item of a link spells is decoded from an item of its telegram (R190). -/
theorem nextItem_decoded {s : State} {l : LinkNo} {i : Instr} (h : s.nextItem l = some i) :
    ∃ raw, decodeItem l raw = some i := by
  unfold State.nextItem at h
  split at h
  · split at h
    · split at h
      · exact ⟨_, h⟩
      · cases h
    · cases h
  · cases h

namespace Steady

variable {r s : State}

theorem unlessLocked (h : Steady r s) (l : LinkNo) {b : Bool} {t : State} (ht : b = true → Steady r t) :
    Steady r (s.unlessLocked l b t) := by
  unfold State.unlessLocked
  split
  · exact h.refuse _ _
  · next hb =>
    split
    · exact h.refuse _ _
    · exact ht (by simpa using hb)

theorem onRulesLoad (h : Steady r s) (l : LinkNo) (x : RuleSet) : Steady r (s.onRulesLoad l x) :=
  h.unlessLocked l fun _ =>
    ((h.trans (of_drivers rfl fun hs => hs.withRules (clampRules_ranged x))).report none).answer _ _ _

theorem writeClasses (h : Steady r s) (x : ClassTable) (hs : s.classes.Symmetric → x.Symmetric)
    (hx : s.classes.Ranged → x.Ranged) : Steady r (s.writeClasses x) := (h.setClasses x hs hx).report none

theorem onBandLoad (h : Steady r s) (l : LinkNo) (band upper group permille litres : Nat) (b : Bool) :
    Steady r (s.onBandLoad l band upper group permille litres b) := by
  unfold State.onBandLoad
  split
  · exact h.refuse _ _
  · next i _ =>
    refine h.unlessLocked l fun hw => ?_
    simp only [Bool.and_eq_true, decide_eq_true_eq] at hw
    refine (h.writeClasses { s.classes with
      bands := tset s.classes.bands i (.mk upper group (min permille 100) (min litres 1000) b) } id fun hs => ?_).answer _ _ _
    have put : ∀ (P : Band → Prop), P ⟨upper, group, min permille 100, min litres 1000, b⟩ →
        (∀ j, P (tget s.classes.bands j)) → ∀ j,
          P (tget (tset s.classes.bands i ⟨upper, group, min permille 100, min litres 1000, b⟩) j) := by
      intro P hp hall j
      rw [tget_tset]
      split
      · exact hp
      · exact hall j
    exact ⟨put (fun x => x.upper ≤ 10000) hw.1 hs.upper, put (fun x => x.group ≤ 15) hw.2 hs.group,
      put (fun x => x.permille ≤ 100) (by simp) hs.permille, put (fun x => x.litres ≤ 1000) (by simp) hs.litres,
      hs.chunk⟩

theorem cell_inj {a b c d : Fin 16} (h : ClassTable.cell a b = ClassTable.cell c d) : a = c ∧ b = d := by
  have := congrArg Fin.val h
  simp only [ClassTable.cell] at this
  exact ⟨Fin.ext (by omega), Fin.ext (by omega)⟩

/-- R69, R70: a pair marked both ways keeps the matrix symmetric. -/
theorem mark_symmetric {t : ClassTable} (h : t.Symmetric) (i j : Fin 16) (m : Bool) : (t.mark i j m).Symmetric := by
  intro a b
  have swap : ∀ c d e f, ClassTable.cell c d = ClassTable.cell e f ↔ ClassTable.cell d c = ClassTable.cell f e := by
    intro c d e f
    constructor <;> intro e' <;> obtain ⟨rfl, rfl⟩ := cell_inj e' <;> rfl
  have e₁ : (ClassTable.cell i j = ClassTable.cell b a) = (ClassTable.cell j i = ClassTable.cell a b) :=
    propext (swap i j b a)
  have e₂ : (ClassTable.cell j i = ClassTable.cell b a) = (ClassTable.cell i j = ClassTable.cell a b) :=
    propext (swap j i b a)
  simp only [ClassTable.mark, tget_tset, e₁, e₂, h b a]
  split <;> split <;> rfl

theorem onSegLoad (h : Steady r s) (l : LinkNo) (a b m : Nat) : Steady r (s.onSegLoad l a b m) := by
  unfold State.onSegLoad
  split
  · exact h.unlessLocked l fun _ =>
      (h.writeClasses _ (fun hs => mark_symmetric hs _ _ _)
        fun hs => ⟨hs.upper, hs.group, hs.permille, hs.litres, hs.chunk⟩).answer _ _ _
  · exact h.refuse _ _

theorem onChunkSize (h : Steady r s) (l : LinkNo) (n : Nat) : Steady r (s.onChunkSize l n) :=
  h.unlessLocked l fun hn => by
    simp only [Bool.and_eq_true, decide_eq_true_eq] at hn
    exact (h.writeClasses { s.classes with chunk := n } id fun hs =>
      ⟨hs.upper, hs.group, hs.permille, hs.litres, hn⟩).answer _ _ _

theorem onServiceLoad (h : Steady r s) (l : LinkNo) (ns : List Nat) : Steady r (s.onServiceLoad l ns) := by
  unfold State.onServiceLoad
  split
  · exact h.refuse _ _
  · split
    · exact h.refuse _ _
    · next ps hps =>
      split
      · next hall =>
        have hlen := serviceEntries_length hps
        refine h.ask _ _ ⟨trivial, fun qs hq => ?_⟩
        cases hq
        exact ⟨by omega, by omega, namesAll_iff.1 hall⟩
      · exact h.refuse _ _

theorem onSettings (h : Steady r s) (l : LinkNo) (a b c : Option Nat) (ha : ∀ x, a = some x → x ≤ 255)
    (hc : ∀ x, c = some x → x ≤ 255) : Steady r (s.onSettings l a b c) := by
  unfold State.onSettings
  split
  · next hv =>
    refine Steady.answer (h.trans ?_) _ _ _
    unfold State.settingsValid at hv
    simp only [Bool.and_eq_true] at hv
    exact
      { store := rfl, seqs := rfl, index := rfl, service := rfl, symmetric := id, ranged := id
        drivers := fun h => ⟨h.rules, h.sound, h.unique⟩
        clock := id
        follow := fun _ => follow_follows _
        carried := fun h => follow_carried h
        settings := fun hs => by
          refine ⟨?_, ?_, ?_, hs.codes⟩
          · show a.getD s.reserve ≤ 255
            cases a with
            | none => exact hs.reserve
            | some x => exact ha x rfl
          · show 1 ≤ b.getD s.logs.window ∧ b.getD s.logs.window ≤ 60
            cases b with
            | none => exact hs.window
            | some x => simpa using hv.1.2
          · show 1 ≤ c.getD s.logs.threshold ∧ c.getD s.logs.threshold ≤ 255
            cases c with
            | none => exact hs.threshold
            | some x => exact ⟨by simpa using hv.2, hc x rfl⟩
        asked := fun _ _ h => .inl h
        held := fun _ h => .inl h }
  · exact h.refuse _ _

theorem onIdentWrite (h : Steady r s) (l : LinkNo) (a : Option Nat) (b : Option (List Byte)) :
    Steady r (s.onIdentWrite l a b) := by
  unfold State.onIdentWrite
  split
  · exact h.refuse _ _
  · exact (h.setCc _).answer _ _ _

theorem onStart (h : Steady r s) (l : LinkNo) : Steady r (s.onStart l) := by
  unfold State.onStart
  split
  · exact h.answer _ _ _
  · split
    · exact (h.setCc _).answer _ _ _
    · exact h.refuse _ _

theorem onLock (h : Steady r s) (l : LinkNo) : Steady r (s.onLock l) := by
  unfold State.onLock
  split
  · exact h.answer _ _ _
  · split
    · exact (h.setCc _).answer _ _ _
    · exact h.refuse _ _

theorem onKeep (h : Steady r s) (l : LinkNo) : Steady r (s.onKeep l) := by
  unfold State.onKeep
  split
  · exact h.answer _ _ _
  · exact (h.setCc _).answer _ _ _

theorem onRestart (h : Steady r s) (l : LinkNo) : Steady r (s.onRestart l) := by
  unfold State.onRestart
  split
  · exact h
  · exact (h.putExecuting _ _).answer _ _ _

theorem onNoteClear (h : Steady r s) (l : LinkNo) (clear : FlagWord) (mask : Option FlagWord) :
    Steady r (s.onNoteClear l clear mask) :=
  (h.setLink (clearNotes_line _ _ _ _)).answer _ _ _

/-! ### The Time Base (chapter 6) -/

theorem onSetTime (h : Steady r s) (l : LinkNo) (minute seconds : Nat) :
    Steady r (s.onSetTime l minute seconds) := by
  unfold State.onSetTime
  split
  · exact h.refuse _ _
  · next hm =>
    split
    · exact h.answer _ _ _
    · exact (h.setTime { s.time with set := true, minutes := minute, seconds := seconds, hold := false } fun hs =>
        ⟨Nat.le_of_not_lt hm, hs.slew, nofun⟩).answer _ _ _

theorem onAdjustTime (h : Steady r s) (l : LinkNo) (n : Int) : Steady r (s.onAdjustTime l n) := by
  unfold State.onAdjustTime
  split
  · next hset =>
    refine (h.setTime { s.time with slew := clampInt (-Config.maxSlew) Config.maxSlew n } fun hs =>
      ⟨hs.seconds, ?_, fun hu => ?_⟩).answer _ _ _
    · simp only [clampInt, Config.maxSlew]; omega
    · exact absurd hset (by simpa using hu)
  · exact h.refuse _ _

theorem shaped_sound {t : TimeBase} (h : -300 ≤ t.slew ∧ t.slew ≤ 300) (hs : t.set = true) (es : List Nat) :
    ClockSound { t.shaped with events := es } := by
  have hset : t.shaped.set = true := by unfold TimeBase.shaped; split <;> (try split) <;> exact hs
  refine ⟨?_, ?_, fun hu => ?_⟩
  · unfold TimeBase.shaped; split <;> (try split) <;> simp
  · unfold TimeBase.shaped; split <;> (try split) <;> simp only <;> omega
  · rw [show ({ t.shaped with events := es } : TimeBase).set = t.shaped.set from rfl, hset] at hu
    cases hu

theorem minuteEnds (h : Steady r s) (he : s.time.atEnd = true) : Steady r s.minuteEnds := by
  refine h.setTime _ fun hs => ?_
  have hset : s.time.set = true := by
    simp only [TimeBase.atEnd, Bool.and_eq_true] at he
    exact he.1.1
  have hc : s.time.counted.slew = s.time.slew ∧ s.time.counted.set = s.time.set := by
    unfold TimeBase.counted; split <;> exact ⟨rfl, rfl⟩
  exact shaped_sound (by rw [hc.1]; exact hs.slew) (hc.2.trans hset) _

theorem counts_sound {t : TimeBase} (h : ClockSound t) (hs : t.set = true) (he : t.atEnd ≠ true) :
    ClockSound t.counts := by
  have hset : t.counts.set = true := by unfold TimeBase.counts; split <;> exact hs
  refine ⟨?_, ?_, fun hu => by rw [hset] at hu; cases hu⟩
  · unfold TimeBase.counts
    have := h.seconds
    split
    · exact this
    · next hh =>
      simp [TimeBase.atEnd, hs, hh] at he
      simp only
      omega
  · unfold TimeBase.counts; split <;> exact h.slew

theorem pulse (s : State) : Steady s s.pulse := by
  unfold State.pulse
  split
  · next hc =>
    simp only [Bool.and_eq_true] at hc
    split
    · next he => exact (refl s).minuteEnds he
    · next he => exact (refl s).setTime _ fun hs => counts_sound hs hc.2 he
  · exact refl s

/-! ### Papers (chapter 5) -/

theorem addressed (h : Steady r s) (l : LinkNo) (b : Bool) (n tag : Nat) {f : VisitNo → State}
    (hf : ∀ v, Steady r (f v)) : Steady r (s.addressed l b n tag f) := by
  unfold State.addressed
  split
  · exact h.refuse _ _
  · split
    · exact h.refuse _ _
    · split
      · exact h.refuse _ _
      · split
        · exact h.refuse _ _
        · exact hf _

theorem openPaper (h : Steady r s) (v : VisitNo) (x : Paper) : Steady r (s.openPaper v x) :=
  (h.setVisit _ _).report _

theorem onPaperOpen (h : Steady r s) (l : LinkNo) (visit tag number p : Nat) (q e : Option Nat) (b : Bool) :
    Steady r (s.onPaperOpen l visit tag number p q e b) :=
  h.addressed l _ _ _ fun v => by
    split
    · exact h.refuse _ _
    · split
      · exact h.refuse _ _
      · split
        · exact h.refuse _ _
        · simp only
          split
          · exact (h.openPaper _ _).answer _ _ _
          · exact (h.openPaper _ _).ask _ _ (Request.tame_return trivial)

theorem endPaperItem (h : Steady r s) (l : LinkNo) (v : VisitNo) (d : List Byte) :
    Steady r (s.endPaperItem l v d) := (h.answer _ _ _).startAbort _

theorem paperReturned (h : Steady r s) (l : LinkNo) (v : VisitNo) (tag : Tag) (b : Bool) :
    Steady r (s.paperReturned l v tag b) := by
  unfold State.paperReturned
  split
  · exact h.answer _ _ _
  · exact h.endPaperItem _ _ _

theorem decidePaper (h : Steady r s) (v : VisitNo) (n : Nat) (b : Bool) : Steady r (s.decidePaper v n b) := by
  unfold State.decidePaper
  simp only
  split
  · exact (h.setVisit _ _).report _
  · exact ((h.setVisit _ _).report _).raise ⟨rfl, by decide⟩

theorem endLines (h : Steady r s) (l : LinkNo) (v : VisitNo) (m n : Nat) (b : Bool) :
    Steady r (s.endLines l v m n b) := (h.decidePaper _ _ _).answer _ _ _

theorem placeLine (h : Steady r s) (l : LinkNo) (v : VisitNo) (tag : Tag) (x : PaperLine) (xs : List PaperLine)
    (m n : Nat) (b : Bool) : Steady r (s.placeLine l v tag x xs m n b) :=
  h.ask _ _ (Request.tame_alloc trivial)

theorem onPaperLines (h : Steady r s) (l : LinkNo) (visit tag : Nat) (xs : List PaperLine) :
    Steady r (s.onPaperLines l visit tag xs) :=
  h.addressed l _ _ _ fun v => by
    simp only
    split
    · exact h.refuse _ _
    · split
      · exact h.refuse _ _
      · split
        · exact h.refuse _ _
        · split
          · exact h.endLines _ _ _ _ _
          · exact h.placeLine _ _ _ _ _ _ _ _

theorem linePlaced (h : Steady r s) (l : LinkNo) (v : VisitNo) (tag : Tag) (xs : List PaperLine) (m n : Nat)
    (b : Bool) : Steady r (s.linePlaced l v tag xs m n b) := by
  unfold State.linePlaced
  split
  · simp only
    split
    · exact ((h.setVisit _ _).report _).endLines _ _ _ _ _
    · exact ((h.setVisit _ _).report _).placeLine _ _ _ _ _ _ _ _
  · exact h.endPaperItem _ _ _

theorem lineRefused (h : Steady r s) (l : LinkNo) (v : VisitNo) (tag : Tag) (n : Nat) :
    Steady r (s.lineRefused l v tag n) := by
  unfold State.lineRefused
  split
  · exact h.answer _ _ _
  · exact h.endPaperItem _ _ _

/-! ### Bays (chapter 3) -/

theorem onBayAssign (h : Steady r s) (l : LinkNo) (visit tag bay : Nat) :
    Steady r (s.onBayAssign l visit tag bay) :=
  h.addressed l _ _ _ fun v => by
    split
    · exact h.refuse _ _
    · split
      · exact h.refuse _ _
      · split
        · exact h.refuse _ _
        · exact ((h.setWindow _ _).setVisit _ _).ask _ _ (Request.tame_read _ _)

theorem bayReady (h : Steady r s) (l : LinkNo) (b : BayIx) : Steady r (s.bayReady l b) :=
  (h.setWindow _ _).answer _ _ _

theorem bayRead (h : Steady r s) (l : LinkNo) (b : BayIx) (v : VisitNo) (tag : Tag) (a : ReadAnswer) :
    Steady r (s.bayRead l b v tag a) := by
  unfold State.bayRead
  split
  · split
    · exact h.ask _ _ (Request.tame_write _ _ _)
    · exact h.bayReady _ _
    · exact h.refuse _ _
  · exact h.refuse _ _

theorem bayWritten (h : Steady r s) (l : LinkNo) (b : BayIx) (v : VisitNo) (tag : Tag) (n : Nat) (i : SlotRef)
    (next : Option SlotRef) (w : Bool) : Steady r (s.bayWritten l b v tag n i next w) := by
  unfold State.bayWritten
  split
  · simp only
    split
    · exact (h.setWindow _ _).ask _ _ (Request.tame_read _ _)
    · exact (h.setWindow _ _).bayReady _ _
  · exact h.refuse _ _

theorem atBay (h : Steady r s) (l : LinkNo) (bay : Nat) {f : BayIx → Window → State}
    (hf : ∀ b w, Steady r (f b w)) : Steady r (s.atBay l bay f) := by
  unfold State.atBay
  split
  · exact h.refuse _ _
  · split
    · exact h.refuse _ _
    · exact hf _ _

theorem leaveBay (h : Steady r s) (b : BayIx) (v : VisitNo) (st : VisitState) : Steady r (s.leaveBay b v st) :=
  (h.setWindow _ _).setVisit _ _

theorem onBayRelease (h : Steady r s) (l : LinkNo) (bay : Nat) : Steady r (s.onBayRelease l bay) :=
  h.atBay l bay fun b w => by
    split
    · exact (h.leaveBay _ _ _).answer _ _ _
    · exact h.refuse _ _

theorem onLoadEnd (h : Steady r s) (l : LinkNo) (bay : Nat) : Steady r (s.onLoadEnd l bay) :=
  h.atBay l bay fun b w => by
    split
    · exact (h.leaveBay _ _ _).answer _ _ _
    · exact h.refuse _ _

theorem notMapped (h : Steady r s) (l : LinkNo) : Steady r (s.notMapped l) :=
  (h.raise ⟨rfl, by decide⟩).refuse _ _

theorem onFill (h : Steady r s) (l : LinkNo) (bay comp product figure : Nat) :
    Steady r (s.onFill l bay comp product figure) := by
  unfold State.onFill
  split
  · exact h.refuse _ _
  · split
    · exact h.refuse _ _
    · split
      · exact h.notMapped _
      · exact h.ask _ _ (Request.tame_read _ _)

theorem fillRead (h : Steady r s) (l : LinkNo) (b : BayIx) (v : VisitNo) (tag : Tag) (i : SlotRef) (m n : Nat)
    (a : ReadAnswer) : Steady r (s.fillRead l b v tag i m n a) := by
  unfold State.fillRead
  split
  · split
    · exact h.notMapped _
    · split
      · exact h.refuse _ _
      · exact h.ask _ _ (Request.tame_write _ _ _)
  · exact h.notMapped _

theorem fillWritten (h : Steady r s) (l : LinkNo) (v : VisitNo) (n : Nat) (a b w : Bool) :
    Steady r (s.fillWritten l v n a b w) := by
  unfold State.fillWritten
  split
  · exact (h.changeVisit _ _ _).answer _ _ _
  · exact h.notMapped _

/-! ### Visits (chapters 2 and 9) -/

theorem placeCompartment (h : Steady r s) (l : LinkNo) (v : VisitNo) (w : ArriveWork) (c : Option Nat) :
    Steady r (s.placeCompartment l v w c) := h.ask _ _ (Request.tame_alloc trivial)

theorem onArrive (h : Steady r s) (l : LinkNo) (tanker driver : Nat) (f : Figures) (co : Option CoDriver)
    (cs : List (Option Nat)) : Steady r (s.onArrive l tanker driver f co cs) := by
  unfold State.onArrive
  split
  · exact h.refuse _ _
  · exact Steady.placeCompartment (h.setVisit _ _) _ _ _ _
  · exact h.refuse _ _

theorem compartmentPlaced (h : Steady r s) (l : LinkNo) (v : VisitNo) (w : ArriveWork) :
    Steady r (s.compartmentPlaced l v w) := by
  unfold State.compartmentPlaced
  split
  · exact h.placeCompartment _ _ _ _
  · exact Steady.answer (((h.admitDriver _ _ _ _ _).admitCo _ _ _).setVisit _ _) _ _ _

theorem undoArrival (h : Steady r s) (l : LinkNo) (v : VisitNo) : Steady r (s.undoArrival l v) :=
  h.ask _ _ (Request.tame_return trivial)

theorem arrivalUndone (h : Steady r s) (l : LinkNo) (v : VisitNo) : Steady r (s.arrivalUndone l v) :=
  (h.freeFrom _ _).refuse _ _

theorem onDispatch (h : Steady r s) (l : LinkNo) (visit tag : Nat) : Steady r (s.onDispatch l visit tag) := by
  have join : ∀ v b, Steady r (if s.dcu.queue.length < Config.queuePlaces then
      (s.joinQueue v b).answer l .done (put8 (s.dcu.queue.length + 1)) else s.refuse l .queueFull) := by
    intro v b
    split
    · exact Steady.answer ((h.setVisit _ _).setDcu _) _ _ _
    · exact h.refuse _ _
  refine h.addressed l _ _ _ fun v => ?_
  split
  · exact join _ _
  · exact join _ _
  · exact h.answer _ _ _
  · exact h.answer _ _ _
  · exact h.refuse _ _

theorem onGatePassed (h : Steady r s) (l : LinkNo) (visit tag code : Nat) :
    Steady r (s.onGatePassed l visit tag code) := by
  unfold State.onGatePassed
  split
  · exact h.refuse _ _
  · split
    · exact h.refuse _ _
    · split
      · exact h.refuse _ _
      · exact Steady.ask ((h.commitTrip _).setVisit _ _) _ _ (Request.tame_return trivial)

theorem releaseReturned (h : Steady r s) (l : LinkNo) (v : VisitNo) (x : ListId) :
    Steady r (s.releaseReturned l v x) := by
  unfold State.releaseReturned
  split
  · exact h.ask _ _ (Request.tame_return trivial)
  · exact h.ask _ _ (Request.tame_stamped _ _ _)

theorem endRelease (h : Steady r s) (l : LinkNo) (v : VisitNo) (n : Option Nat) : Steady r (s.endRelease l v n) :=
  (h.freeFrom _ _).answer _ _ _

theorem unbind (h : Steady r s) (v : VisitNo) : Steady r (s.unbind v) :=
  h.trans (.of_same rfl rfl rfl rfl rfl rfl rfl rfl rfl rfl rfl rfl)

theorem onVisitAbort (h : Steady r s) (l : LinkNo) (visit tag : Nat) : Steady r (s.onVisitAbort l visit tag) :=
  h.addressed l _ _ _ fun v => by
    split
    · exact h.refuse _ _
    · exact Steady.startAbort (Steady.setJob
        (((((h.releaseDrivers v).setVisit _ _).unbind v).setDcu _).abandonCheck v) _ _) _

theorem onVisitRead (h : Steady r s) (l : LinkNo) (visit : Nat) (b : Bool) : Steady r (s.onVisitRead l visit b) := by
  unfold State.onVisitRead
  split
  · exact h.refuse _ _
  · split
    · exact h.ask _ _ (Request.tame_read _ _)
    · exact h.answer _ _ _

theorem visitReadAnswered (h : Steady r s) (l : LinkNo) (v : VisitNo) (x : Visit) (got : List Compartment)
    (a : ReadAnswer) : Steady r (s.visitReadAnswered l v x got a) := by
  unfold State.visitReadAnswered
  split
  · exact h.answer _ _ _
  · exact h.answer _ _ _
  · exact h.answer _ _ _
  · exact h.ask _ _ (Request.tame_read _ _)

theorem expiryPresents (h : Steady r s) : Steady r s.expiryPresents := by
  unfold State.expiryPresents
  split
  · exact h.present _ (Request.tame_stamped _ _ _)
  · exact h

theorem minuteEvent (h : Steady r s) (n : Nat) : Steady r (s.minuteEvent n) :=
  expiryPresents ((h.trans
    (.of_same (t := { s with visits := s.visits.map (State.lapseVisit n) }) rfl rfl rfl rfl rfl rfl rfl rfl rfl rfl rfl rfl)).setLogs
      _ rfl rfl fun hs => ⟨hs.window, hs.codes⟩)

theorem lapsed (h : Steady r s) (v : VisitNo) : Steady r (s.lapsed v) := by
  have hlog : (s.changeVisit v .lapsing fun x => { x with state := .loaded, lapsed := true }).logs = s.logs := by
    unfold State.changeVisit; split <;> rfl
  exact expiryPresents (((h.changeVisit v .lapsing _).setLogs _ (by rw [hlog]) (by rw [hlog]) fun hs =>
    ⟨hlog ▸ hs.window, hlog ▸ hs.codes⟩).raise ⟨rfl, by decide⟩)

/-! ### Logs (chapter 9) -/

theorem beginWalk (h : Steady r s) (l : LinkNo) (g : Gather) (j : Gather → Job) :
    Steady r (s.beginWalk l g j) := by
  unfold State.beginWalk
  split
  · exact h.refuse _ _
  · exact h.ask _ _ (Request.tame_read _ _)

theorem takeRead (h : Steady r s) (l : LinkNo) (g : Gather) (a : ReadAnswer) : Steady r (s.takeRead l g a) := by
  have stop : ∀ g : Gather, Steady r
      (if g.got.isEmpty then s.takeReply l g else s.ask l (.take g) (.headSplice g.log g.slots)) := by
    intro g
    split
    · exact h.answer _ _ _
    · exact h.ask _ _ ⟨trivial, nofun⟩
  unfold State.takeRead
  split
  · exact h.ask _ _ (Request.tame_read _ _)
  · exact stop _
  · exact stop _

theorem taken (h : Steady r s) (l : LinkNo) (g : Gather) : Steady r (s.taken l g) := by
  refine Steady.answer (h.setLogs _ ?_ ?_ fun hs => ?_) _ _ _ <;> unfold LogUnit.setTake <;> split
  · rfl
  · rfl
  · rfl
  · rfl
  · exact ⟨hs.window, hs.codes⟩
  · exact ⟨hs.window, hs.codes⟩

theorem peekRead (h : Steady r s) (l : LinkNo) (g : Gather) (a : ReadAnswer) : Steady r (s.peekRead l g a) := by
  unfold State.peekRead
  split
  · exact h.ask _ _ (Request.tame_read _ _)
  · exact h.answer _ _ _
  · exact h.answer _ _ _

theorem onStoreRead (h : Steady r s) (l : LinkNo) (n : Option Nat) : Steady r (s.onStoreRead l n) := by
  unfold State.onStoreRead
  split
  · exact h.ask _ _ ⟨trivial, nofun⟩
  · split
    · exact h.refuse _ _
    · exact h.ask _ _ ⟨trivial, nofun⟩

/-! ### The Sweep Unit (chapter 10) -/

theorem setSweepStatus (h : Steady r s) (t : SweepStatus) : Steady r (s.setSweepStatus t) :=
  h.setSweep _ fun _ hq => .inl hq

theorem setSweepWork (h : Steady r s) (w : SweepWork) : Steady r (s.setSweepWork w) :=
  h.setSweep _ fun _ hq => .inl hq

theorem sweepAsks (h : Steady r s) (w : SweepWork) (l : ListId) (i : Option SlotRef) :
    Steady r (s.sweepAsks w (.read l i)) := by
  unfold State.sweepAsks
  simp only
  split
  · exact (h.setSweepWork w).setSweep _ fun q hq => .inr ⟨l, i, (Option.some.inj hq).symm⟩
  · exact (h.setSweepWork w).present _ (Request.tame_read _ _)

theorem consider (h : Steady r s) : Steady r s.consider := by
  unfold State.consider
  split
  · exact h.sweepAsks _ _ _
  · exact h.setSweepWork _

theorem endSweep (h : Steady r s) (st : SweepState) : Steady r (s.endSweep st) :=
  ((h.setSweepStatus _).setSweepWork _).raise ⟨rfl, by decide⟩

theorem advanceSweep (h : Steady r s) : Steady r s.advanceSweep := by
  unfold State.advanceSweep
  simp only
  split
  · exact (h.setSweepStatus _).consider
  · exact h.endSweep _

theorem takeResult (h : Steady r s) (x : Option Reason) : Steady r (s.takeResult x) :=
  (h.setSweepStatus _).advanceSweep

theorem onSweepStart (h : Steady r s) (l : LinkNo) (a b c : Nat) : Steady r (s.onSweepStart l a b c) := by
  unfold State.onSweepStart
  split
  · exact h.refuse _ _
  · split
    · exact h.refuse _ _
    · split
      · exact ((h.setSweepStatus _).raise ⟨rfl, by decide⟩).answer _ _ _
      · split
        · exact h.refuse _ _
        · exact (h.setSweepStatus _).consider.answer _ _ _

theorem onSweepStop (h : Steady r s) (l : LinkNo) : Steady r (s.onSweepStop l) := by
  unfold State.onSweepStop
  split
  · exact Steady.answer ((h.endSweep _).setSweep _ fun _ hx => by cases hx) _ _ _
  · exact h.answer _ _ _

theorem recheckGoesOn (h : Steady r s) (v : VisitNo) (tag : Tag) (j : Judge × Option Ask) :
    Steady r (s.recheckGoesOn v tag j) := by
  unfold State.recheckGoesOn
  split
  · exact h.setSweepWork _
  · unfold State.recheckResult
    split
    · exact (h.setVisit _ _).takeResult _
    · exact h.advanceSweep

theorem recheckRead (h : Steady r s) (v : VisitNo) (tag : Tag) (j : Judge) (l : ListId) (a : ReadAnswer) :
    Steady r (s.recheckRead v tag j l a) := by
  unfold State.recheckRead
  split
  · exact h.sweepAsks _ _ _
  · exact h.recheckGoesOn _ _ _
  · exact h.advanceSweep

theorem sweepRead (h : Steady r s) (l : ListId) (a : ReadAnswer) : Steady r (s.sweepRead l a) := by
  unfold State.sweepRead
  split
  · simp only
    have hs : Steady r (s.setSweep { s.sweep with orphan := false, deferred := none }) := h.setSweep _ fun _ hx => by cases hx
    split
    · next q hq =>
      refine h.trans (of_rest (t := (s.setSweep { s.sweep with orphan := false, deferred := none }).present .sweep q)
        rfl rfl rfl rfl rfl rfl rfl rfl rfl rfl (fun p x hx => ?_) fun _ hx => by cases hx)
      rw [State.request_present] at hx
      split at hx
      · exact .inr (.inl (by rw [hq]; exact hx))
      · exact .inl hx
    · exact hs
  · split
    · exact h.setSweepWork _
    · exact h.recheckRead _ _ _ _ _
    · exact h

theorem entryRead (h : Steady r s) : Steady r s.entryRead := by
  unfold State.entryRead
  split
  · exact h.advanceSweep
  · split
    · exact h.advanceSweep
    · exact h.takeResult _

theorem contextRead (h : Steady r s) : Steady r s.contextRead := by
  unfold State.contextRead
  split
  · exact h.advanceSweep
  · split
    · exact h.sweepAsks _ _ _
    · exact h.advanceSweep

/-! ### Answers to grants -/

theorem allocated (h : Steady r s) (p : Requester) (i : Option SlotRef) : Steady r (s.allocated p i) := by
  unfold State.allocated
  split
  · unfold State.linkAllocated
    split
    · split
      · exact h.linePlaced _ _ _ _ _ _ _
      · exact h.lineRefused _ _ _ _
    · split
      · exact h.abortAnswered _ _ _
      · exact h.abortUnrecorded _ _
    · split
      · exact h.compartmentPlaced _ _ _
      · exact h.undoArrival _ _
    · exact h
  · split
    · exact h.checkAlloc _
    · exact h

theorem readBy (h : Steady r s) (p : Requester) (l : ListId) (a : ReadAnswer) : Steady r (s.readBy p l a) := by
  unfold State.readBy
  split
  · unfold State.linkRead
    split
    · exact h.bayRead _ _ _ _ _
    · exact h.fillRead _ _ _ _ _ _ _ _
    · exact h.takeRead _ _ _
    · exact h.peekRead _ _ _
    · exact h.visitReadAnswered _ _ _ _ _
    · exact h
  · split
    · exact h.checkRead _ _
    · exact h.sweepRead _ _
    · exact h

theorem writtenBy (h : Steady r s) (p : Requester) (b : Bool) : Steady r (s.writtenBy p b) := by
  unfold State.writtenBy
  split
  · unfold State.linkWritten
    split
    · exact h.bayWritten _ _ _ _ _ _ _ _
    · exact h.fillWritten _ _ _ _ _ _
    · exact h
  · split
    · exact h.checkWrite _
    · exact h

theorem splicedBy (h : Steady r s) (p : Requester) (l : ListId) : Steady r (s.splicedBy p l) := by
  unfold State.splicedBy
  split
  · unfold State.linkSpliced
    split
    · exact h.paperReturned _ _ _ _
    · exact h.abortAnswered _ _ _
    · exact h.releaseReturned _ _ _
    · exact h.arrivalUndone _ _
    · exact h
  · split
    · exact h.checkSplice
    · exact h

theorem stampedBy (h : Steady r s) (p : Requester) (v : VisitNo) (n : Option Nat) :
    Steady r (s.stampedBy p v n) := by
  unfold State.stampedBy
  split
  · unfold State.linkStamped
    split
    · exact h.abortAnswered _ _ _
    · exact h.endRelease _ _ _
    · exact h
  · split
    · exact h.lapsed _
    · exact h

theorem headSplicedBy (h : Steady r s) (p : Requester) : Steady r (s.headSplicedBy p) := by
  unfold State.headSplicedBy
  split
  · split
    · exact h.taken _ _
    · exact h
  · exact h

end Steady

end Sys2Proof.Machine
end

section
/-! PROOFS. Every command keeps the registers sound and the store's lists whole: the steady commands, the grants and
the resets (R6, R7, O56, O59). -/

namespace Sys2Proof.Machine

/-! ### The steady commands -/

/-- The turns of the service table, its grants, and the commands of the resets and the supplies; every other command is
steady. -/
def Instr.turnOrReset : Instr → Bool
  | .serviceTurn | .allocation | .slotRead | .slotWrite | .wholeListSplice | .stampedSplice | .headSplice
  | .serviceTableGrant | .storeCountsGrant | .replySent _ | .rstAssert | .lineReset _ _ | .coldStart _ _
  | .mainSupplyLoss | .backupSupplyLoss => true
  | _ => false

theorem execCheckTake_steady {s t : State} (h : execCheckTake s = .next t) : Steady s t := by
  obtain rfl := Host.Outcome.next.inj h
  split
  · exact Steady.present (((Steady.refl s).changeVisit _ _ _).setDcu _) _ (Request.tame_read _ _)
  · exact .refl s

theorem execHoursVerdict_steady {s t : State} (h : execHoursVerdict s = .next t) : Steady s t := by
  obtain rfl := Host.Outcome.next.inj h
  split
  · exact Steady.checkJudges (Steady.refl s).checkAnswered fun c => (Steady.refl s).checkAnswered.decideOutcome _
  · exact .refl s

theorem execClassLookup_steady {a : Asker} {s t : State} (h : execClassLookup a s = .next t) : Steady s t := by
  obtain rfl := Host.Outcome.next.inj h
  split
  · split
    · exact Steady.checkJudges (Steady.refl s).checkAnswered fun c => (Steady.refl s).checkAnswered.judgeGoesOn _ _
    · exact .refl s
  · split
    · exact (Steady.refl s).recheckGoesOn _ _ _
    · exact .refl s

theorem execPairTest_steady {a : Asker} {s t : State} (h : execPairTest a s = .next t) : Steady s t := by
  obtain rfl := Host.Outcome.next.inj h
  split
  · split
    · exact Steady.checkJudges (Steady.refl s).checkAnswered fun c => (Steady.refl s).checkAnswered.judgeGoesOn _ _
    · exact .refl s
  · split
    · exact (Steady.refl s).recheckGoesOn _ _ _
    · exact .refl s

theorem execMinuteEvent_steady {s t : State} (h : execMinuteEvent s = .next t) : Steady s t := by
  obtain rfl := Host.Outcome.next.inj h
  split
  · next n es _ _ =>
    exact ((Steady.refl s).setTime { s.time with events := es } fun hs => ⟨hs.seconds, hs.slew, hs.unset⟩).minuteEvent n
  · exact .refl s

theorem execMinuteEnd_steady {s t : State} (h : execMinuteEnd s = .next t) : Steady s t := by
  obtain rfl := Host.Outcome.next.inj h
  split
  · next hc =>
    simp only [Bool.and_eq_true] at hc
    exact (Steady.refl s).minuteEnds hc.2
  · exact .refl s

theorem execSweepEntryRead_steady {s t : State} (h : execSweepEntryRead s = .next t) : Steady s t := by
  obtain rfl := Host.Outcome.next.inj h
  split
  · exact (Steady.refl s).entryRead
  · exact .refl s

theorem execRecheckContextRead_steady {s t : State} (h : execRecheckContextRead s = .next t) : Steady s t := by
  obtain rfl := Host.Outcome.next.inj h
  split
  · exact (Steady.refl s).contextRead
  · exact .refl s

/-- Every command but the turns, the grants and the resets is steady. -/
theorem exec_steady {i : Instr} {s t : State} (hi : Instr.turnOrReset i = false) (h : exec i s = .next t) :
    Steady s t := by
  cases i with
  | setTime hd m n => cases h; exact .takeItem fun _ u => (Steady.refl u).onSetTime _ _ _
  | adjustTime hd n => cases h; exact .takeItem fun _ u => (Steady.refl u).onAdjustTime _ _
  | rulesLoad hd x => cases h; exact .takeItem fun _ u => (Steady.refl u).onRulesLoad _ _
  | bandLoad hd a b c d e f => cases h; exact .takeItem fun _ u => (Steady.refl u).onBandLoad _ _ _ _ _ _ _
  | segLoad hd a b c => cases h; exact .takeItem fun _ u => (Steady.refl u).onSegLoad _ _ _ _
  | chunkSize hd n => cases h; exact .takeItem fun _ u => (Steady.refl u).onChunkSize _ _
  | serviceLoad hd ns => cases h; exact .takeItem fun _ u => (Steady.refl u).onServiceLoad _ _
  | settings hd a b c =>
    cases h
    refine .takeItem fun hn u => ?_
    obtain ⟨raw, hraw⟩ := nextItem_decoded hn
    obtain ⟨ha, hc⟩ := decodeItem_settings _ _ _ _ _ _ hraw
    exact (Steady.refl u).onSettings _ _ _ _ ha hc
  | identWrite hd a b => cases h; exact .takeItem fun _ u => (Steady.refl u).onIdentWrite _ _ _
  | start hd => cases h; exact .takeItem fun _ u => (Steady.refl u).onStart _
  | lock hd => cases h; exact .takeItem fun _ u => (Steady.refl u).onLock _
  | keep hd => cases h; exact .takeItem fun _ u => (Steady.refl u).onKeep _
  | restart hd => cases h; exact .takeItem fun _ u => (Steady.refl u).onRestart _
  | paperOpen hd v t n p q e b =>
    cases h; exact .takeItem fun _ u => (Steady.refl u).onPaperOpen _ _ _ _ _ _ _ _
  | paperLines hd v t xs => cases h; exact .takeItem fun _ u => (Steady.refl u).onPaperLines _ _ _ _
  | visitAbort hd v t => cases h; exact .takeItem fun _ u => (Steady.refl u).onVisitAbort _ _ _
  | logTake hd n => cases h; exact .takeItem fun _ u => (Steady.refl u).beginWalk _ _ _
  | excTake hd n => cases h; exact .takeItem fun _ u => (Steady.refl u).beginWalk _ _ _
  | bayAssign hd v t b => cases h; exact .takeItem fun _ u => (Steady.refl u).onBayAssign _ _ _ _
  | bayRelease hd b => cases h; exact .takeItem fun _ u => (Steady.refl u).onBayRelease _ _
  | fill hd b c p f => cases h; exact .takeItem fun _ u => (Steady.refl u).onFill _ _ _ _ _
  | loadEnd hd b => cases h; exact .takeItem fun _ u => (Steady.refl u).onLoadEnd _ _
  | arrive hd a b f co cs => cases h; exact .takeItem fun _ u => (Steady.refl u).onArrive _ _ _ _ _ _
  | breakStart hd c => cases h; exact .takeItem fun _ u => (Steady.refl u).onBreakStart _ _
  | breakEnd hd c => cases h; exact .takeItem fun _ u => (Steady.refl u).onBreakEnd _ _
  | dispatch hd v t => cases h; exact .takeItem fun _ u => (Steady.refl u).onDispatch _ _ _
  | gatePassed hd v t c => cases h; exact .takeItem fun _ u => (Steady.refl u).onGatePassed _ _ _ _
  | sweepStart hd a b c => cases h; exact .takeItem fun _ u => (Steady.refl u).onSweepStart _ _ _ _
  | sweepStop hd => cases h; exact .takeItem fun _ u => (Steady.refl u).onSweepStop _
  | sweepRead hd => cases h; exact .takeItem fun _ u => (Steady.refl u).answer _ _ _
  | logPeek hd a b => cases h; exact .takeItem fun _ u => (Steady.refl u).beginWalk _ _ _
  | excPeek hd a b => cases h; exact .takeItem fun _ u => (Steady.refl u).beginWalk _ _ _
  | storeRead hd v => cases h; exact .takeItem fun _ u => (Steady.refl u).onStoreRead _ _
  | visitRead hd v b => cases h; exact .takeItem fun _ u => (Steady.refl u).onVisitRead _ _ _
  | driverRead hd a b => cases h; exact .takeItem fun _ u => (Steady.refl u).onDriverRead _ _ _
  | noteRead hd => cases h; exact .takeItem fun _ u => (Steady.refl u).answer _ _ _
  | noteClear hd a b => cases h; exact .takeItem fun _ u => (Steady.refl u).onNoteClear _ _ _
  | identRead hd => cases h; exact .takeItem fun _ u => (Steady.refl u).answer _ _ _
  | telegramStart l c => cases h; exact .changeLink l (fun k => Link.rxChar_line l k c) s
  | telegramEnd l cs => cases h; exact .changeLink l (fun k => Link.rxChars_line l cs k) s
  | gap l => cases h; exact .changeLink l (Link.rxGap_line l) s
  | tbasePulse => cases h; exact .pulse s
  | minuteEnd => exact execMinuteEnd_steady h
  | minuteEvent => exact execMinuteEvent_steady h
  | checkTake => exact execCheckTake_steady h
  | classLookup a => exact execClassLookup_steady h
  | pairTest a => exact execPairTest_steady h
  | hoursVerdict => exact execHoursVerdict_steady h
  | sweepEntryRead => exact execSweepEntryRead_steady h
  | recheckContextRead => exact execRecheckContextRead_steady h
  | _ => cases hi

/-! ### What a command keeps -/

/-- The registers' ranges (but for the condition flags), the whole lists and the kinds of records, kept from one state
to another. -/
structure Kept (s t : State) : Prop where
  symmetric : s.classes.Symmetric → t.classes.Symmetric
  ranged    : s.classes.Ranged → t.classes.Ranged
  drivers   : DriversSound s → DriversSound t
  clock     : ClockSound s.time → ClockSound t.time
  carried   : FlagsCarried s → FlagsCarried t
  service   : ServiceSound s → ServiceSound t
  settings  : SettingsSound s → SettingsSound t
  whole     : s.store.Whole → t.store.Whole
  kinds     : s.store.Whole → KindsSound s → KindsSound t

namespace Kept

variable {r s t : State}

theorem refl (s : State) : Kept s s := ⟨id, id, id, id, id, id, id, id, fun _ => id⟩

theorem trans (a : Kept r s) (b : Kept s t) : Kept r t :=
  ⟨b.symmetric ∘ a.symmetric, b.ranged ∘ a.ranged, b.drivers ∘ a.drivers, b.clock ∘ a.clock, b.carried ∘ a.carried,
    b.service ∘ a.service, b.settings ∘ a.settings, b.whole ∘ a.whole, fun w h => b.kinds (a.whole w) (a.kinds w h)⟩

end Kept

theorem Steady.kept {s t : State} (h : Steady s t) : Kept s t where
  symmetric := h.symmetric
  ranged := h.ranged
  drivers := h.drivers
  clock := h.clock
  carried := h.carried
  settings := h.settings
  service hs := by
    refine ⟨h.service ▸ hs.table, by rw [h.index, h.service]; exact hs.index, fun p ps hp => ?_, fun ps hp => ?_⟩
    · rcases h.asked p _ hp with hq | hq | hq
      · exact hs.waiting p ps hq
      · exact absurd hq (hs.held ps)
      · exact hq.2 ps rfl
    · rcases h.held _ hp with hq | ⟨l, i, hq⟩
      · exact hs.held ps hq
      · cases hq
  whole w := h.store ▸ w
  kinds _ hs := by
    refine ⟨h.store ▸ hs.slots, fun p q hp => ?_, fun q hq => ?_⟩
    · rcases h.asked p q hp with hq | hq | hq
      · exact hs.waiting p q hq
      · exact hs.held q hq
      · exact hq.1
    · rcases h.held q hq with hq | ⟨l, i, rfl⟩
      · exact hs.held q hq
      · trivial

/-! ### Kinds of records under the store's operations (R6) -/

namespace Store

@[simp] theorem records_setSlot (st : Store) (i : SlotNo) (x : Slot) (m : LogId) :
    (st.setSlot i x).records m = st.records m := by cases m <;> rfl

@[simp] theorem records_setDesc (st : Store) (l : ListId) (d : Desc) (m : LogId) :
    (st.setDesc l d).records m = st.records m := by cases m <;> rfl

@[simp] theorem records_ownAll (l : ListId) (st : Store) (is : List SlotNo) (m : LogId) :
    (ownAll l st is).records m = st.records m := by
  induction is generalizing st with
  | nil => rfl
  | cons i is ih => simp [ownAll, ih]

@[simp] theorem records_linkTail (st : Store) (t : Option SlotNo) (f : SlotNo) (m : LogId) :
    (st.linkTail t f).records m = st.records m := by cases t <;> simp [linkTail, relink]

/-- A move leaves the record counts of the logs (R13). -/
@[simp] theorem records_move (st : Store) (src tgt : ListId) (n : Nat) (m : LogId) :
    (st.move src tgt n).records m = st.records m := by
  unfold move
  simp only
  split
  · split
    · rfl
    · simp [relink]
  · rfl

theorem records_setRecords (st : Store) (l m : LogId) (n : Nat) :
    (st.setRecords l n).records m = if l = m then n else st.records m := by
  cases l <;> cases m <;> rfl

/-- R6: every slot holds a record of a kind of its list. -/
def Kinds (st : Store) : Prop := ∀ i, (st.slot i).owner.holds (st.slot i).record

/-- A move keeps the kinds where the target is FREE or holds what the source held. -/
theorem Kinds.move {st : Store} (h : st.Kinds) (w : st.Whole) {src tgt : ListId} (n : Nat)
    (hr : tgt = .free ∨ ∀ r, src.holds r → tgt.holds r) : (st.move src tgt n).Kinds := by
  by_cases hne : src = tgt
  · subst hne; rw [move_self]; exact h
  · intro i
    obtain ⟨_, ho, hrec⟩ := slot_move st n hne i
    rw [ho, hrec]
    by_cases hm : i ∈ (st.chain src).take n
    · have hsrc : (st.slot i).owner = src := ((w src).owned i).1 (List.mem_of_mem_take hm)
      simp only [hm, if_true, and_true]
      rcases hr with rfl | hr
      · simp [ListId.holds]
      · split
        · next ht => subst ht; exact trivial
        · exact hr _ (hsrc ▸ h i)
    · simp only [hm, if_false, and_false]
      exact h i

theorem Kinds.splice {st : Store} (h : st.Kinds) (w : st.Whole) (l : ListId) : (st.splice l .free).Kinds :=
  h.move w _ (.inl rfl)

theorem Kinds.setRecord {st : Store} (h : st.Kinds) (i : SlotNo) {x : Slot} (hx : x.owner.holds x.record) :
    (st.setSlot i x).Kinds := by
  intro j
  by_cases e : i = j
  · subst e; rw [slot_setSlot_self]; exact hx
  · rw [slot_setSlot_ne _ _ e]; exact h j

theorem Kinds.setRecords {st : Store} (h : st.Kinds) (l : LogId) (n : Nat) : (st.setRecords l n).Kinds := by
  intro i; rw [slot_setRecords]; exact h i

/-- The fields that a write names leave the kind of a record (R12). -/
theorem applyFields_holds {n : Nat} {f : WriteFields} {l : ListId} {x y : Record} (h : applyFields n f x = some y)
    (hx : l.holds x) : l.holds y := by
  unfold applyFields at h
  split at h <;> cases h <;> cases l <;> exact hx

theorem Kinds.write {st st' : Store} (h : st.Kinds) {n : Nat} {l : ListId} {r : SlotRef} {f : WriteFields}
    (hw : st.write n l r f = some st') : st'.Kinds := by
  unfold Store.write at hw
  split at hw
  · simp only [Option.map_eq_some_iff] at hw
    obtain ⟨x, hx, rfl⟩ := hw
    exact h.setRecord r.slot (applyFields_holds hx (h r.slot))
  · cases hw

/-- An allocation onto a list of records of its kind. -/
theorem Kinds.allocate {st st' : Store} {tgt : ListId} {x : Record} {i : SlotRef} (h : st.Kinds) (w : st.Whole)
    (hx : tgt.holds x) (ht : tgt ≠ .free) (ha : st.allocate tgt x = some (st', i)) : st'.Kinds := by
  unfold Store.allocate at ha
  split at ha
  · cases ha
  · next j hj =>
    cases ha
    have own : ((st.move .free tgt 1).slot j).owner = tgt := by
      have hc : (st.chain .free).head? = some j := (w .free).head.trans hj
      rw [(slot_move st 1 (Ne.symm ht) j).2.1, if_pos]
      cases hch : st.chain .free with
      | nil => rw [hch] at hc; cases hc
      | cons k ks => rw [hch] at hc; cases hc; simp
    intro k
    by_cases e : j = k
    · subst e; rw [slot_setSlot_self]; simp only [own]; exact hx
    · rw [slot_setSlot_ne _ _ e, (slot_move st 1 (Ne.symm ht) k).2.1, (slot_move st 1 (Ne.symm ht) k).2.2]
      simp only [ht, false_and, if_false]
      split
      · next hm =>
        exfalso
        have hc : (st.chain .free).head? = some j := (w .free).head.trans hj
        cases hch : st.chain .free with
        | nil => rw [hch] at hc; cases hc
        | cons a as =>
          rw [hch] at hc hm
          cases hc
          simp at hm
          exact e hm.symm
      · exact h k

/-- An allocation keeps the lists whole, onto whatever list (R9). -/
theorem whole_allocate {st st' : Store} {tgt : ListId} {x : Record} {i : SlotRef} (w : st.Whole)
    (ha : st.allocate tgt x = some (st', i)) : st'.Whole := by
  unfold Store.allocate at ha
  split at ha
  · cases ha
  · next j hj =>
    cases ha
    have wm : (st.move .free tgt 1).Whole := by
      by_cases ht : ListId.free = tgt
      · subst ht; rw [move_self]; exact w
      · exact (whole_move w 1 ht).1
    exact (whole_setRecord wm j x _).1

theorem whole_move_any {st : Store} (w : st.Whole) (src tgt : ListId) (n : Nat) : (st.move src tgt n).Whole := by
  by_cases h : src = tgt
  · subst h; rw [move_self]; exact w
  · exact (whole_move w n h).1

theorem whole_headSplice {st : Store} (w : st.Whole) (m : LogId) (k : Nat) : (st.headSplice m k).1.Whole :=
  (whole_setRecords (whole_move_any w _ _ _) _ _).1

theorem Kinds.headSplice {st : Store} (h : st.Kinds) (w : st.Whole) (m : LogId) (k : Nat) :
    (st.headSplice m k).1.Kinds := (h.move w _ (.inl rfl)).setRecords _ _

end Store

/-- What a stamped splice leaves: nothing where the PENDING list is empty; else its head stamped, the list moved to its
log and a number drawn (R14). -/
theorem stamp_cases (s : State) (v : VisitNo) (o : LogOutcome) (pass : Option Nat) :
    ((s.store.desc (.pend v)).head = none ∧ s.stamp v o pass = (s, none)) ∨
      ∃ i, (s.store.desc (.pend v)).head = some i ∧ s.stamp v o pass =
        ((s.setStore
            (((s.store.setSlot i { s.store.slot i with
              record := stampRecord (s.logs.seqs + 1) o pass (s.store.slot i).record }).splice (.pend v)
                o.target.list).setRecords o.target (s.store.records o.target + 1))).setLogs
            { s.logs with seqs := s.logs.seqs + 1 }, some (s.logs.seqs + 1)) := by
  unfold State.stamp
  cases h : (s.store.desc (.pend v)).head with
  | none => exact .inl ⟨rfl, rfl⟩
  | some i =>
    refine .inr ⟨i, rfl, ?_⟩
    simp only [Store.splice, Store.records_move]
    cases o.target <;> rfl

theorem stampRecord_holds {n : Nat} {o : LogOutcome} {p : Option Nat} {l : ListId} {x : Record} (h : l.holds x) :
    l.holds (stampRecord n o p x) := by
  unfold stampRecord
  split
  · cases l <;> exact h
  · exact h

/-! ### The pieces of a grant -/

namespace Kept

variable {s : State}

/-- A change of the store and the sequence counter alone. -/
theorem of_store {t : State} (hl : t = { s with store := t.store, logs := { s.logs with seqs := t.logs.seqs } })
    (hw : s.store.Whole → t.store.Whole) (hk : s.store.Whole → KindsSound s → t.store.Kinds) : Kept s t := by
  rw [hl] at hw hk ⊢
  exact ⟨id, id, fun h => ⟨h.rules, h.sound, h.unique⟩, id, id, fun h => ⟨h.table, h.index, h.waiting, h.held⟩,
    fun h => ⟨h.reserve, h.window, h.threshold, h.codes⟩, hw, fun w h => ⟨hk w h, h.waiting, h.held⟩⟩

theorem follow (s : State) : Kept s s.follow :=
  ⟨id, id, fun h => ⟨h.rules, h.sound, h.unique⟩, id, fun h => follow_carried h,
    fun h => ⟨h.table, h.index, h.waiting, h.held⟩, fun h => ⟨h.reserve, h.window, h.threshold, h.codes⟩, id,
    fun _ h => ⟨h.slots, h.waiting, h.held⟩⟩

theorem withStore {st : Store} (hw : s.store.Whole → st.Whole) (hk : s.store.Whole → KindsSound s → st.Kinds) :
    Kept s (s.withStore st) := (of_store (t := s.setStore st) rfl hw hk).trans (follow _)

theorem advance (s : State) : Kept s s.advance :=
  ⟨id, id, fun h => ⟨h.rules, h.sound, h.unique⟩, id, id,
    fun h => ⟨h.table, by
      have h1 := h.table.1
      have h2 := h.index
      show (if s.index + 1 < s.service.length then s.index + 1 else 0) < s.service.length
      split <;> omega, h.waiting, h.held⟩,
    fun h => ⟨h.reserve, h.window, h.threshold, h.codes⟩, id, fun _ h => ⟨h.slots, h.waiting, h.held⟩⟩

theorem cleared (s : State) (p : Requester) : Kept s (s.setRequest p none) :=
  ((Steady.refl s).setRequest p none fun _ h => by cases h).kept

theorem granted (s : State) (p : Requester) : Kept s (s.granted p) := (advance s).trans (cleared _ p)

theorem stamp (s : State) (v : VisitNo) (o : LogOutcome) (pass : Option Nat) : Kept s (s.stamp v o pass).1 := by
  rcases stamp_cases s v o pass with ⟨_, h⟩ | ⟨i, _, h⟩
  · rw [h]; exact refl s
  · rw [h]
    refine of_store rfl (fun w => ?_) (fun w k => ?_)
    · obtain ⟨w', _⟩ := Store.whole_setRecord w i (stampRecord (s.logs.seqs + 1) o pass (s.store.slot i).record)
        (s.store.slot i).alloc
      exact (Store.whole_setRecords (Store.whole_move_any w' _ _ _) _ _).1
    · obtain ⟨w', _⟩ := Store.whole_setRecord w i (stampRecord (s.logs.seqs + 1) o pass (s.store.slot i).record)
        (s.store.slot i).alloc
      have k' := Store.Kinds.setRecord k.slots i (x := { s.store.slot i with
        record := stampRecord (s.logs.seqs + 1) o pass (s.store.slot i).record }) (stampRecord_holds (k.slots i))
      refine (Store.Kinds.move k' w' _ (.inr fun x hx => ?_)).setRecords _ _
      cases o <;> exact hx

end Kept

end Sys2Proof.Machine
end

section
/-! PROOFS. What each grant can do, said once, and the resets: every command keeps the registers sound (O59) and the
lists whole (O56). -/

namespace Sys2Proof.Machine

/-! ### What the grants can do -/

theorem grant_some {s : State} {p : Requester} {q : Request} (h : s.grant = some (p, q)) :
    s.alive = true ∧ s.service[s.index]? = some p ∧ s.request p = some q := by
  unfold State.grant at h
  split at h
  · cases h
  · next p' hp =>
    simp only [Option.map_eq_some_iff, Prod.mk.injEq] at h
    obtain ⟨q', hq, rfl, rfl⟩ := h
    unfold State.turn at hp
    split at hp
    · next ha =>
      simp only [Bool.and_eq_true] at ha
      exact ⟨ha.1, hp, hq⟩
    · cases hp

theorem serviceTurn_cases {s t : State} (h : exec .serviceTurn s = .next t) : t = s ∨ t = s.advance := by
  obtain rfl := Host.Outcome.next.inj h
  split
  · split
    · exact .inr rfl
    · exact .inl rfl
  · exact .inl rfl

/-- R9, R10: an allocation is refused, or a slot moves. -/
theorem allocation_cases {s t : State} (h : exec .allocation s = .next t) :
    (t = s ∧ ∀ p tgt cls x, s.grant ≠ some (p, .alloc tgt cls x)) ∨
      ∃ p tgt cls x, s.grant = some (p, .alloc tgt cls x) ∧
      ((s.allocRefused tgt cls x = true ∧ Steady (s.granted p) t) ∨
        ∃ st i, s.allocRefused tgt cls x = false ∧ s.store.allocate tgt x = some (st, i) ∧
          Steady ((s.granted p).withStore st) t) := by
  change execAllocation s = .next t at h
  unfold execAllocation at h
  split at h
  · next p tgt cls x hg =>
    refine .inr ⟨p, tgt, cls, x, hg, ?_⟩
    split at h
    · next hr =>
      obtain rfl := Host.Outcome.next.inj h
      exact .inl ⟨hr, (Steady.refl _).allocated _ _⟩
    · next hr =>
      split at h
      · cases h
      · next st i ha =>
        obtain rfl := Host.Outcome.next.inj h
        exact .inr ⟨st, i, by simpa using hr, ha, ((Steady.refl _).reportList _).allocated _ _⟩
  · next hno => exact .inl ⟨(Host.Outcome.next.inj h).symm, hno⟩

theorem slotRead_cases {s t : State} (h : exec .slotRead s = .next t) :
    (t = s ∧ ∀ p l i, s.grant ≠ some (p, .read l i)) ∨
      ∃ p l i, s.grant = some (p, .read l i) ∧ Steady (s.granted p) t := by
  change execSlotRead s = .next t at h
  unfold execSlotRead at h
  split at h
  · next p l i hg =>
    simp only at h
    split at h
    · cases h
    · obtain rfl := Host.Outcome.next.inj h
      exact .inr ⟨p, l, i, hg, (Steady.refl _).readBy _ _ _⟩
  · next hno => exact .inl ⟨(Host.Outcome.next.inj h).symm, hno⟩

theorem slotWrite_cases {s t : State} (h : exec .slotWrite s = .next t) :
    (t = s ∧ ∀ p l i f, s.grant ≠ some (p, .write l i f)) ∨
      ∃ p l i f, s.grant = some (p, .write l i f) ∧
      ((s.store.write s.now l i f = none ∧ Steady (s.granted p) t) ∨
        ∃ st, s.store.write s.now l i f = some st ∧ Steady ((s.granted p).setStore st) t) := by
  obtain rfl := Host.Outcome.next.inj h
  split
  · next p l i f hg =>
    refine .inr ⟨p, l, i, f, hg, ?_⟩
    split
    · next st hw => exact .inr ⟨st, hw, ((Steady.refl _).reportList _).writtenBy _ _⟩
    · next hw => exact .inl ⟨hw, (Steady.refl _).writtenBy _ _⟩
  · next hno => exact .inl ⟨rfl, hno⟩

theorem wholeListSplice_cases {s t : State} (h : exec .wholeListSplice s = .next t) :
    (t = s ∧ ∀ p src tgt, s.grant ≠ some (p, .splice src tgt)) ∨
      ∃ p src tgt, s.grant = some (p, .splice src tgt) ∧
      Steady ((s.granted p).withStore (s.store.splice src tgt)) t := by
  obtain rfl := Host.Outcome.next.inj h
  split
  · next p src tgt hg => exact .inr ⟨p, src, tgt, hg, ((Steady.refl _).reportList _).splicedBy _ _⟩
  · next hno => exact .inl ⟨rfl, hno⟩

theorem stampedSplice_cases {s t : State} (h : exec .stampedSplice s = .next t) :
    (t = s ∧ ∀ p v o pass, s.grant ≠ some (p, .stamped v o pass)) ∨
      ∃ p v o pass, s.grant = some (p, .stamped v o pass) ∧
      Steady ((s.granted p).stamp v o pass).1.follow t := by
  obtain rfl := Host.Outcome.next.inj h
  split
  · next p v o pass hg => exact .inr ⟨p, v, o, pass, hg, (Steady.refl _).stampedBy _ _ _⟩
  · next hno => exact .inl ⟨rfl, hno⟩

theorem headSplice_cases {s t : State} (h : exec .headSplice s = .next t) :
    (t = s ∧ ∀ p m k, s.grant ≠ some (p, .headSplice m k)) ∨
      ∃ p m k, s.grant = some (p, .headSplice m k) ∧
      Steady ((s.granted p).withStore (s.store.headSplice m k).1) t := by
  obtain rfl := Host.Outcome.next.inj h
  split
  · next p m k hg => exact .inr ⟨p, m, k, hg, (Steady.refl _).headSplicedBy _⟩
  · next hno => exact .inl ⟨rfl, hno⟩

theorem serviceTableGrant_cases {s t : State} (h : exec .serviceTableGrant s = .next t) :
    (t = s ∧ ∀ p ps, s.grant ≠ some (p, .serviceTable ps)) ∨
      ∃ p ps, s.grant = some (p, .serviceTable ps) ∧
      Steady ({ s with service := ps, index := 0 }.setRequest p none) t := by
  obtain rfl := Host.Outcome.next.inj h
  split
  · next p ps hg =>
    refine .inr ⟨p, ps, hg, ?_⟩
    simp only
    split
    · exact (Steady.refl _).answer _ _ _
    · exact .refl _
  · next hno => exact .inl ⟨rfl, hno⟩

theorem storeCountsGrant_cases {s t : State} (h : exec .storeCountsGrant s = .next t) :
    (t = s ∧ ∀ p v, s.grant ≠ some (p, .storeCounts v)) ∨
      ∃ p v, s.grant = some (p, .storeCounts v) ∧ Steady (s.granted p) t := by
  obtain rfl := Host.Outcome.next.inj h
  split
  · next p v hg =>
    refine .inr ⟨p, v, hg, ?_⟩
    simp only
    split
    · exact (Steady.refl _).answer _ _ _
    · exact .refl _
  · next hno => exact .inl ⟨rfl, hno⟩

/-! ### The grants keep -/

theorem FlagsFollow.granted {s : State} (h : FlagsFollow s) (p : Requester) : FlagsFollow (s.granted p) :=
  h.congr rfl rfl rfl rfl

/-- A write leaves the counts of the lists and of the logs. -/
theorem FlagsFollow.written {s : State} (h : FlagsFollow s) {n : Nat} {l : ListId} {i : SlotRef} {f : WriteFields}
    {st : Store} (hw : s.store.write n l i f = some st) : FlagsFollow (s.setStore st) := by
  unfold Store.write at hw
  split at hw
  · simp only [Option.map_eq_some_iff] at hw
    obtain ⟨x, _, rfl⟩ := hw
    exact ⟨h.low, h.log, h.exc, h.audit⟩
  · cases hw

/-- An allocation that is presented has a list of a visit as its target. -/
theorem Request.KeepsKinds.alloc {tgt : ListId} {cls : AllocClass} {x : Record}
    (h : (Request.alloc tgt cls x).KeepsKinds) : tgt.holds x ∧ tgt ≠ .free := by
  cases tgt <;> simp only [Request.KeepsKinds] at h <;> exact ⟨h, by simp⟩

theorem Request.KeepsKinds.splice {src tgt : ListId} (h : (Request.splice src tgt).KeepsKinds) :
    tgt = .free ∧ src ≠ .free := by
  cases src <;> cases tgt <;> simp [Request.KeepsKinds] at h ⊢

/-- What a command keeps of the registers and of the store. -/
def Keeps (s t : State) : Prop := Kept s t ∧ (FlagsFollow s → FlagsFollow t)

namespace Keeps

variable {r s t : State}

theorem refl (s : State) : Keeps s s := ⟨.refl s, id⟩

theorem trans (a : Keeps r s) (b : Keeps s t) : Keeps r t := ⟨a.1.trans b.1, b.2 ∘ a.2⟩

theorem steady (a : Keeps r s) (b : Steady s t) : Keeps r t := a.trans ⟨b.kept, b.follow⟩

theorem granted (s : State) (p : Requester) : Keeps s (s.granted p) := ⟨.granted s p, fun h => h.granted p⟩

/-- A grant that leaves a new store, its conditions evaluated. -/
theorem withStore (p : Requester) {st : Store} (hw : s.store.Whole → st.Whole)
    (hk : s.store.Whole → KindsSound s → st.Kinds) : Keeps s ((s.granted p).withStore st) :=
  ⟨(Kept.withStore hw hk).trans (Kept.granted (s.withStore st) p), fun _ => follow_follows _⟩

theorem allocation (h : exec .allocation s = .next t) : Keeps s t := by
  rcases allocation_cases h with ⟨rfl, _⟩ | ⟨p, tgt, cls, x, hg, ⟨_, ht⟩ | ⟨st, i, _, ha, ht⟩⟩
  · exact refl _
  · exact (granted s p).steady ht
  · refine (withStore p (fun w => Store.whole_allocate w ha) fun w k => ?_).steady ht
    obtain ⟨hx, hf⟩ := (k.waiting p _ (grant_some hg).2.2).alloc
    exact Store.Kinds.allocate k.slots w hx hf ha

theorem slotRead (h : exec .slotRead s = .next t) : Keeps s t := by
  rcases slotRead_cases h with ⟨rfl, _⟩ | ⟨p, l, i, _, ht⟩
  · exact refl _
  · exact (granted s p).steady ht

theorem slotWrite (h : exec .slotWrite s = .next t) : Keeps s t := by
  rcases slotWrite_cases h with ⟨rfl, _⟩ | ⟨p, l, i, f, hg, ⟨_, ht⟩ | ⟨st, hw, ht⟩⟩
  · exact refl _
  · exact (granted s p).steady ht
  · refine Keeps.steady ((granted s p).trans ⟨Kept.of_store (t := (s.granted p).setStore st) rfl ?_ ?_, ?_⟩) ht
    · exact fun w => (Store.whole_write w hw).1
    · exact fun _ k => Store.Kinds.write k.slots hw
    · exact fun hf => hf.written hw

theorem wholeListSplice (h : exec .wholeListSplice s = .next t) : Keeps s t := by
  rcases wholeListSplice_cases h with ⟨rfl, _⟩ | ⟨p, src, tgt, hg, ht⟩
  · exact refl _
  · refine (withStore p (fun w => Store.whole_move_any w _ _ _) fun w k => ?_).steady ht
    obtain ⟨rfl, _⟩ := (k.waiting p _ (grant_some hg).2.2).splice
    exact Store.Kinds.splice k.slots w src

theorem stampedSplice (h : exec .stampedSplice s = .next t) : Keeps s t := by
  rcases stampedSplice_cases h with ⟨rfl, _⟩ | ⟨p, v, o, pass, _, ht⟩
  · exact refl _
  · exact Keeps.steady ⟨((Kept.granted s p).trans (.stamp _ v o pass)).trans (.follow _),
      fun _ => follow_follows _⟩ ht

theorem headSplice (h : exec .headSplice s = .next t) : Keeps s t := by
  rcases headSplice_cases h with ⟨rfl, _⟩ | ⟨p, m, k, _, ht⟩
  · exact refl _
  · exact (withStore p (fun w => Store.whole_headSplice w m k) fun w hk =>
      Store.Kinds.headSplice hk.slots w m k).steady ht

theorem storeCountsGrant (h : exec .storeCountsGrant s = .next t) : Keeps s t := by
  rcases storeCountsGrant_cases h with ⟨rfl, _⟩ | ⟨p, v, _, ht⟩
  · exact refl _
  · exact (granted s p).steady ht

theorem serviceTurn (h : exec .serviceTurn s = .next t) : Keeps s t := by
  rcases serviceTurn_cases h with rfl | rfl
  · exact refl _
  · exact ⟨.advance s, fun hf => hf.congr rfl rfl rfl rfl⟩

/-- R19: the new table is one that a SERVICE_LOAD presented, and the index points at its first entry. -/
theorem serviceTableGrant (h : exec .serviceTableGrant s = .next t) : Keeps s t := by
  rcases serviceTableGrant_cases h with ⟨rfl, _⟩ | ⟨p, ps, hg, ht⟩
  · exact refl _
  · refine Keeps.steady (Keeps.trans (s := { s with service := ps, index := 0 }) ⟨?_, ?_⟩
      ⟨Kept.cleared _ p, fun hf => hf.congr rfl rfl rfl rfl⟩) ht
    · exact ⟨id, id, fun h => ⟨h.rules, h.sound, h.unique⟩, id, id,
        fun h =>
          have valid := h.waiting p ps (grant_some hg).2.2
          ⟨valid, valid.1, h.waiting, h.held⟩,
        fun h => ⟨h.reserve, h.window, h.threshold, h.codes⟩, id, fun _ h => ⟨h.slots, h.waiting, h.held⟩⟩
    · exact fun hf => hf.congr rfl rfl rfl rfl

end Keeps

/-! ### The resets (R208, R209) -/

theorem defaultService_valid : TableValid defaultService :=
  ⟨by decide, by decide, fun p => by cases p <;> decide⟩

theorem cold_classes : ClassTable.cold.Symmetric ∧ ClassTable.cold.Ranged :=
  ⟨fun a b => by simp [ClassTable.cold], by constructor <;> simp [ClassTable.cold, Config.defaultChunk]⟩

theorem cold_settings (b : BitRate) (cs : List Instr) : SettingsSound (State.cold b cs) where
  reserve := by show Config.defaultReserve ≤ 255; decide
  window := by show 1 ≤ Config.defaultWindow ∧ Config.defaultWindow ≤ 60; decide
  threshold := by show 1 ≤ Config.defaultThreshold ∧ Config.defaultThreshold ≤ 255; decide
  codes := by show 0 ≤ 65535; decide

theorem cold_request (b : BitRate) (cs : List Instr) (p : Requester) : (State.cold b cs).request p = none :=
  tget_replicate none p.ix

theorem cold_service (b : BitRate) (cs : List Instr) : ServiceSound (State.cold b cs) where
  table := defaultService_valid
  index := defaultService_valid.1
  waiting p _ hp := nomatch (cold_request b cs p).symm.trans hp
  held _ h := nomatch (show none = some _ from h)

theorem cold_clock : ClockSound TimeBase.cold := by constructor <;> decide

theorem cold_slot (i : SlotNo) : (Store.cold.slot i).record = .none ∧ (Store.cold.slot i).owner = .free := by
  simp [Store.slot, Store.cold, tget_tableOf]

theorem cold_kindsSound (b : BitRate) (cs : List Instr) : KindsSound (State.cold b cs) where
  slots i := by
    have hs : (State.cold b cs).store = Store.cold := rfl
    rw [hs, (cold_slot i).1, (cold_slot i).2]
    trivial
  waiting p _ hp := nomatch (cold_request b cs p).symm.trans hp
  held _ h := nomatch (show none = some _ from h)

theorem cold_desc (l : ListId) : Store.cold.desc l = if l = .free then ⟨some 0, some 1023, 1024⟩ else Desc.empty := by
  simp only [Store.desc, Store.cold, tget_tableOf, Store.num_val]
  by_cases h : l = .free
  · subst h; rfl
  · have : Store.place l ≠ 0 := fun e => h (Store.place_inj (m := .free) e)
    simp [h, this]

theorem carried_reset (l : LinkNo) : (Links.reset.get l).flags = 0 ∧ (Links.reset.get l).mask = 0 := by
  cases l <;> exact ⟨rfl, rfl⟩

theorem cold_follows (b : BitRate) (cs : List Instr) : FlagsFollow (State.cold b cs) := by
  have hs : (State.cold b cs).store = Store.cold := rfl
  have free : Store.cold.freeCount = 1024 := by unfold Store.freeCount; rw [cold_desc]; rfl
  have exc : (Store.cold.desc .exception).count = 0 := by rw [cold_desc]; rfl
  have clear : ∀ l f, hasFlag ((State.cold b cs).link l).flags f = false := by
    intro l f
    show hasFlag (Links.reset.get l).flags f = false
    rw [(carried_reset l).1]
    simp [hasFlag]
  refine ⟨?_, ?_, ?_, ?_⟩ <;> rw [clear]
  · unfold State.storeLow; rw [hs, free]; rfl
  · rfl
  · unfold State.excReady; rw [hs, exc]; rfl
  · rfl

namespace Kept

variable {s : State}

theorem returned (s : State) (l : ListId) : Kept s (s.returned l) :=
  of_store (t := s.returned l) rfl (fun w => Store.whole_move_any w _ _ _) fun w k => Store.Kinds.splice k.slots w l

theorem setVisit (s : State) (v : VisitNo) (x : Visit) : Kept s (s.setVisit v x) := ((Steady.refl s).setVisit v x).kept

theorem settledUnrecorded (s : State) (v : VisitNo) : Kept s (s.settledUnrecorded v) :=
  (Steady.raise ((Steady.refl s).setVisit v _) ⟨rfl, by decide⟩).kept

theorem settleAbort (v : VisitNo) (fuel : Nat) (s : State) : Kept s (State.settleAbort v fuel s) := by
  induction fuel generalizing s with
  | zero => exact setVisit s v _
  | succ fuel ih =>
    unfold State.settleAbort
    split
    · exact setVisit s v _
    · next c _ =>
      split
      · exact ((returned s _).trans (setVisit _ v _)).trans (ih _)
      · exact ((stamp s _ _ _).trans (setVisit _ v _)).trans (ih _)
      · next tgt cls x hq =>
        split
        · exact settledUnrecorded s v
        · split
          · exact settledUnrecorded s v
          · next st i ha =>
            refine Kept.trans (Kept.trans (of_store (t := s.setStore st) rfl ?_ ?_) (setVisit _ v _)) (ih _)
            · exact fun w => Store.whole_allocate w ha
            · intro w k
              obtain ⟨hx, hf⟩ := (abortRequest_tame hq).1.alloc
              exact Store.Kinds.allocate k.slots w hx hf ha
      · exact setVisit s v _

theorem settleState (s : State) (v : VisitNo) : Kept s (s.settleState v) := by
  unfold State.settleState
  simp only
  split
  · split
    · exact (returned s _).trans (setVisit _ v _)
    · exact refl s
  · exact setVisit s v _
  · exact (returned s _).trans (setVisit _ v _)
  · exact (stamp s _ _ _).trans (setVisit _ v _)
  · exact (stamp s _ _ _).trans (setVisit _ v _)
  · exact (((returned s _).trans (returned _ _)).trans (stamp _ _ _ _)).trans (setVisit _ v _)
  · exact settleAbort v 5 s
  · exact refl s

theorem settleAll (vs : List VisitNo) (s : State) : Kept s (State.settleAll vs s) := by
  induction vs generalizing s with
  | nil => exact refl s
  | cons v vs ih =>
    refine ((settleState s v).trans ?_).trans (ih _)
    unfold State.settlePaper
    split
    · exact returned _ _
    · exact refl _

theorem discarded (s : State) : Kept s s.discarded := by
  refine ⟨id, id, fun h => ⟨h.rules, h.sound, h.unique⟩, fun h => ⟨h.seconds, h.slew, h.unset⟩, fun _ l => ?_,
    fun h => ⟨h.table, h.table.1, fun p ps hp => ?_, fun ps hp => ?_⟩,
    fun h => ⟨h.reserve, h.window, h.threshold, h.codes⟩, id, fun _ h => ⟨h.slots, fun p q hp => ?_, fun q hq => ?_⟩⟩
  · obtain ⟨hf, hm⟩ := carried_reset l
    show (Links.reset.get l).flags &&& _ = 0 ∧ (Links.reset.get l).mask &&& _ = 0
    rw [hf, hm]
    simp
  · simp [State.discarded, State.request] at hp
  · simp [State.discarded, State.SweepUnit.cut] at hp
  · simp [State.discarded, State.request] at hp
  · simp [State.discarded, State.SweepUnit.cut] at hq

theorem defaulted (h0 : s.index = 0) : Kept s s.defaulted :=
  ⟨fun _ => cold_classes.1, fun _ => cold_classes.2, fun h =>
      have hd := h.withRules defaultRules_ranged
      ⟨hd.rules, hd.sound, hd.unique⟩, id, id,
    fun h => ⟨defaultService_valid, by show s.index < defaultService.length; rw [h0]; decide, h.waiting, h.held⟩,
    fun h =>
      have hc := cold_settings s.rate []
      ⟨hc.reserve, hc.window, hc.threshold, h.codes⟩,
    id, fun _ h => ⟨h.slots, h.waiting, h.held⟩⟩

theorem setCc (s : State) (x : Control) : Kept s (s.setCc x) := ((Steady.refl s).setCc x).kept

theorem reset209 (s : State) : Kept s s.reset209 := by
  unfold State.reset209
  simp only
  refine (Kept.trans (Kept.trans (discarded s) ?_) (follow _)).trans (setCc _ _)
  refine Kept.trans ?_ ((setCc _ _).trans (settleAll _ _))
  split
  · exact refl _
  · exact defaulted rfl

end Kept

/-- The condition flags follow after every reset work: they are evaluated at its end (R196, R209). -/
theorem reset209_follows (s : State) : FlagsFollow s.reset209 := by
  have last : ∀ (u : State) (x : Control), FlagsFollow (u.follow.setCc x) := fun u _ =>
    (follow_follows u).congr rfl rfl rfl rfl
  exact last _ _

theorem cutLinks_get (k : Links) (l : LinkNo) : (State.cutLinks k).get l = State.cutLink (k.get l) := by
  cases l <;> rfl

namespace Keeps

variable {s t : State}

theorem reset209 (s : State) : Keeps s s.reset209 := ⟨.reset209 s, fun _ => reset209_follows s⟩

/-- A change of the supplies, RST and the straps alone. -/
theorem of_pins (h : t = { s with power := t.power, rst := t.rst, rate := t.rate }) : Keeps s t := by
  rw [h]
  exact ⟨(Steady.of_same (s := s) (t := { s with power := t.power, rst := t.rst, rate := t.rate })
    rfl rfl rfl rfl rfl rfl rfl rfl rfl rfl rfl rfl).kept, fun hf => hf.congr rfl rfl rfl rfl⟩

/-- The links' work cut off: flags and masks stand (R208). -/
theorem cutLinks (s : State) : Keeps s { s with links := State.cutLinks s.links } := by
  have line : ∀ l, (({ s with links := State.cutLinks s.links } : State).link l) = State.cutLink (s.link l) :=
    fun l => cutLinks_get _ l
  refine ⟨⟨id, id, fun h => ⟨h.rules, h.sound, h.unique⟩, id, fun h l => ?_,
    fun h => ⟨h.table, h.index, h.waiting, h.held⟩, fun h => ⟨h.reserve, h.window, h.threshold, h.codes⟩, id,
    fun _ h => ⟨h.slots, h.waiting, h.held⟩⟩, fun h => ⟨?_, ?_, ?_, ?_⟩⟩
  · rw [line]; exact h l
  · exact h.low
  · exact h.log
  · exact h.exc
  · exact h.audit

theorem unpowered (s : State) : Keeps s s.unpowered := by
  refine (cutLinks s).trans ⟨⟨id, id, fun h => ⟨h.rules, h.sound, h.unique⟩,
    fun h => ⟨h.seconds, h.slew, h.unset⟩, id, fun h => ⟨h.table, h.index, fun p ps hp => ?_, h.held⟩,
    fun h => ⟨h.reserve, h.window, h.threshold, h.codes⟩, id, fun _ h => ⟨h.slots, fun p q hp => ?_, h.held⟩⟩,
    fun hf => hf.congr rfl rfl rfl rfl⟩
  · simp [State.unpowered, State.request] at hp
  · simp [State.unpowered, State.request] at hp

/-- After a cold start every register is in its range and every list whole (R23 and the reset rules). -/
theorem cold (s : State) (b : BitRate) (cs : List Instr) : Keeps s (State.cold b cs) := by
  refine ⟨⟨fun _ => cold_classes.1, fun _ => cold_classes.2,
    fun _ => ⟨defaultRules_ranged, fun e d hd => ?_, fun e f d g hd => ?_⟩, fun _ => cold_clock,
    fun _ l => ?_, fun _ => cold_service b cs,
    fun _ => cold_settings b cs,
    fun _ => Store.whole_cold, fun _ _ => cold_kindsSound b cs⟩, fun _ => cold_follows b cs⟩
  · simp [State.cold, State.driver] at hd
  · simp [State.cold, State.driver] at hd
  · obtain ⟨hf, hm⟩ := carried_reset l
    show (Links.reset.get l).flags &&& _ = 0 ∧ (Links.reset.get l).mask &&& _ = 0
    rw [hf, hm]
    simp

theorem lineReset {cause : ResetCause} {straps : Straps} (h : exec (.lineReset cause straps) s = .next t) :
    Keeps s t := by
  obtain rfl := Host.Outcome.next.inj h
  split
  · split
    · exact refl s
    · split
      · exact (of_pins (t := { s with rst := false, rate := _ }) rfl).trans (reset209 _)
      · exact of_pins rfl
  · split
    · exact refl s
    · split
      · exact of_pins rfl
      · exact (of_pins (t := { s with power := .main, rate := _ }) rfl).trans (reset209 _)

theorem replySent {l : LinkNo} (h : exec (.replySent l) s = .next t) : Keeps s t := by
  obtain rfl := Host.Outcome.next.inj h
  split
  · exact reset209 s
  · exact (refl s).steady ((Steady.refl s).setLink
      ((Link.putReplying_line l _ _).trans (Link.wake_line l _)))
  · exact refl s

/-- Every command keeps the registers and the store. -/
theorem exec {i : Instr} (h : exec i s = .next t) : Keeps s t := by
  cases hi : Instr.turnOrReset i with
  | false => exact (refl s).steady (exec_steady hi h)
  | true =>
    cases i with
    | serviceTurn => exact serviceTurn h
    | allocation => exact allocation h
    | slotRead => exact slotRead h
    | slotWrite => exact slotWrite h
    | wholeListSplice => exact wholeListSplice h
    | stampedSplice => exact stampedSplice h
    | headSplice => exact headSplice h
    | serviceTableGrant => exact serviceTableGrant h
    | storeCountsGrant => exact storeCountsGrant h
    | replySent l => exact replySent h
    | rstAssert => cases h; exact (cutLinks s).trans (of_pins rfl)
    | lineReset c x => exact lineReset h
    | coldStart a b => cases h; exact (cold s _ _).trans (of_pins rfl)
    | mainSupplyLoss =>
      obtain rfl := Host.Outcome.next.inj h
      split
      · exact unpowered s
      · exact refl s
    | backupSupplyLoss => cases h; exact (cold s _ _).trans (of_pins rfl)
    | _ => cases hi

/-- Taking a command from the queue keeps all. -/
theorem pending (s : State) (cs : List Instr) : Keeps s { s with pending := cs } :=
  ⟨(Steady.of_same (s := s) (t := { s with pending := cs }) rfl rfl rfl rfl rfl rfl rfl rfl rfl rfl rfl rfl).kept, fun hf => hf.congr rfl rfl rfl rfl⟩

theorem step (h : step s = .next t) : Keeps s t := by
  unfold Machine.step at h
  split at h
  · cases h; exact refl s
  · next cs _ => exact (pending s cs).trans (Keeps.exec h)

end Keeps

/-- Settles O59: each register is kept in its range by every command (`Keeps.step`). -/
theorem registersStaySound : Obligations.RegistersStaySound := by
  intro s t h
  obtain ⟨k, follow⟩ := Keeps.step h
  exact ⟨k.symmetric, k.ranged, k.drivers, k.clock, follow, k.carried, k.service, k.settings⟩

/-! ### No step stops on a broken FREE (R7, R10) -/

theorem allocRefused_of_empty {s : State} {tgt : ListId} {x : Record} (cls : AllocClass)
    (h : s.store.freeCount = 0) : s.allocRefused tgt cls x = true := by
  cases cls <;> simp [State.allocRefused, h]

theorem allocation_not_broken {s : State} (w : s.store.Whole) : exec .allocation s ≠ .fault .chainBroken := by
  change execAllocation s ≠ _
  unfold execAllocation
  split
  · next p tgt cls x hg =>
    split
    · exact nofun
    · next hr =>
      split
      · next ha =>
        exfalso
        refine hr (allocRefused_of_empty cls ?_)
        have hh : (s.store.desc .free).head = none := by
          unfold Store.allocate at ha
          split at ha
          · assumption
          · cases ha
        have hc : s.store.chain .free = [] := List.head?_eq_none_iff.1 ((w .free).head.trans hh)
        show (s.store.desc .free).count = 0
        rw [← (w .free).length, hc]
        rfl
      · exact nofun
  · exact nofun

theorem allocation_outcome (s : State) :
    (∃ t, exec .allocation s = .next t) ∨ exec .allocation s = .fault .chainBroken := by
  change (∃ t, execAllocation s = .next t) ∨ execAllocation s = _
  unfold execAllocation
  split
  · split
    · exact .inl ⟨_, rfl⟩
    · split
      · exact .inr rfl
      · exact .inl ⟨_, rfl⟩
  · exact .inl ⟨_, rfl⟩

theorem slotRead_outcome (s : State) :
    (∃ t, exec .slotRead s = .next t) ∨ exec .slotRead s = .fault .neverTaken := by
  change (∃ t, execSlotRead s = .next t) ∨ execSlotRead s = _
  unfold execSlotRead
  split
  · simp only
    split
    · exact .inr rfl
    · exact .inl ⟨_, rfl⟩
  · exact .inl ⟨_, rfl⟩

/-- The two commands that can stop are ALLOCATION and SLOT_READ, and none is refused by the model. -/
theorem exec_outcome (i : Instr) (s : State) :
    (∃ t, exec i s = .next t) ∨ (i = .allocation ∧ exec i s = .fault .chainBroken) ∨
      (i = .slotRead ∧ exec i s = .fault .neverTaken) := by
  cases i
  case allocation => exact (allocation_outcome s).imp_right fun h => .inl ⟨rfl, h⟩
  case slotRead => exact (slotRead_outcome s).imp_right fun h => .inr ⟨rfl, h⟩
  all_goals exact .inl ⟨_, rfl⟩

/-- Settles O56: every command keeps the lists whole and the kinds (`Keeps.step`), and a whole FREE has a head slot
wherever an allocation is not refused. -/
theorem listsStayWhole : Obligations.ListsStayWhole := by
  intro s w
  refine ⟨fun t h => ⟨(Keeps.step h).1.whole w, (Keeps.step h).1.kinds w⟩, fun h => ?_, fun r h => ?_⟩
  · unfold step at h
    split at h
    · cases h
    · next c cs _ =>
      rcases exec_outcome c { s with pending := cs } with ⟨t, ht⟩ | ⟨rfl, _⟩ | ⟨_, ht⟩
      · rw [ht] at h; cases h
      · exact allocation_not_broken (s := { s with pending := cs }) w h
      · rw [ht] at h; cases h
  · unfold step at h
    split at h
    · cases h
    · next c cs _ =>
      rcases exec_outcome c { s with pending := cs } with ⟨t, ht⟩ | ⟨_, ht⟩ | ⟨_, ht⟩ <;> rw [ht] at h <;>
        cases h

end Sys2Proof.Machine
end

section
/-! PROOFS. The store after a cold start (O3), SERVICE_LOAD (O23), the turns of the service table (O42), and what each
grant does to the chains of the store (O43 to O45). -/

namespace Sys2Proof.Machine

/-! ### Cold start (R23) -/

theorem cold_slot_eq (i : SlotNo) : Store.cold.slot i =
    ⟨.none, 0, if h : i.val + 1 < 1024 then some ⟨i.val + 1, h⟩ else none, .free⟩ := by
  simp only [Store.slot, Store.cold, tget_tableOf]

theorem cold_chain_free : Store.cold.chain .free = List.finRange 1024 := by
  obtain ⟨c, hc⟩ : ∃ c, c = List.finRange 1024 := ⟨_, rfl⟩
  have hruns := Runs.rising_all 1024 (by omega) (nx := Store.cold.next)
    (fun i => congrArg Slot.next (cold_slot_eq i)) hc
  have h := Store.chainFrom_of_runs hruns
  have hlen : c.length = 1024 := by rw [hc, List.length_finRange]
  unfold Store.chain
  rw [hlen, hc] at h
  rw [cold_desc, if_pos rfl]
  exact h

/-- Settles O3. -/
theorem coldStartStore : Obligations.ColdStartStore := by
  intro a b s
  refine ⟨_, rfl, fun i => ?_, cold_chain_free, ?_, fun l hl => ?_, rfl, rfl, rfl, ?_, rfl, rfl, fun p => ?_⟩
  · show (Store.cold.slot i).record = _ ∧ (Store.cold.slot i).alloc = _ ∧ (Store.cold.slot i).owner = _ ∧
      (Store.cold.slot i).next = _
    rw [cold_slot_eq]
    exact ⟨rfl, rfl, rfl, rfl⟩
  · show Store.cold.desc .free = _
    rw [cold_desc, if_pos rfl]
  · show Store.cold.desc l = _
    rw [cold_desc, if_neg hl]
    rfl
  · show decide ((Store.cold.desc .free).count ≤ Config.defaultReserve) = false
    rw [cold_desc, if_pos rfl]
    rfl
  · exact cold_request (BitRate.ofStraps a b) s.pending p

/-! ### SERVICE_LOAD (R19) -/

theorem taken_executing {s : State} {h : Head} {i : Instr} (ht : Taken s h i) :
    ∃ e, s.executing h.link = some e := by
  obtain ⟨_, e, he, _⟩ := State.nextItem_executing ht.1
  exact ⟨e, he⟩

theorem job_some {s : State} {l : LinkNo} {j : Job} (h : s.job l = some j) :
    ∃ e k, s.executing l = some e ∧ e.cur = some k ∧ k.job = j := by
  simp only [State.job, Option.bind_eq_some_iff, Option.map_eq_some_iff] at h
  obtain ⟨e, he, k, hk, hj⟩ := h
  exact ⟨e, k, he, hk, hj⟩

theorem serviceEntries_eq_none {ns : List Nat} : State.serviceEntries ns = none ↔ ∃ n ∈ ns, 6 < n := by
  have one : ∀ n, requester? n = none ↔ 6 < n := by
    intro n
    unfold requester?
    split
    case h_8 h0 h1 h2 h3 h4 h5 h6 =>
      refine ⟨fun _ => ?_, fun _ => rfl⟩
      by_contra hn
      have hle : n < 7 := by omega
      interval_cases n
      exacts [h0 rfl, h1 rfl, h2 rfl, h3 rfl, h4 rfl, h5 rfl, h6 rfl]
    all_goals simp
  induction ns with
  | nil => simp [State.serviceEntries]
  | cons n ns ih =>
    have here : State.serviceEntries (n :: ns) = none ↔ requester? n = none ∨ State.serviceEntries ns = none := by
      cases hp : requester? n <;> cases hs : State.serviceEntries ns <;> simp [State.serviceEntries, hp, hs]
    exact here.trans ((or_congr (one n) ih).trans (List.exists_mem_cons_iff ..).symm)

/-- A table names every requester where its entries hold every number from 0 to 6. -/
theorem namesAll_entries {ps : List Requester} {ns : List Nat} (h : ps.map Requester.value = ns) :
    State.namesAll ps = true ↔ ¬ ∃ n ∈ List.range 7, n ∉ ns := by
  have value_inj : ∀ p q : Requester, p.value = q.value → p = q := fun p q hpq =>
    requester_ix_inj.1 (Fin.ext hpq)
  rw [namesAll_iff, ← h]
  constructor
  · rintro hall ⟨n, hn, hno⟩
    have hlt := List.mem_range.1 hn
    obtain ⟨p, rfl⟩ : ∃ p : Requester, p.value = n := by
      interval_cases n
      exacts [⟨.p0, rfl⟩, ⟨.p1, rfl⟩, ⟨.p2, rfl⟩, ⟨.p3, rfl⟩, ⟨.check, rfl⟩, ⟨.sweep, rfl⟩, ⟨.expiry, rfl⟩]
    exact hno (List.mem_map_of_mem (hall p))
  · intro hall p
    by_contra hp
    refine hall ⟨p.value, List.mem_range.2 p.ix.isLt, fun hm => ?_⟩
    obtain ⟨q, hq, hqp⟩ := List.mem_map.1 hm
    exact hp (value_inj q p hqp ▸ hq)

theorem serviceLoad_taken {h : Head} {ns : List Nat} {s : State} (ht : Taken s h (.serviceLoad h ns)) :
    ∃ t, exec (.serviceLoad h ns) s = .next t ∧
      if ns.length < 1 ∨ 32 < ns.length ∨ ∃ n ∈ ns, 6 < n then Answered s t h (.serviceLoad h ns) .malformed []
      else if ∃ n ∈ List.range 7, n ∉ ns then Answered s t h (.serviceLoad h ns) .tableInvalid []
      else ∃ table : List Requester, table.map Requester.value = ns ∧
        Waits s t h (.serviceLoad h ns) .serviceLoad (.serviceTable table) := by
  obtain ⟨e, he⟩ := taken_executing ht
  refine ⟨_, congrArg Host.Outcome.next (State.takeItem_taken _ ht), ?_⟩
  unfold State.onServiceLoad
  by_cases hlen : ns.length < 1 ∨ 32 < ns.length
  · rw [if_pos (by tauto), if_pos hlen]
    exact State.answered_begin he _ _
  · rw [if_neg hlen]
    cases hps : State.serviceEntries ns with
    | none =>
      rw [if_pos (.inr (.inr (serviceEntries_eq_none.1 hps)))]
      exact State.answered_begin he _ _
    | some ps =>
      have hmap := serviceEntries_eq_some.1 hps
      have hform : ¬ (ns.length < 1 ∨ 32 < ns.length ∨ ∃ n ∈ ns, 6 < n) := by
        intro hc
        have hno : ∃ n ∈ ns, 6 < n := by tauto
        rw [← serviceEntries_eq_none, hps] at hno
        cases hno
      rw [if_neg hform]
      simp only
      by_cases hall : State.namesAll ps = true
      · rw [if_neg ((namesAll_entries hmap).1 hall), if_pos hall]
        exact ⟨ps, hmap, State.waits_begin he _ _⟩
      · rw [if_pos (by by_contra hc; exact hall ((namesAll_entries hmap).2 hc)), if_neg hall]
        exact State.answered_begin he _ _

/-- Settles O23. -/
theorem serviceLoadReplacesTheTable : Obligations.ServiceLoadReplacesTheTable := by
  refine ⟨fun h ns s ht => serviceLoad_taken ht, fun table s hg hj => ?_⟩
  obtain ⟨e, k, he, hk, _⟩ := job_some hj
  refine ⟨_, rfl, ?_⟩
  simp only [hg]
  exact State.finished_answer (r := { s with service := table, index := 0 }.setRequest .p0 none) he hk _ _

/-! ### Turns of the service table (R18) -/

/-- The command of the grant that a request waits for. -/
def grantCommand : Request → Instr
  | .alloc _ _ _ => .allocation
  | .read _ _ => .slotRead
  | .write _ _ _ => .slotWrite
  | .splice _ _ => .wholeListSplice
  | .stamped _ _ _ => .stampedSplice
  | .headSplice _ _ => .headSplice
  | .serviceTable _ => .serviceTableGrant
  | .storeCounts _ => .storeCountsGrant

/-- A grant's command that is not due changes nothing (log 1). -/
theorem exec_not_due {s : State} {r : Request}
    (hg : ∀ p q, s.grant = some (p, q) → grantCommand q ≠ grantCommand r) : exec (grantCommand r) s = .next s := by
  cases r
  all_goals
    simp only [grantCommand, exec, execAllocation, execSlotRead, execSlotWrite, execWholeListSplice,
      execStampedSplice, execHeadSplice, execServiceTableGrant, execStoreCountsGrant]
    split
    · next hgr => exact (hg _ _ hgr rfl).elim
    · rfl

theorem turn_of_waiting {s : State} {p q : Requester} (ha : s.alive = true) (hp : s.service[s.index]? = some p)
    (hq : s.request q ≠ none) : s.turn = some p := by
  have hw : s.anyWaiting = true :=
    List.any_eq_true.2 ⟨q, by cases q <;> decide, Option.isSome_iff_ne_none.2 hq⟩
  unfold State.turn
  rw [ha, hw]
  exact hp

theorem turn_of_none {s : State} (h : ∀ p, s.request p = none) : s.turn = none := by
  have hw : s.anyWaiting = false := List.any_eq_false.2 fun p _ => by simp [h p]
  unfold State.turn
  rw [hw]
  simp

theorem grant_turn {s : State} {p : Requester} {q : Request} (h : s.grant = some (p, q)) : s.turn = some p := by
  obtain ⟨ha, hp, hq⟩ := grant_some h
  exact turn_of_waiting ha hp (q := p) (by rw [hq]; simp)

/-- The index after a grant: the next one, and 0 after a new table (R18, R19). -/
theorem grant_index {s t : State} {p : Requester} {q : Request} (hg : s.grant = some (p, q))
    (h : exec (grantCommand q) s = .next t) :
    t.index = (match q with | .serviceTable _ => 0 | _ => s.advance.index) := by
  cases q with
  | alloc l c x =>
    rcases allocation_cases h with ⟨_, hno⟩ | ⟨_, _, _, _, _, ⟨_, ht⟩ | ⟨_, _, _, _, ht⟩⟩
    · exact absurd hg (hno _ _ _ _)
    · exact ht.index
    · exact ht.index
  | read l i =>
    rcases slotRead_cases h with ⟨_, hno⟩ | ⟨_, _, _, _, ht⟩
    · exact absurd hg (hno _ _ _)
    · exact ht.index
  | write l i f =>
    rcases slotWrite_cases h with ⟨_, hno⟩ | ⟨_, _, _, _, _, ⟨_, ht⟩ | ⟨_, _, ht⟩⟩
    · exact absurd hg (hno _ _ _ _)
    · exact ht.index
    · exact ht.index
  | splice a b =>
    rcases wholeListSplice_cases h with ⟨_, hno⟩ | ⟨_, _, _, _, ht⟩
    · exact absurd hg (hno _ _ _)
    · exact ht.index
  | stamped v o pass =>
    rcases stampedSplice_cases h with ⟨_, hno⟩ | ⟨p', v', o', pass', _, ht⟩
    · exact absurd hg (hno _ _ _ _)
    · have hs : ((s.granted p').stamp v' o' pass').1.index = s.advance.index := by
        rcases stamp_cases (s.granted p') v' o' pass' with ⟨_, e⟩ | ⟨_, _, e⟩ <;> rw [e] <;> rfl
      exact ht.index.trans hs
  | headSplice m k =>
    rcases headSplice_cases h with ⟨_, hno⟩ | ⟨_, _, _, _, ht⟩
    · exact absurd hg (hno _ _ _)
    · exact ht.index
  | serviceTable ps =>
    rcases serviceTableGrant_cases h with ⟨_, hno⟩ | ⟨_, _, _, ht⟩
    · exact absurd hg (hno _ _)
    · exact ht.index
  | storeCounts v =>
    rcases storeCountsGrant_cases h with ⟨_, hno⟩ | ⟨_, _, _, ht⟩
    · exact absurd hg (hno _ _)
    · exact ht.index

/-- Settles O42. -/
theorem turnsRotateThroughTheTable : Obligations.TurnsRotateThroughTheTable := by
  intro s advanced command
  have hcommand : ∀ q, command q = grantCommand q := fun q => by cases q <;> rfl
  simp only [hcommand]
  have turnExec : ∀ p, s.turn = some p →
      exec .serviceTurn s = .next (if (s.request p).isNone then s.advance else s) := by
    intro p hp
    show done (match s.turn with | some p => if (s.request p).isNone then s.advance else s | none => s) = _
    rw [hp]
    rfl
  refine ⟨fun p q ha hp hn hq => ?_, fun hnone => ⟨?_, fun q => ?_⟩, fun p q hg => ⟨?_, fun r hr => ?_, fun t ht => ?_⟩⟩
  · rw [turnExec p (turn_of_waiting ha hp hq), hn]
    rfl
  · show done (match s.turn with | some p => if (s.request p).isNone then s.advance else s | none => s) = _
    rw [turn_of_none hnone]
    rfl
  · refine exec_not_due fun p q' hg => ?_
    rw [State.grant, turn_of_none hnone] at hg
    cases hg
  · rw [turnExec p (grant_turn hg), (grant_some hg).2.2]
    rfl
  · refine exec_not_due fun p' q' hg' => ?_
    rw [hg] at hg'
    cases hg'
    exact Ne.symm hr
  · rw [grant_index hg ht]
    cases q <;> rfl

end Sys2Proof.Machine
end

section
/-! PROOFS. What each grant does to the chains and the slots of the store: allocations and whole-list splices (O43),
stamped and head splices (O44), reads and writes (O45). -/

namespace Sys2Proof.Machine

/-! ### Allocations and whole-list splices (R9, R10, R13) -/

theorem allocRefused_iff {s : State} {target : ListId} {cls : AllocClass} {record : Record} :
    s.allocRefused target cls record = true ↔
      (cls = .bounded ∧ (s.store.desc .free).count ≤ s.reserve) ∨
        (cls = .opened ∧ (s.store.desc .free).count = 0) ∨
        (record.isHead = true ∧ target.isPend = true ∧ 4294967295 ≤ s.logs.seqs + s.store.outstanding) := by
  cases cls <;> simp [State.allocRefused, Store.freeCount, Config.maxWord, and_assoc] <;>
    exact or_congr decide_eq_true_iff (and_congr_right fun _ => and_congr_right fun _ => decide_eq_true_iff)

/-- An allocation that has its turn, in a store whose lists are whole. -/
theorem allocation_granted {s : State} (w : s.store.Whole) {p : Requester} {target : ListId} {cls : AllocClass}
    {record : Record} (hg : s.grant = some (p, .alloc target cls record)) :
    ∃ t, exec .allocation s = .next t ∧
      ((s.allocRefused target cls record = true ∧ t.store = s.store) ∨
        s.allocRefused target cls record = false ∧ ∃ i, s.store.allocate target record = some (t.store, i)) := by
  rcases allocation_outcome s with ⟨t, ht⟩ | h
  · refine ⟨t, ht, ?_⟩
    rcases allocation_cases ht with ⟨_, hno⟩ | ⟨_, _, _, _, hg', hc⟩
    · exact absurd hg (hno _ _ _ _)
    · cases hg.symm.trans hg'
      rcases hc with ⟨hr, hs⟩ | ⟨st, i, hr, ha, hs⟩
      · exact .inl ⟨hr, hs.store⟩
      · exact .inr ⟨hr, i, by rw [ha, hs.store]; rfl⟩
  · exact absurd h (allocation_not_broken w)

/-- What a whole-list splice leaves of a slot besides its link (R13). -/
theorem slot_splice {st : Store} (w : st.Whole) {src tgt : ListId} (hne : src ≠ tgt) (i : SlotNo) :
    ((st.splice src tgt).slot i).alloc = (st.slot i).alloc ∧
      ((st.splice src tgt).slot i).owner = (if (st.slot i).owner = src then tgt else (st.slot i).owner) ∧
      ((st.splice src tgt).slot i).record =
        (if tgt = .free ∧ (st.slot i).owner = src then .none else (st.slot i).record) := by
  have h := Store.slot_move st (st.desc src).count hne i
  rw [← (w src).length, List.take_length] at h
  unfold Store.splice
  rw [← (w src).length]
  simpa only [(w src).owned i] using h

/-- A whole-list splice that has its turn. -/
theorem wholeListSplice_granted {s : State} {p : Requester} {source target : ListId}
    (hg : s.grant = some (p, .splice source target)) :
    ∃ t, exec .wholeListSplice s = .next t ∧ t.store = s.store.splice source target := by
  obtain ⟨t, ht⟩ : ∃ t, exec .wholeListSplice s = .next t := ⟨_, rfl⟩
  refine ⟨t, ht, ?_⟩
  rcases wholeListSplice_cases ht with ⟨_, hno⟩ | ⟨_, _, _, hg', hs⟩
  · exact absurd hg (hno _ _ _)
  · cases hg.symm.trans hg'
    exact hs.store

/-- Settles O43. -/
theorem allocationsAndSplicesMoveSlots : Obligations.AllocationsAndSplicesMoveSlots := by
  intro s w
  refine ⟨fun p target cls record hg hne => ?_, fun p source target hg hne => ?_⟩
  · obtain ⟨t, ht, hc⟩ := allocation_granted w hg
    rcases hc with ⟨hr, hs⟩ | ⟨hr, i, ha⟩
    · rw [if_pos (allocRefused_iff.1 hr)]
      exact ⟨t, ht, hs⟩
    · rw [if_neg (fun h => by rw [allocRefused_iff.2 h] at hr; cases hr)]
      rcases Store.allocate_spec w hne record with ⟨_, hno⟩ | ⟨j, st, hst, hw, hspec⟩
      · rw [ha] at hno
        cases hno
      · cases ha.symm.trans hst
        obtain ⟨hfree, htarget, hrest, hrec, hcount, hothers⟩ := hspec
        exact ⟨t, j, ht, hfree, htarget, hrest, hrec, hcount, hothers, hw⟩
  · obtain ⟨t, ht, hs⟩ := wholeListSplice_granted hg
    obtain ⟨hw, hsource, htarget, hrest⟩ := Store.whole_splice w hne
    refine ⟨t, ht, ?_⟩
    rw [hs]
    exact ⟨hsource, htarget, hrest, fun i => ⟨(slot_splice w hne i).1, (slot_splice w hne i).2.2⟩, hw⟩

/-! ### Stamped splices (R14) -/

/-- The store after a stamped splice of a list with a head. -/
def stampedStore (st : Store) (v : VisitNo) (o : LogOutcome) (pass : Option Nat) (seq : Nat) (i : SlotNo) : Store :=
  ((st.setSlot i { st.slot i with record := stampRecord seq o pass (st.slot i).record }).splice (.pend v)
    o.target.list).setRecords o.target (st.records o.target + 1)

theorem pend_ne_target (v : VisitNo) (o : LogOutcome) : ListId.pend v ≠ o.target.list := by cases o <;> simp [LogOutcome.target, LogId.list]

theorem target_ne_free (m : LogId) : m.list ≠ .free := by cases m <;> simp [LogId.list]

section
variable {st : Store} (w : st.Whole) (v : VisitNo) (o : LogOutcome) (pass : Option Nat) (seq : Nat) (i : SlotNo)
include w

/-- R14: the PENDING list moves to the tail of its log, and every other list stays. -/
theorem chain_stampedStore :
    (stampedStore st v o pass seq i).Whole ∧
      (stampedStore st v o pass seq i).chain (.pend v) = [] ∧
      (stampedStore st v o pass seq i).chain o.target.list = st.chain o.target.list ++ st.chain (.pend v) ∧
      ∀ l, l ≠ .pend v → l ≠ o.target.list → (stampedStore st v o pass seq i).chain l = st.chain l := by
  obtain ⟨w', hch⟩ := Store.whole_setRecord w i (stampRecord seq o pass (st.slot i).record) (st.slot i).alloc
  obtain ⟨w'', hpend, htarget, hrest⟩ := Store.whole_splice w' (pend_ne_target v o)
  obtain ⟨w3, hch3⟩ := Store.whole_setRecords w'' o.target (st.records o.target + 1)
  refine ⟨w3, (hch3 _).trans hpend, ?_, fun l hl hm => ?_⟩
  · rw [← hch, ← hch (.pend v)]
    exact (hch3 _).trans htarget
  · rw [← hch l]
    exact (hch3 _).trans (hrest l hl hm)

/-- R14: the head alone is written. -/
theorem slot_stampedStore (j : SlotNo) :
    ((stampedStore st v o pass seq i).slot j).alloc = (st.slot j).alloc ∧
      ((stampedStore st v o pass seq i).slot j).owner =
        (if (st.slot j).owner = .pend v then o.target.list else (st.slot j).owner) ∧
      ((stampedStore st v o pass seq i).slot j).record =
        (if j = i then stampRecord seq o pass (st.slot i).record else (st.slot j).record) := by
  obtain ⟨w', _⟩ := Store.whole_setRecord w i (stampRecord seq o pass (st.slot i).record) (st.slot i).alloc
  have h := slot_splice w' (pend_ne_target v o) j
  unfold stampedStore
  rw [Store.slot_setRecords]
  simp only [target_ne_free, false_and, if_false] at h
  by_cases e : j = i
  · subst e
    simpa using h
  · rw [Store.slot_setSlot_ne _ _ (Ne.symm e)] at h
    simpa [e] using h

end

theorem records_stampedStore (st : Store) (v : VisitNo) (o : LogOutcome) (pass : Option Nat) (seq : Nat) (i : SlotNo)
    (m : LogId) : (stampedStore st v o pass seq i).records m = st.records m + if m = o.target then 1 else 0 := by
  unfold stampedStore
  rw [Store.records_setRecords]
  by_cases h : o.target = m
  · subst h
    simp
  · rw [if_neg h, if_neg (Ne.symm h)]
    simp [Store.splice]

/-- A stamped splice that has its turn: nothing of an empty list, else its head stamped and the list moved. -/
theorem stampedSplice_granted {s : State} {p : Requester} {v : VisitNo} {o : LogOutcome} {pass : Option Nat}
    (hg : s.grant = some (p, .stamped v o pass)) :
    ∃ t, exec .stampedSplice s = .next t ∧ FlagsFollow t ∧
      (((s.store.desc (.pend v)).head = none ∧ t.store = s.store ∧ t.logs.seqs = s.logs.seqs) ∨
        ∃ i, (s.store.desc (.pend v)).head = some i ∧ t.logs.seqs = s.logs.seqs + 1 ∧
          t.store = stampedStore s.store v o pass (s.logs.seqs + 1) i) := by
  obtain ⟨t, ht⟩ : ∃ t, exec .stampedSplice s = .next t := ⟨_, rfl⟩
  refine ⟨t, ht, ?_⟩
  rcases stampedSplice_cases ht with ⟨_, hno⟩ | ⟨_, _, _, _, hg', hs⟩
  · exact absurd hg (hno _ _ _ _)
  · cases hg.symm.trans hg'
    refine ⟨hs.follow (follow_follows _), ?_⟩
    rcases stamp_cases (s.granted p) v o pass with ⟨hh, he⟩ | ⟨i, hi, he⟩ <;> rw [he] at hs
    · exact .inl ⟨hh, hs.store, hs.seqs⟩
    · exact .inr ⟨i, hi, hs.seqs, hs.store⟩

/-! ### Head splices (R15) -/

/-- The first elements of a list together with a run after them. -/
theorem take_drop_span {α : Type} (p : α → Bool) (c : List α) (k : Nat) :
    c.take (min k c.length + ((c.drop k).takeWhile p).length) = c.take k ++ (c.drop k).takeWhile p ∧
      c.drop (min k c.length + ((c.drop k).takeWhile p).length) = (c.drop k).dropWhile p := by
  have hsplit : (c.take k ++ (c.drop k).takeWhile p) ++ (c.drop k).dropWhile p = c := by
    rw [List.append_assoc, List.takeWhile_append_dropWhile, List.take_append_drop]
  have hlen : (c.take k ++ (c.drop k).takeWhile p).length = min k c.length + ((c.drop k).takeWhile p).length := by simp
  have htake := List.take_left' hlen (l₂ := (c.drop k).dropWhile p)
  have hdrop := List.drop_left' hlen (l₂ := (c.drop k).dropWhile p)
  rw [hsplit] at htake hdrop
  exact ⟨htake, hdrop⟩

/-- A head splice that has its turn. -/
theorem headSplice_granted {s : State} {p : Requester} {m : LogId} {k : Nat}
    (hg : s.grant = some (p, .headSplice m k)) :
    ∃ t, exec .headSplice s = .next t ∧ FlagsFollow t ∧ t.store = (s.store.headSplice m k).1 := by
  obtain ⟨t, ht⟩ : ∃ t, exec .headSplice s = .next t := ⟨_, rfl⟩
  refine ⟨t, ht, ?_⟩
  rcases headSplice_cases ht with ⟨_, hno⟩ | ⟨_, _, _, hg', hs⟩
  · exact absurd hg (hno _ _ _)
  · cases hg.symm.trans hg'
    exact ⟨hs.follow (follow_follows _), hs.store⟩

/-- R15: no slots, no change. -/
theorem headSplice_zero (st : Store) (m : LogId) : (st.headSplice m 0).1 = st := by
  have hspan : st.headSpan m 0 = 0 := rfl
  have hmove : st.move m.list .free 0 = st := Store.move_nothing rfl
  unfold Store.headSplice
  simp only [hspan, hmove, List.take_zero]
  cases m <;> rfl

/-- R15: what a head splice moves to FREE, and what stays. -/
theorem headSplice_spec {st : Store} (w : st.Whole) (m : LogId) {k : Nat} (hk : 0 < k) :
    let c := st.chain m.list
    let isComp := fun i => (st.slot i).record.isLogComp
    let gone := c.take k ++ (c.drop k).takeWhile isComp
    let st' := (st.headSplice m k).1
    st'.chain m.list = (c.drop k).dropWhile isComp ∧ st'.chain .free = st.chain .free ++ gone ∧
      (∀ l, l ≠ m.list → l ≠ .free → st'.chain l = st.chain l) ∧
      (∀ n, st'.records n = st.records n - if n = m then gone.countP (fun i => (st.slot i).record.isHead) else 0) ∧
      ∀ i, (st'.slot i).alloc = (st.slot i).alloc ∧
        (st'.slot i).owner = (if i ∈ gone then .free else (st.slot i).owner) ∧
        (st'.slot i).record = if i ∈ gone then .none else (st.slot i).record := by
  intro c isComp gone st'
  obtain ⟨htake, hdrop⟩ : c.take (st.headSpan m k) = gone ∧ c.drop (st.headSpan m k) = (c.drop k).dropWhile isComp := by
    unfold Store.headSpan
    rw [if_neg (by omega)]
    exact take_drop_span isComp c k
  obtain ⟨wm, hsource, hfree, hrest⟩ := Store.whole_move w (st.headSpan m k) (target_ne_free m)
  have hst' : st' = (st.move m.list .free (st.headSpan m k)).setRecords m
      (st.records m - gone.countP fun i => (st.slot i).record.isHead) := by rw [← htake]; rfl
  obtain ⟨_, hch⟩ := Store.whole_setRecords wm m (st.records m - gone.countP fun i => (st.slot i).record.isHead)
  rw [← hst'] at hch
  refine ⟨(hch _).trans (hsource.trans hdrop), ?_, fun l hl hf => (hch l).trans (hrest l hl hf), fun n => ?_,
    fun i => ?_⟩
  · rw [← htake]
    exact (hch _).trans hfree
  · rw [hst', Store.records_setRecords]
    by_cases h : m = n
    · subst h
      simp
    · rw [if_neg h, if_neg (Ne.symm h), Store.records_move, Nat.sub_zero]
  · rw [hst', Store.slot_setRecords, ← htake]
    simpa using Store.slot_move st (st.headSpan m k) (target_ne_free m) i

/-- Settles O44. -/
theorem stampedAndHeadSplicesMoveRecords : Obligations.StampedAndHeadSplicesMoveRecords := by
  intro s w
  refine ⟨fun p v o pass hg => ?_, fun p m k hg => ?_⟩
  · obtain ⟨t, ht, hf, hc⟩ := stampedSplice_granted hg
    refine ⟨t, ht, hf, ?_⟩
    have hhead := (w (.pend v)).head
    rcases hc with ⟨hn, hs, hq⟩ | ⟨i, hi, hq, hs⟩
    · rw [hn] at hhead
      rw [List.head?_eq_none_iff.1 hhead]
      exact ⟨hs, hq⟩
    · rw [hi] at hhead
      obtain ⟨is, hch⟩ := List.head?_eq_some_iff.1 hhead
      obtain ⟨_, hpend, htarget, hrest⟩ := chain_stampedStore w v o pass (s.logs.seqs + 1) i
      have hrec := records_stampedStore s.store v o pass (s.logs.seqs + 1) i
      have hslot := fun j => (slot_stampedStore w v o pass (s.logs.seqs + 1) i j).2.2
      rw [hch] at htarget
      have stamped : ∀ h, (s.store.slot i).record = .logHead h → (t.store.slot i).record =
          .logHead { h with seq := some (s.logs.seqs + 1), outcome := some o, passMinute := pass } := by
        intro h hh
        rw [hs, hslot i, if_pos rfl, hh]
        rfl
      have others : ∀ j, j ≠ i → (t.store.slot j).record = (s.store.slot j).record := by
        intro j hj
        rw [hs, hslot j, if_neg hj]
      rw [← hs] at hpend htarget hrest hrec
      rw [hch]
      cases o <;> exact ⟨hq, hpend, htarget, hrest, hrec, stamped, others⟩
  · obtain ⟨t, ht, hf, hs⟩ := headSplice_granted hg
    refine ⟨t, ht, hf, ?_, fun hk => ?_⟩
    · rintro rfl
      rw [hs, headSplice_zero]
    · obtain ⟨hlog, hfree, hrest, hrec, hslot⟩ := headSplice_spec w m hk
      rw [hs]
      refine ⟨hlog, hfree, hrest, (hrec m).trans ?_, fun i => (hslot i).2.2⟩
      rw [if_pos rfl]

/-! ### Reads and writes (R11, R12) -/

theorem Store.found_iff {st : Store} {l : ListId} {r : SlotRef} :
    st.found l r = true ↔ (st.slot r.slot).owner = l ∧ (st.slot r.slot).alloc = r.alloc := by
  simp [Store.found]

/-- R12: a slot not found, or of a list that is not written, is left as it is. -/
theorem Store.write_none {st : Store} {n : Nat} {l : ListId} {r : SlotRef} {f : WriteFields}
    (h : l.writable = false ∨ st.found l r = false) : st.write n l r f = none := by
  unfold Store.write
  rcases h with h | h <;> rw [h] <;> simp

/-- R12: a slot found takes the fields that the write names. -/
theorem Store.write_found {st : Store} {n : Nat} {l : ListId} {r : SlotRef} {f : WriteFields} {x : Record}
    (hl : l.writable = true) (hf : st.found l r = true) (hx : applyFields n f (st.slot r.slot).record = some x) :
    st.write n l r f = some (st.setSlot r.slot { st.slot r.slot with record := x }) := by
  unfold Store.write
  rw [hl, hf, hx]
  rfl

/-- A write that has its turn. -/
theorem slotWrite_granted {s : State} {p : Requester} {l : ListId} {r : SlotRef} {f : WriteFields}
    (hg : s.grant = some (p, .write l r f)) :
    ∃ t, exec .slotWrite s = .next t ∧ t.store = (s.store.write s.now l r f).getD s.store := by
  obtain ⟨t, ht⟩ : ∃ t, exec .slotWrite s = .next t := ⟨_, rfl⟩
  refine ⟨t, ht, ?_⟩
  rcases slotWrite_cases ht with ⟨_, hno⟩ | ⟨_, _, _, _, hg', hc⟩
  · exact absurd hg (hno _ _ _ _)
  · cases hg.symm.trans hg'
    rcases hc with ⟨hw, hs⟩ | ⟨st, hw, hs⟩ <;> rw [hw]
    · exact hs.store
    · exact hs.store

/-- Settles O45. -/
theorem readsAndWritesFindTheirSlot : Obligations.ReadsAndWritesFindTheirSlot := by
  intro s found answer
  have hanswer : ∀ l r, answer l r = s.store.read l r := by
    intro l r
    cases r with
    | none => rfl
    | some r =>
      show (if _ then _ else _) = if _ then _ else _
      simp only [Store.found_iff]
      rfl
  refine ⟨fun p l r hg => ?_, fun p l r f hg => ?_⟩
  · have hexec : exec .slotRead s = if p = .check ∧ s.checkReadLost (answer l r) = true then .fault .neverTaken
        else done ((s.granted p).readBy p l (answer l r)) := by
      rw [hanswer]
      show execSlotRead s = _
      unfold execSlotRead
      rw [hg]
    split
    · next h => rw [hexec, if_pos h]
    · next h =>
      refine ⟨_, hexec.trans (if_neg h), ?_, rfl⟩
      exact ((Steady.refl (s.granted p)).readBy p l (answer l r)).store
  · obtain ⟨t, ht, hs⟩ := slotWrite_granted hg
    have written : ∀ x, (s.store.slot r.slot).owner = l ∧ (s.store.slot r.slot).alloc = r.alloc → l.writable = true →
        applyFields s.now f (s.store.slot r.slot).record = some x →
        t.store = { s.store with slots := tset s.store.slots r.slot { s.store.slot r.slot with record := x } } := by
      intro x here hl hx
      rw [hs, Store.write_found hl (Store.found_iff.2 here) hx]
      rfl
    refine ⟨t, ht, fun here => ?_, fun hl => ?_, fun base c here hl hf hc => written _ here hl ?_,
      fun net product fills figure overfull amended c here hl hf hc => written _ here hl ?_,
      fun minute h here hl hf hc => written _ here hl ?_⟩
    · rw [hs, Store.write_none (.inr (by rw [← Bool.not_eq_true, Store.found_iff]; exact here))]
      rfl
    · rw [hs, Store.write_none (.inl hl)]
      rfl
    all_goals
      rw [hf, hc]
      rfl

end Sys2Proof.Machine
end

section
/-! PROOFS. STORE_READ and VISIT_READ (O46). -/

namespace Sys2Proof.Machine

/-! ### Reply data -/

theorem bits_nil : bits [] = 0 := rfl

theorem bits_cons (b : Bool) (bs : List Bool) : bits (b :: bs) = b.toNat + 2 * bits bs := by cases b <;> rfl

/-- The kind and the number of a failing item, as numbers (R200). -/
def failItemNumbers : Option FailItem → Int × Int
  | none => (0, 0)
  | some (.compartment n) => (1, n)
  | some (.line n) => (2, n)
  | some .driver => (3, 0)
  | some .coDriver => (4, 0)

theorem failItemBytes_eq (f : Option FailItem) :
    failItemBytes f = wireBytes 1 (failItemNumbers f).1 ++ wireBytes 1 (failItemNumbers f).2 := by
  rcases f with _ | _ | _ | _ | _ <;> simp only [failItemBytes, failItemNumbers, put8_eq] <;> rfl

/-- R200: the compartment entry of 18 bytes. -/
theorem compBytes_laidOut (c : Compartment) :
    LaidOut (compBytes c) 18
      [(0, 1, c.number),
        (1, 1, (c.overfull.toNat + 2 * c.amended.toNat + 4 * c.product.isSome.toNat + 8 * c.figure.isSome.toNat +
          16 * c.lastFill.isSome.toNat : Nat)),
        (2, 2, c.capacity.getD 0), (4, 2, c.product.getD 0), (6, 2, c.net), (8, 2, c.base), (10, 2, c.figure.getD 0),
        (12, 2, c.fills), (14, 4, c.lastFill.getD 0)] := by
  have hbits : bits [c.overfull, c.amended, c.product.isSome, c.figure.isSome, c.lastFill.isSome] =
      c.overfull.toNat + 2 * c.amended.toNat + 4 * c.product.isSome.toNat + 8 * c.figure.isSome.toNat +
        16 * c.lastFill.isSome.toNat := by
    simp only [bits_cons, bits_nil]
    omega
  refine laidOut_of_fields [(1, c.number), (1, (bits [c.overfull, c.amended, c.product.isSome, c.figure.isSome,
    c.lastFill.isSome] : Nat)), (2, (c.capacity.getD 0 : Nat)), (2, (c.product.getD 0 : Nat)), (2, c.net), (2, c.base),
    (2, (c.figure.getD 0 : Nat)), (2, c.fills), (4, (c.lastFill.getD 0 : Nat))] ?_ rfl ?_
  · simp only [compBytes, put8_eq, put16_eq, put32_eq, List.flatMap_cons, List.flatMap_nil, List.append_assoc,
      List.append_nil]
  · rw [hbits]
    rfl

/-- The fields of the visit status reply in front of its compartment entries (R200). -/
def visitFields (v : VisitNo) (x : Visit) (cs : List Compartment) : List (Nat × Int) :=
  [(1, v.val), (2, x.tag.toNat), (1, x.state.value),
    (1, (bits [x.arrivalMark, x.heldOrigin, x.lapsed, x.declarationLow, x.recheckFail] : Nat)),
    (1, (bits [x.arrival.isSome, x.paper.isSome, (x.paper.bind Paper.q).isSome, x.lastCheck.isSome,
      x.clearance.isSome, x.passMinute.isSome] : Nat)),
    (4, ((x.arrival.map Arrival.tanker).getD 0 : Nat)), (4, ((x.arrival.map Arrival.driver).getD 0 : Nat)),
    (4, ((x.arrival.bind Arrival.coDriver).getD 0 : Nat)), (1, ((x.arrival.map Arrival.compCount).getD 0 : Nat)),
    (4, ((x.arrival.map Arrival.minute).getD 0 : Nat)), (1, ((x.bay.map bayNumber).getD 0 : Nat)),
    (1, x.paperState.value), (4, ((x.paper.map Paper.number).getD 0 : Nat)), (2, ((x.paper.map Paper.p).getD 0 : Nat)),
    (2, ((x.paper.bind Paper.q).getD 0 : Nat)), (1, ((x.paper.bind Paper.expected).getD 0 : Nat)), (1, x.accepted),
    (1, ((x.lastCheck.map CheckRecord.outcome).getD .none).value),
    (1, (reasonValue (x.lastCheck.bind CheckRecord.reason) : Nat)),
    (1, (failItemNumbers (x.lastCheck.bind CheckRecord.item)).1),
    (1, (failItemNumbers (x.lastCheck.bind CheckRecord.item)).2),
    (1, ((x.lastCheck.map CheckRecord.count).getD 0 : Nat)), (2, (x.lastCheck.map CheckRecord.margin).getD 0),
    (2, ((x.clearance.map Clearance.code).getD 0 : Nat)), (4, ((x.clearance.map Clearance.deadline).getD 0 : Nat)),
    (4, (x.passMinute.getD 0 : Nat)), (1, cs.length)]

theorem visitBytes_fields (v : VisitNo) (x : Visit) (cs : List Compartment) :
    visitBytes v x cs = ((visitFields v x cs).flatMap fun f => wireBytes f.1 f.2) ++ cs.flatMap compBytes := by
  simp only [visitBytes, visitHeadBytes, visitPaperBytes, visitCheckBytes, visitFields, failItemBytes_eq, put8_eq,
    put16_eq, put32_eq, putInt16_eq, List.flatMap_cons, List.flatMap_nil, List.append_assoc, List.append_nil]

theorem reasonValue_eq (r : Option Reason) : reasonValue r = (r.map Reason.value).getD 0 := by cases r <;> rfl

/-- R200: the 53 bytes in front of the compartment entries. -/
theorem visitBytes_laidOut (v : VisitNo) (x : Visit) (cs : List Compartment) :
    LaidOut ((visitFields v x cs).flatMap fun f => wireBytes f.1 f.2) 53
      [(0, 1, v.val), (1, 2, x.tag.toNat), (3, 1, x.state.value),
        (4, 1, (x.arrivalMark.toNat + 2 * x.heldOrigin.toNat + 4 * x.lapsed.toNat + 8 * x.declarationLow.toNat +
          16 * x.recheckFail.toNat : Nat)),
        (5, 1, (x.arrival.isSome.toNat + 2 * x.paper.isSome.toNat + 4 * (x.paper.bind Paper.q).isSome.toNat +
          8 * x.lastCheck.isSome.toNat + 16 * x.clearance.isSome.toNat + 32 * x.passMinute.isSome.toNat : Nat)),
        (6, 4, (x.arrival.map Arrival.tanker).getD 0), (10, 4, (x.arrival.map Arrival.driver).getD 0),
        (14, 4, (x.arrival.bind Arrival.coDriver).getD 0), (18, 1, (x.arrival.map Arrival.compCount).getD 0),
        (19, 4, (x.arrival.map Arrival.minute).getD 0), (23, 1, ((x.bay.map fun b => b.val + 1).getD 0 : Nat)),
        (24, 1, x.paperState.value), (25, 4, (x.paper.map Paper.number).getD 0),
        (29, 2, (x.paper.map Paper.p).getD 0), (31, 2, (x.paper.bind Paper.q).getD 0),
        (33, 1, (x.paper.bind Paper.expected).getD 0), (34, 1, x.accepted),
        (35, 1, ((x.lastCheck.map CheckRecord.outcome).getD .none).value),
        (36, 1, ((x.lastCheck.bind CheckRecord.reason).map Reason.value).getD 0),
        (37, 1, (failItemNumbers (x.lastCheck.bind CheckRecord.item)).1),
        (38, 1, (failItemNumbers (x.lastCheck.bind CheckRecord.item)).2),
        (39, 1, (x.lastCheck.map CheckRecord.count).getD 0),
        (40, 2, (x.lastCheck.map CheckRecord.margin).getD 0), (42, 2, (x.clearance.map Clearance.code).getD 0),
        (44, 4, (x.clearance.map Clearance.deadline).getD 0), (48, 4, x.passMinute.getD 0), (52, 1, cs.length)] := by
  have marks : bits [x.arrivalMark, x.heldOrigin, x.lapsed, x.declarationLow, x.recheckFail] =
      x.arrivalMark.toNat + 2 * x.heldOrigin.toNat + 4 * x.lapsed.toNat + 8 * x.declarationLow.toNat +
        16 * x.recheckFail.toNat := by
    simp only [bits_cons, bits_nil]
    omega
  have present : bits [x.arrival.isSome, x.paper.isSome, (x.paper.bind Paper.q).isSome, x.lastCheck.isSome,
      x.clearance.isSome, x.passMinute.isSome] =
      x.arrival.isSome.toNat + 2 * x.paper.isSome.toNat + 4 * (x.paper.bind Paper.q).isSome.toNat +
        8 * x.lastCheck.isSome.toNat + 16 * x.clearance.isSome.toNat + 32 * x.passMinute.isSome.toNat := by
    simp only [bits_cons, bits_nil]
    omega
  refine laidOut_of_fields (visitFields v x cs) rfl (by simp only [visitFields, List.map_cons, List.map_nil]; rfl) ?_
  rw [visitFields, marks, present, reasonValue_eq]
  rfl

/-! ### STORE_READ and VISIT_READ taken, and their grants (R22, R37) -/

theorem visit_begin (s : State) (h : Head) (i : Instr) (v : VisitNo) : (s.begin h i).visit v = s.visit v := by
  rw [State.begin_eq]
  rfl

theorem fin?_lt {n k : Nat} (h : k < n) : fin? n k = some ⟨k, h⟩ := dif_pos h

theorem fin?_ge {n k : Nat} (h : ¬ k < n) : fin? n k = none := dif_neg h

theorem storeRead_taken {h : Head} {visit : Option Nat} {s : State} (ht : Taken s h (.storeRead h visit)) :
    ∃ t, exec (.storeRead h visit) s = .next t ∧
      match visit with
      | none => Waits s t h (.storeRead h visit) .storeRead (.storeCounts none)
      | some n =>
          if hv : n < 48 then Waits s t h (.storeRead h visit) .storeRead (.storeCounts (some ⟨n, hv⟩))
          else Answered s t h (.storeRead h visit) .malformed [] := by
  obtain ⟨e, he⟩ := taken_executing ht
  refine ⟨_, congrArg Host.Outcome.next (State.takeItem_taken _ ht), ?_⟩
  cases visit with
  | none => exact State.waits_begin he _ _
  | some n =>
    unfold State.onStoreRead
    by_cases hv : n < 48
    · simp only [dif_pos hv, fin?_lt hv]
      exact State.waits_begin he _ _
    · simp only [dif_neg hv, fin?_ge hv]
      exact State.answered_begin he _ _

theorem visitRead_taken {h : Head} {v : VisitNo} {s : State} (ht : Taken s h (.visitRead h v.val true)) :
    ∃ t, exec (.visitRead h v.val true) s = .next t ∧
      if (s.visit v).state = .free then
        Answered s t h (.visitRead h v.val true) .done (visitBytes v (s.visit v) [])
      else
        Waits s t h (.visitRead h v.val true) (.visitRead v (s.visit v) []) (.read (.comp v) none) := by
  obtain ⟨e, he⟩ := taken_executing ht
  refine ⟨_, congrArg Host.Outcome.next (State.takeItem_taken _ ht), ?_⟩
  unfold State.onVisitRead
  simp only [fin?_lt v.isLt, visit_begin]
  by_cases hf : (s.visit v).state = .free
  · rw [if_pos hf, if_neg (by simp [hf])]
    exact State.answered_begin he _ _
  · rw [if_neg hf, if_pos (by simp [hf])]
    exact State.waits_begin he _ _

theorem linkRequester_link (l : LinkNo) : (linkRequester l).link = some l := by cases l <;> rfl

/-- The answer of a read of VISIT_READ's walk (R37). -/
theorem visitRead_read {l : LinkNo} {v : VisitNo} {x : Visit} {got : List Compartment} {a : ReadAnswer} {s : State}
    (hj : s.job l = some (.visitRead v x got)) :
    (a = .moved → Finished (s.granted (linkRequester l)) ((s.granted (linkRequester l)).readBy (linkRequester l)
        (.comp v) a) l .donePartial (visitBytes v x got)) ∧
      (a = .empty → Finished (s.granted (linkRequester l)) ((s.granted (linkRequester l)).readBy (linkRequester l)
        (.comp v) a) l .done (visitBytes v x got)) ∧
      ∀ ref c next, a = .slot ref (.compartment c) next →
        match next with
        | none => Finished (s.granted (linkRequester l)) ((s.granted (linkRequester l)).readBy (linkRequester l)
            (.comp v) a) l .done (visitBytes v x (got ++ [c]))
        | some n => Continues (s.granted (linkRequester l)) ((s.granted (linkRequester l)).readBy (linkRequester l)
            (.comp v) a) l (.visitRead v x (got ++ [c])) (.read (.comp v) (some n)) := by
  obtain ⟨e, k, he, hk, _⟩ := job_some hj
  have hjob : (s.granted (linkRequester l)).job l = some (.visitRead v x got) := hj
  have hread : (s.granted (linkRequester l)).readBy (linkRequester l) (.comp v) a =
      (s.granted (linkRequester l)).visitReadAnswered l v x got a := by
    unfold State.readBy
    rw [linkRequester_link]
    simp only [State.linkRead, hjob]
  have finished := State.finished_answer (r := s.granted (linkRequester l)) he hk
  rw [hread]
  refine ⟨?_, ?_, fun ref c next ha => ?_⟩
  · rintro rfl
    exact finished _ _
  · rintro rfl
    exact finished _ _
  · subst ha
    cases next with
    | none => exact finished _ _
    | some n => exact State.continues_ask (r := s.granted (linkRequester l)) he hk _ _

/-- Settles O46. -/
theorem storeAndVisitReads : Obligations.StoreAndVisitReads := by
  refine ⟨fun h visit s ht => ?_, fun l visit s hg hj => ?_, fun h v s ht => visitRead_taken ht,
    fun l v x got r s hg hj => ?_, fun v x cs => ?_, fun c => compBytes_laidOut c, by decide, by decide, by decide,
    by decide⟩
  · obtain ⟨t, hexec, hw⟩ := storeRead_taken ht
    refine ⟨t, hexec, ?_⟩
    cases visit <;> exact hw
  · obtain ⟨e, k, he, hk, _⟩ := job_some hj
    have hexec : exec .storeCountsGrant s = .next ((s.granted (linkRequester l)).answer l .done
        ((s.granted (linkRequester l)).storeBytes visit)) := by
      show done _ = _
      simp only [hg, linkRequester_link]
      rfl
    refine ⟨_, hexec, ?_⟩
    cases visit <;> exact State.finished_answer (r := s.granted (linkRequester l)) he hk _ _
  · have hexec : exec .slotRead s = .next ((s.granted (linkRequester l)).readBy (linkRequester l) (.comp v)
        (s.store.read (.comp v) r)) := by
      have hp : linkRequester l ≠ .check := by cases l <;> simp [linkRequester]
      show execSlotRead s = _
      unfold execSlotRead
      rw [hg]
      simp only [hp, false_and, if_false]
      rfl
    refine ⟨_, hexec, ?_⟩
    obtain ⟨hmoved, hempty, hslot⟩ := visitRead_read (a := s.store.read (.comp v) r) hj
    refine ⟨hmoved, hempty, fun ref c next ha => ?_⟩
    have h := hslot ref c next ha
    cases next <;> exact h
  · intro item marks present
    have hitem : item = failItemNumbers (x.lastCheck.bind CheckRecord.item) := by
      unfold failItemNumbers
      rfl
    rw [hitem]
    exact ⟨_, visitBytes_fields v x cs, visitBytes_laidOut v x cs⟩

end Sys2Proof.Machine
end

section
/-! PROOFS. What the logs and the PENDING lists hold, and how each operation of the store keeps it (R6, R14, R15, R163,
R164): the books of the store. -/

namespace Sys2Proof.Machine

/-! ### Lists that an operation leaves alone -/

/-- A list that an operation of the store leaves alone: its slots with their records and allocation counts. -/
structure Store.Untouched (st st' : Store) (l : ListId) : Prop where
  chain : st'.chain l = st.chain l
  slots : ∀ i ∈ st.chain l, (st'.slot i).record = (st.slot i).record ∧ (st'.slot i).alloc = (st.slot i).alloc

namespace Store

variable {st st' : Store} {l : ListId}

theorem Untouched.refl (st : Store) (l : ListId) : Untouched st st l := ⟨rfl, fun _ _ => ⟨rfl, rfl⟩⟩

theorem Untouched.recordsOn (h : Untouched st st' l) : st'.recordsOn l = st.recordsOn l := by
  unfold Store.recordsOn
  rw [h.chain]
  exact List.map_congr_left fun i hi => (h.slots i hi).1

theorem Untouched.refs (h : Untouched st st' l) : (st'.chain l).map st'.ref = (st.chain l).map st.ref := by
  rw [h.chain]
  exact List.map_congr_left fun i hi => by unfold Store.ref; rw [(h.slots i hi).2]

theorem mem_chain (w : st.Whole) {i : SlotNo} : i ∈ st.chain l ↔ (st.slot i).owner = l := (w l).owned i

theorem untouched_splice (w : st.Whole) {src : ListId} (hne : src ≠ .free) (h1 : l ≠ src) (h2 : l ≠ .free) :
    Untouched st (st.splice src .free) l := by
  refine ⟨(whole_splice w hne).2.2.2 l h1 h2, fun i hi => ?_⟩
  obtain ⟨ha, _, hr⟩ := slot_splice w hne i
  have ho : (st.slot i).owner ≠ src := fun e => h1 (((mem_chain w).1 hi).symm.trans e)
  exact ⟨by rw [hr, if_neg (fun h => ho h.2)], ha⟩

theorem recordsOn_splice (w : st.Whole) {src : ListId} (hne : src ≠ .free) : (st.splice src .free).recordsOn src = [] := by
  unfold Store.recordsOn
  rw [(whole_splice w hne).2.1]
  rfl

/-- A successful allocation, by what it does (R9). -/
theorem allocate_some (w : st.Whole) {tgt : ListId} (ht : tgt ≠ .free) {x : Record} {r : SlotRef}
    (ha : st.allocate tgt x = some (st', r)) :
    st'.Whole ∧ (st.slot r.slot).owner = .free ∧ r = st'.ref r.slot ∧ st'.chain tgt = st.chain tgt ++ [r.slot] ∧
      (∀ l, l ≠ .free → l ≠ tgt → st'.chain l = st.chain l) ∧ (st'.slot r.slot).record = x ∧
      ∀ j, j ≠ r.slot → (st'.slot j).record = (st.slot j).record ∧ (st'.slot j).alloc = (st.slot j).alloc := by
  rcases allocate_spec w ht x with ⟨_, hno⟩ | ⟨i, st'', hst, hw, hfree, htgt, hrest, hrec, hall, hothers⟩
  · rw [ha] at hno
    cases hno
  · cases ha.symm.trans hst
    refine ⟨hw, (mem_chain w).1 (by rw [hfree]; simp), ?_, htgt, hrest, hrec, hothers⟩
    unfold Store.ref
    rw [hall]

theorem untouched_allocate (w : st.Whole) {tgt : ListId} (ht : tgt ≠ .free) {x : Record} {r : SlotRef}
    (ha : st.allocate tgt x = some (st', r)) (h1 : l ≠ .free) (h2 : l ≠ tgt) : Untouched st st' l := by
  obtain ⟨_, hfree, _, _, hrest, _, hothers⟩ := allocate_some w ht ha
  exact ⟨hrest l h1 h2, fun i hi => hothers i fun e => h1 (((mem_chain w).1 hi).symm.trans (e ▸ hfree))⟩

/-- The list that an allocation extends (R9). -/
theorem chain_allocate (w : st.Whole) {tgt : ListId} (ht : tgt ≠ .free) {x : Record} {r : SlotRef}
    (ha : st.allocate tgt x = some (st', r)) :
    st'.recordsOn tgt = st.recordsOn tgt ++ [x] ∧
      (st'.chain tgt).map st'.ref = (st.chain tgt).map st.ref ++ [r] := by
  obtain ⟨_, hfree, href, htgt, _, hrec, hothers⟩ := allocate_some w ht ha
  have hne : ∀ i ∈ st.chain tgt, i ≠ r.slot := fun i hi e => ht (((mem_chain w).1 hi).symm.trans (e ▸ hfree))
  refine ⟨?_, ?_⟩
  · unfold Store.recordsOn
    rw [htgt, List.map_append, List.map_singleton, hrec]
    exact congrArg (· ++ [x]) (List.map_congr_left fun i hi => (hothers i (hne i hi)).1)
  · rw [htgt, List.map_append, List.map_singleton, ← href]
    exact congrArg (· ++ [r]) (List.map_congr_left fun i hi => by unfold Store.ref; rw [(hothers i (hne i hi)).2])

/-- A write that finds its slot (R12). -/
theorem write_some {n : Nat} {m : ListId} {r : SlotRef} {f : WriteFields} (hw : st.write n m r f = some st') :
    st.found m r = true ∧ m.writable = true ∧ ∃ x, applyFields n f (st.slot r.slot).record = some x ∧
      st' = st.setSlot r.slot { st.slot r.slot with record := x } := by
  unfold Store.write at hw
  split at hw
  · next h =>
    rw [Bool.and_eq_true] at h
    simp only [Option.map_eq_some_iff] at hw
    obtain ⟨x, hx, rfl⟩ := hw
    exact ⟨h.2, h.1, x, hx, rfl⟩
  · cases hw

theorem untouched_write (w : st.Whole) {n : Nat} {m : ListId} {r : SlotRef} {f : WriteFields}
    (hw : st.write n m r f = some st') (h : l ≠ m) : Untouched st st' l := by
  refine ⟨(whole_write w hw).2 l, fun i hi => ?_⟩
  obtain ⟨hf, _, x, _, rfl⟩ := write_some hw
  have hne : r.slot ≠ i := fun e => h (((mem_chain w).1 hi).symm.trans (e ▸ (found_iff.1 hf).1))
  rw [slot_setSlot_ne _ _ hne]
  exact ⟨rfl, rfl⟩

theorem untouched_stampedStore (w : st.Whole) {v : VisitNo} {o : LogOutcome} {pass : Option Nat} {seq : Nat}
    {i : SlotNo} (hi : (st.slot i).owner = .pend v) (h1 : l ≠ .pend v) (h2 : l ≠ o.target.list) :
    Untouched st (stampedStore st v o pass seq i) l := by
  refine ⟨(chain_stampedStore w v o pass seq i).2.2.2 l h1 h2, fun j hj => ?_⟩
  obtain ⟨ha, _, hr⟩ := slot_stampedStore w v o pass seq i j
  have hne : j ≠ i := fun e => h1 (((mem_chain w).1 hj).symm.trans (e ▸ hi))
  exact ⟨by rw [hr, if_neg hne], ha⟩

theorem untouched_headSplice (w : st.Whole) (m : LogId) (k : Nat) (h1 : l ≠ m.list) (h2 : l ≠ .free) :
    Untouched st (st.headSplice m k).1 l := by
  rcases Nat.eq_zero_or_pos k with rfl | hk
  · rw [headSplice_zero]
    exact .refl _ _
  · obtain ⟨_, _, hrest, _, hslot⟩ := headSplice_spec w m hk
    refine ⟨hrest l h1 h2, fun i hi => ?_⟩
    obtain ⟨ha, _, hr⟩ := hslot i
    have hgone : i ∉ (st.chain m.list).take k ++ ((st.chain m.list).drop k).takeWhile
        fun i => (st.slot i).record.isLogComp := by
      intro hg
      have hm : i ∈ st.chain m.list := by
        rcases List.mem_append.1 hg with hg | hg
        · exact List.mem_of_mem_take hg
        · exact List.mem_of_mem_drop (List.takeWhile_subset _ hg)
      exact h1 (((mem_chain w).1 hi).symm.trans ((mem_chain w).1 hm))
    exact ⟨by rw [hr, if_neg hgone], ha⟩

/-! ### The heads on the PENDING lists (R164) -/

/-- The LOG_HEAD slots on the PENDING lists. -/
def waitingHeads (st : Store) : Finset SlotNo :=
  Finset.univ.filter fun i => (st.slot i).record.isHead = true ∧ (st.slot i).owner.isPend = true

theorem mem_waitingHeads {i : SlotNo} :
    i ∈ st.waitingHeads ↔ (st.slot i).record.isHead = true ∧ (st.slot i).owner.isPend = true := by
  simp [waitingHeads]

theorem outstanding_eq_card (st : Store) : st.outstanding = st.waitingHeads.card := by
  have hlist : st.slots.toList = (List.finRange 1024).map st.slot := by
    apply List.ext_getElem
    · simp
    · intro n h1 h2
      simp [Store.slot, tget]
  have hfin : st.waitingHeads = ((List.finRange 1024).filter fun i =>
      (st.slot i).record.isHead && (st.slot i).owner.isPend).toFinset := by
    ext i
    simp [waitingHeads]
  unfold Store.outstanding
  rw [hlist, List.countP_map, List.countP_eq_length_filter, hfin,
    List.toFinset_card_of_nodup ((List.nodup_finRange 1024).filter _)]
  rfl

end Store

/-! ### The books -/

/-- What the logs and the PENDING lists keep at every step: whole lists of the right kinds, no stamp on a PENDING list,
sound logs, no number drawn twice, and a number left for every head that waits (R6, R7, R163, R164). -/
structure Books (s : State) : Prop where
  whole     : s.store.Whole
  kinds     : s.store.Kinds
  unstamped : ∀ i h, (s.store.slot i).record = .logHead h → (s.store.slot i).owner.isPend = true → h.seq = none
  logs      : ∀ m, LogSound s m
  once      : ∀ i j h k, (s.store.slot i).record = .logHead h → (s.store.slot j).record = .logHead k →
    h.seq = k.seq → h.seq ≠ none → i = j
  left      : s.logs.seqs + s.store.outstanding ≤ 4294967295

theorem LogRecord.head_of_mem {r : LogRecord} {h : LogHead} (hm : Record.logHead h ∈ r.slots) : h = r.head := by
  simpa [LogRecord.slots] using hm

theorem LogSound.congr {s t : State} {m : LogId} (h : LogSound s m) (hs : t.store.recordsOn m.list = s.store.recordsOn m.list)
    (hr : t.store.records m = s.store.records m) (hn : s.logs.seqs ≤ t.logs.seqs) : LogSound t m := by
  obtain ⟨rs, hrs, hlen, hall, hpair⟩ := h
  refine ⟨rs, hs.trans hrs, hlen.trans hr.symm, fun r hr => ?_, hpair⟩
  obtain ⟨hmark, hcount, hout, n, hn1, hn2, hn3⟩ := hall r hr
  exact ⟨hmark, hcount, hout, n, hn1, hn2, by omega⟩

/-- Where a head stands (R6). -/
theorem holds_logHead {l : ListId} {h : LogHead} (hl : l.holds (.logHead h)) :
    (∃ m : LogId, l = m.list) ∨ l.isPend = true := by
  cases l
  case log => exact .inl ⟨.log, rfl⟩
  case exception => exact .inl ⟨.exception, rfl⟩
  case pend v => exact .inr rfl
  all_goals exact hl.elim

theorem target_not_pend (m : LogId) : m.list.isPend = false := by cases m <;> rfl

theorem logList_inj {m n : LogId} (h : m.list = n.list) : m = n := by
  cases m <;> cases n <;> simp_all [LogId.list]

namespace Books

variable {s t : State}

theorem congr (b : Books s) (hs : t.store = s.store) (hn : t.logs.seqs = s.logs.seqs) : Books t := by
  refine ⟨by rw [hs]; exact b.whole, by rw [hs]; exact b.kinds, by rw [hs]; exact b.unstamped,
    fun m => (b.logs m).congr (by rw [hs]) (by rw [hs]) (by rw [hn]), by rw [hs]; exact b.once, by rw [hs, hn]; exact b.left⟩

/-- No head carries a number that has not been drawn (R163). -/
theorem drawn (b : Books s) {i : SlotNo} {h : LogHead} {n : Nat} (hr : (s.store.slot i).record = .logHead h)
    (hn : h.seq = some n) : n ≤ s.logs.seqs := by
  have hk := b.kinds i
  rw [hr] at hk
  rcases holds_logHead hk with ⟨m, ho⟩ | hp
  · obtain ⟨rs, hrs, _, hall, _⟩ := b.logs m
    have hm : Record.logHead h ∈ s.store.recordsOn m.list :=
      List.mem_map.2 ⟨i, (Store.mem_chain b.whole).2 ho, hr⟩
    rw [hrs] at hm
    obtain ⟨r, hr', hm⟩ := List.mem_flatMap.1 hm
    obtain ⟨_, _, _, k, hk, _, hle⟩ := hall r hr'
    rw [LogRecord.head_of_mem hm, hk] at hn
    cases hn
    exact hle
  · rw [b.unstamped i h hr hp] at hn
    cases hn

/-- An operation that stamps nothing: each head is one that stood there before, or unstamped. -/
theorem of_unstamped (b : Books s) (hw : t.store.Whole) (hk : t.store.Kinds)
    (heads : ∀ i h, (t.store.slot i).record = .logHead h →
      h.seq = none ∨ ∃ k, (s.store.slot i).record = .logHead k ∧ k.seq = h.seq ∧
        ((t.store.slot i).owner.isPend = true → (s.store.slot i).owner.isPend = true))
    (logs : ∀ m, LogSound t m) (left : t.logs.seqs + t.store.outstanding ≤ 4294967295) : Books t := by
  refine ⟨hw, hk, fun i h hr hp => ?_, logs, fun i j h k hi hj hs hno => ?_, left⟩
  · rcases heads i h hr with h0 | ⟨k, hk, hs, hpend⟩
    · exact h0
    · exact hs ▸ b.unstamped i k hk (hpend hp)
  · rcases heads i h hi with h0 | ⟨h', hi', hs', _⟩
    · exact absurd h0 hno
    · rcases heads j k hj with h0 | ⟨k', hj', ks', _⟩
      · exact absurd (hs.trans h0) hno
      · exact b.once i j h' k' hi' hj' (by rw [hs', ks', hs]) (by rwa [hs'])

/-- Fewer heads wait. -/
theorem left_of_subset (b : Books s) (hn : t.logs.seqs = s.logs.seqs)
    (h : t.store.waitingHeads ⊆ s.store.waitingHeads) : t.logs.seqs + t.store.outstanding ≤ 4294967295 := by
  have hl := b.left
  rw [Store.outstanding_eq_card] at hl ⊢
  have := Finset.card_le_card h
  omega

/-! #### Returns (R13) -/

theorem returned (b : Books s) {l : ListId} (hf : l ≠ .free) (hl : ∀ m : LogId, l ≠ m.list) :
    Books (s.setStore (s.store.splice l .free)) := by
  have hslot := fun i => slot_splice b.whole hf i
  have old : ∀ i h, ((s.store.splice l .free).slot i).record = .logHead h → (s.store.slot i).record = .logHead h ∧
      ((s.store.splice l .free).slot i).owner = (s.store.slot i).owner := by
    intro i h hr
    by_cases ho : (s.store.slot i).owner = l
    · rw [(hslot i).2.2, if_pos ⟨rfl, ho⟩] at hr
      cases hr
    · rw [(hslot i).2.2, if_neg (fun e => ho e.2)] at hr
      exact ⟨hr, by rw [(hslot i).2.1, if_neg ho]⟩
  refine b.of_unstamped (Store.whole_splice b.whole hf).1 (Store.Kinds.splice b.kinds b.whole l)
    (fun i h hr => .inr ⟨h, (old i h hr).1, rfl, fun hp => (old i h hr).2 ▸ hp⟩) (fun m => ?_)
    (b.left_of_subset rfl fun i hi => ?_)
  · exact (b.logs m).congr (Store.untouched_splice b.whole hf (Ne.symm (hl m)) (target_ne_free m)).recordsOn
      (Store.records_move _ _ _ _ _) (Nat.le_refl _)
  · obtain ⟨hh, hp⟩ := Store.mem_waitingHeads.1 hi
    cases hrec : ((s.store.splice l .free).slot i).record with
    | logHead h =>
      obtain ⟨hr, ho⟩ := old i h hrec
      exact Store.mem_waitingHeads.2 ⟨by rw [hr]; rfl, ho ▸ hp⟩
    | _ =>
      rw [State.setStore_store, hrec] at hh
      cases hh

/-! #### Allocations (R9, R10) -/

theorem allocated (b : Books s) {tgt : ListId} {x : Record} {st : Store} {r : SlotRef}
    (ha : s.store.allocate tgt x = some (st, r)) (hf : tgt ≠ .free) (hl : ∀ m : LogId, tgt ≠ m.list)
    (hx : tgt.holds x) (hseq : ∀ h, x = .logHead h → h.seq = none)
    (room : x.isHead = true → tgt.isPend = true → s.logs.seqs + s.store.outstanding < 4294967295) :
    Books (s.setStore st) := by
  obtain ⟨hw, hfree, _, htgt, hrest, hrec, hothers⟩ := Store.allocate_some b.whole hf ha
  have howner : ∀ j, j ≠ r.slot → (st.slot j).owner.isPend = true → (s.store.slot j).owner = (st.slot j).owner := by
    intro j hj hp
    have hm : j ∈ st.chain (st.slot j).owner := (Store.mem_chain hw).2 rfl
    by_cases ht : (st.slot j).owner = tgt
    · rw [ht, htgt] at hm
      rw [ht]
      exact (Store.mem_chain b.whole).1 ((List.mem_append.1 hm).resolve_right (by simpa using hj))
    · rw [hrest _ (fun e => by rw [e] at hp; cases hp) ht] at hm
      exact (Store.mem_chain b.whole).1 hm
  have hst : (st.slot r.slot).owner = tgt := (Store.mem_chain hw).1 (by rw [htgt]; simp)
  refine b.of_unstamped hw (Store.Kinds.allocate b.kinds b.whole hx hf ha) (fun i h hr => ?_) (fun m => ?_) ?_
  · by_cases hi : i = r.slot
    · subst hi
      exact .inl (hseq h (hrec.symm.trans hr))
    · exact .inr ⟨h, (hothers i hi).1 ▸ hr, rfl, fun hp => by rw [howner i hi hp]; exact hp⟩
  · have same : st.records m = s.store.records m := by
      unfold Store.allocate at ha
      split at ha
      · cases ha
      · cases ha
        simp
    exact (b.logs m).congr (Store.untouched_allocate b.whole hf ha (target_ne_free m) (Ne.symm (hl m))).recordsOn
      same (Nat.le_refl _)
  · have others : ∀ i ∈ st.waitingHeads, i ≠ r.slot → i ∈ s.store.waitingHeads := by
      intro i hi hne
      obtain ⟨hh, hp⟩ := Store.mem_waitingHeads.1 hi
      exact Store.mem_waitingHeads.2 ⟨(hothers i hne).1 ▸ hh, by rw [howner i hne hp]; exact hp⟩
    by_cases hnew : x.isHead = true ∧ tgt.isPend = true
    · have hroom := room hnew.1 hnew.2
      have hsub : st.waitingHeads ⊆ insert r.slot s.store.waitingHeads := fun i hi => by
        by_cases hi' : i = r.slot
        · subst hi'
          exact Finset.mem_insert_self _ _
        · exact Finset.mem_insert_of_mem (others i hi hi')
      have hcard := (Finset.card_le_card hsub).trans (Finset.card_insert_le _ _)
      show s.logs.seqs + st.outstanding ≤ _
      rw [Store.outstanding_eq_card] at hroom ⊢
      omega
    · refine b.left_of_subset rfl fun i hi => others i hi fun e => hnew ?_
      subst e
      obtain ⟨hh, hp⟩ := Store.mem_waitingHeads.1 hi
      exact ⟨hrec ▸ hh, hst ▸ hp⟩

/-! #### Writes (R12) -/

theorem applyFields_head {n : Nat} {f : WriteFields} {x y : Record} (h : applyFields n f x = some y) :
    x.isHead = y.isHead ∧ ∀ k, y = .logHead k → ∃ k', x = .logHead k' ∧ k'.seq = k.seq := by
  unfold applyFields at h
  split at h <;> cases h
  · exact ⟨rfl, fun k hk => by cases hk⟩
  · exact ⟨rfl, fun k hk => by cases hk⟩
  · exact ⟨rfl, fun k hk => by cases hk; exact ⟨_, rfl, rfl⟩⟩

theorem written (b : Books s) {n : Nat} {l : ListId} {r : SlotRef} {f : WriteFields} {st : Store}
    (hw : s.store.write n l r f = some st) : Books (s.setStore st) := by
  have hkinds := Store.Kinds.write b.kinds hw
  have hwhole := (Store.whole_write b.whole hw).1
  have huntouched := fun (m : LogId) (h : m.list ≠ l) => Store.untouched_write b.whole hw h
  obtain ⟨hf, hwr, x, hx, rfl⟩ := Store.write_some hw
  obtain ⟨hhead, hseq⟩ := applyFields_head hx
  have hlog : ∀ m : LogId, m.list ≠ l := fun m e => by
    subst e
    cases m <;> cases hwr
  have howner : ∀ i, ((s.store.setSlot r.slot { s.store.slot r.slot with record := x }).slot i).owner =
      (s.store.slot i).owner := by
    intro i
    by_cases e : r.slot = i
    · subst e
      simp
    · rw [Store.slot_setSlot_ne _ _ e]
  refine b.of_unstamped hwhole hkinds (fun i h hr => .inr ?_) (fun m => ?_) (b.left_of_subset rfl fun i hi => ?_)
  · rw [State.setStore_store, howner i]
    by_cases e : r.slot = i
    · subst e
      rw [State.setStore_store, Store.slot_setSlot_self] at hr
      obtain ⟨k, hk, hks⟩ := hseq h hr
      exact ⟨k, hk, hks, id⟩
    · rw [State.setStore_store, Store.slot_setSlot_ne _ _ e] at hr
      exact ⟨h, hr, rfl, id⟩
  · exact (b.logs m).congr (huntouched m (hlog m)).recordsOn (Store.records_setSlot _ _ _ _) (Nat.le_refl _)
  · obtain ⟨hh, hp⟩ := Store.mem_waitingHeads.1 hi
    rw [State.setStore_store, howner i] at hp
    refine Store.mem_waitingHeads.2 ⟨?_, hp⟩
    by_cases e : r.slot = i
    · subst e
      rw [State.setStore_store, Store.slot_setSlot_self] at hh
      exact hhead.trans hh
    · rwa [State.setStore_store, Store.slot_setSlot_ne _ _ e] at hh

/-! #### Stamped splices (R14) -/

/-- A record that awaits its stamp: its slots on the PENDING list. -/
theorem awaits_chain {st : Store} {l : ListId} (h : AwaitsStamp (st.recordsOn l)) :
    ∃ i is, ∃ r : LogRecord, st.chain l = i :: is ∧ (st.slot i).record = .logHead r.head ∧
      is.map (fun j => (st.slot j).record) = r.comps.map .logComp ∧ r.head.seq = none ∧ r.head.mark = .complete ∧
      r.head.compCount = r.comps.length := by
  obtain ⟨r, hr, hseq, _, hmark, hcount⟩ := h
  unfold Store.recordsOn LogRecord.slots at hr
  obtain ⟨i, is, hch, hi, his⟩ := List.map_eq_cons_iff.1 hr
  exact ⟨i, is, r, hch, hi, his, hseq, hmark, hcount⟩

/-- R14, R163: the record joins its log with the next number. -/
theorem logSound_stamped (b : Books s) {v : VisitNo} {o : LogOutcome} {pass : Option Nat} {i : SlotNo} {is : List SlotNo}
    {r : LogRecord} (hch : s.store.chain (.pend v) = i :: is) (hi : (s.store.slot i).record = .logHead r.head)
    (his : is.map (fun j => (s.store.slot j).record) = r.comps.map .logComp) (hmark : r.head.mark = .complete)
    (hcount : r.head.compCount = r.comps.length)
    (ht : t.store = stampedStore s.store v o pass (s.logs.seqs + 1) i) (hn : t.logs.seqs = s.logs.seqs + 1) :
    LogSound t o.target := by
  obtain ⟨rs, hrs, hlen, hall, hpair⟩ := b.logs o.target
  have hslot := fun j => (slot_stampedStore b.whole v o pass (s.logs.seqs + 1) i j).2.2
  have hmem : i ∈ s.store.chain (.pend v) := by rw [hch]; simp
  have hlog : ∀ j ∈ s.store.chain o.target.list, j ≠ i := fun j hj e => pend_ne_target v o
    (((Store.mem_chain b.whole).1 hmem).symm.trans (e ▸ (Store.mem_chain b.whole).1 hj))
  have hnodup : i ∉ is := by
    have := (b.whole (.pend v)).once
    rw [hch] at this
    exact (List.nodup_cons.1 this).1
  let stamped : LogRecord :=
    { r with head := { r.head with seq := some (s.logs.seqs + 1), outcome := some o, passMinute := pass } }
  have hrecords : t.store.recordsOn o.target.list = s.store.recordsOn o.target.list ++ stamped.slots := by
    unfold Store.recordsOn
    rw [ht, (chain_stampedStore b.whole v o pass (s.logs.seqs + 1) i).2.2.1, hch, List.map_append, List.map_cons,
      hslot i, if_pos rfl, hi]
    refine congrArg₂ (· ++ ·) (List.map_congr_left fun j hj => by rw [hslot j, if_neg (hlog j hj)]) ?_
    show _ = Record.logHead stamped.head :: r.comps.map .logComp
    rw [← his]
    refine congrArg (Record.logHead stamped.head :: ·) (List.map_congr_left fun j hj => ?_)
    rw [hslot j, if_neg (fun e : j = i => hnodup (e ▸ hj))]
  refine ⟨rs ++ [stamped], ?_, ?_, fun r' hr' => ?_, ?_⟩
  · rw [hrecords, hrs, List.flatMap_append, List.flatMap_singleton]
  · rw [ht, records_stampedStore, if_pos rfl, ← hlen, List.length_append]
    rfl
  · rcases List.mem_append.1 hr' with hr' | hr'
    · obtain ⟨h1, h2, h3, n, h4, h5, h6⟩ := hall r' hr'
      exact ⟨h1, h2, h3, n, h4, h5, by omega⟩
    · obtain rfl := List.mem_singleton.1 hr'
      exact ⟨hmark, hcount, rfl, s.logs.seqs + 1, rfl, by omega, by omega⟩
  · refine List.pairwise_append.2 ⟨hpair, List.pairwise_singleton _ _, fun a ha c hc => ?_⟩
    obtain rfl := List.mem_singleton.1 hc
    obtain ⟨_, _, _, n, h4, _, h6⟩ := hall a ha
    rw [h4]
    show n < s.logs.seqs + 1
    omega

theorem stamped (b : Books s) {v : VisitNo} {o : LogOutcome} {pass : Option Nat} {i : SlotNo}
    (ha : AwaitsStamp (s.store.recordsOn (.pend v))) (hhead : (s.store.desc (.pend v)).head = some i)
    (ht : t.store = stampedStore s.store v o pass (s.logs.seqs + 1) i) (hn : t.logs.seqs = s.logs.seqs + 1) :
    Books t := by
  obtain ⟨j, is, r, hch, hi, his, _, hmark, hcount⟩ := awaits_chain ha
  obtain rfl : j = i := by
    have := (b.whole (.pend v)).head
    rw [hch, hhead] at this
    exact Option.some.inj this
  have hmem : (s.store.slot j).owner = .pend v := (Store.mem_chain b.whole).1 (by rw [hch]; simp)
  have hslot := slot_stampedStore b.whole v o pass (s.logs.seqs + 1) j
  have hw := (chain_stampedStore b.whole v o pass (s.logs.seqs + 1) j).1
  have hself : (t.store.slot j).record = .logHead
      { r.head with seq := some (s.logs.seqs + 1), outcome := some o, passMinute := pass } := by
    rw [ht, (hslot j).2.2, if_pos rfl, hi]
    rfl
  have old : ∀ k h, k ≠ j → (t.store.slot k).record = .logHead h → (s.store.slot k).record = .logHead h := by
    intro k h hk hr
    rwa [ht, (hslot k).2.2, if_neg hk] at hr
  have howner : ∀ k, (t.store.slot k).owner.isPend = true →
      (s.store.slot k).owner ≠ .pend v ∧ (s.store.slot k).owner = (t.store.slot k).owner := by
    intro k hp
    rw [ht, (hslot k).2.1] at hp ⊢
    by_cases e : (s.store.slot k).owner = .pend v
    · rw [if_pos e, target_not_pend] at hp
      cases hp
    · rw [if_neg e]
      exact ⟨e, rfl⟩
  have hkinds : t.store.Kinds := by
    intro k
    rw [ht, (hslot k).2.1, (hslot k).2.2]
    have hk := b.kinds k
    by_cases e : (s.store.slot k).owner = .pend v
    · rw [e] at hk
      rw [if_pos e]
      split
      · next hkj => subst hkj; cases o <;> exact stampRecord_holds hk
      · cases o <;> exact hk
    · rw [if_neg e, if_neg (fun hkj : k = j => e (hkj ▸ hmem))]
      exact hk
  have later : ∀ k h, k ≠ j → (t.store.slot k).record = .logHead h → h.seq ≠ some (s.logs.seqs + 1) := by
    intro k h hk hr hs
    have := b.drawn (old k h hk hr) hs
    omega
  refine ⟨ht ▸ hw, hkinds, fun k h hr hp => ?_, fun m => ?_, fun k l h g hk hl hs hno => ?_, ?_⟩
  · obtain ⟨hne, ho⟩ := howner k hp
    exact b.unstamped k h (old k h (fun e => hne (e ▸ hmem)) hr) (ho ▸ hp)
  · by_cases hm : m = o.target
    · subst hm
      exact b.logSound_stamped hch hi his hmark hcount ht hn
    · refine (b.logs m).congr ?_ ?_ (by omega)
      · rw [ht]
        refine (Store.untouched_stampedStore b.whole hmem ?_ fun e => hm (logList_inj e)).recordsOn
        cases m <;> simp [LogId.list]
      · rw [ht, records_stampedStore, if_neg hm, Nat.add_zero]
  · by_cases ek : k = j
    · subst ek
      cases hk.symm.trans hself
      by_contra hkl
      exact later l g (Ne.symm hkl) hl hs.symm
    · by_cases el : l = j
      · subst el
        cases hl.symm.trans hself
        exact absurd hs (later k h ek hk)
      · exact b.once k l h g (old k h ek hk) (old l g el hl) hs hno
  · have hsub : t.store.waitingHeads ⊆ s.store.waitingHeads.erase j := fun k hk => by
      obtain ⟨hh, hp⟩ := Store.mem_waitingHeads.1 hk
      obtain ⟨hne, ho⟩ := howner k hp
      have hkj : k ≠ j := fun e => hne (e ▸ hmem)
      rw [ht, (hslot k).2.2, if_neg hkj] at hh
      exact Finset.mem_erase.2 ⟨hkj, Store.mem_waitingHeads.2 ⟨hh, ho ▸ hp⟩⟩
    have hj : j ∈ s.store.waitingHeads := Store.mem_waitingHeads.2 ⟨by rw [hi]; rfl, by rw [hmem]; rfl⟩
    have hcard := Finset.card_le_card hsub
    rw [Finset.card_erase_of_mem hj] at hcard
    have hpos := Finset.card_pos.2 ⟨j, hj⟩
    have hleft := b.left
    rw [Store.outstanding_eq_card] at hleft ⊢
    omega

/-! #### Head splices (R15) -/

/-- R15 on whole records: the first slots and the compartments left at the head are whole records, counted by their
heads. -/
theorem span_records (rs : List LogRecord) (k : Nat) :
    ∃ j ≤ rs.length,
      ((rs.flatMap LogRecord.slots).drop k).dropWhile Record.isLogComp = (rs.drop j).flatMap LogRecord.slots ∧
      ((rs.flatMap LogRecord.slots).take k ++
        ((rs.flatMap LogRecord.slots).drop k).takeWhile Record.isLogComp).countP Record.isHead = j := by
  induction rs generalizing k with
  | nil => exact ⟨0, Nat.le_refl _, by simp, by simp⟩
  | cons r rs ih =>
    cases k with
    | zero => exact ⟨0, Nat.zero_le _, by simp [LogRecord.slots, Record.isLogComp], by
        simp [LogRecord.slots, Record.isLogComp]⟩
    | succ k =>
      obtain ⟨j, hj, hdrop, hcount⟩ := ih (k - r.comps.length)
      have hcomps : ∀ x ∈ (r.comps.map Record.logComp).drop k, Record.isLogComp x = true := by
        intro x hx
        obtain ⟨c, _, rfl⟩ := List.mem_map.1 (List.mem_of_mem_drop hx)
        rfl
      have hnone : ∀ xs : List Record, xs ⊆ r.comps.map Record.logComp → xs.countP Record.isHead = 0 := by
        intro xs hxs
        rw [List.countP_eq_zero]
        intro x hx
        obtain ⟨c, _, rfl⟩ := List.mem_map.1 (hxs hx)
        simp [Record.isHead]
      refine ⟨j + 1, by simpa using hj, ?_, ?_⟩
      · simp only [List.flatMap_cons, LogRecord.slots, List.cons_append, List.drop_succ_cons, List.drop_append,
          List.length_map]
        rw [List.dropWhile_append_of_pos hcomps]
        exact hdrop
      · simp only [List.flatMap_cons, LogRecord.slots, List.cons_append, List.drop_succ_cons, List.drop_append,
          List.length_map, List.take_succ_cons, List.take_append]
        rw [List.takeWhile_append_of_pos hcomps]
        rw [List.countP_append] at hcount
        simp only [List.countP_cons, List.countP_append, hnone _ (List.take_subset _ _), hnone _ (List.drop_subset _ _),
          Record.isHead, if_true]
        omega

theorem headSpliced (b : Books s) (m : LogId) (k : Nat) : Books (s.setStore (s.store.headSplice m k).1) := by
  rcases Nat.eq_zero_or_pos k with rfl | hk
  · rw [headSplice_zero]
    exact b.congr rfl rfl
  obtain ⟨hlog, _, hrest, hrec, hslot⟩ := headSplice_spec b.whole m hk
  have old : ∀ i h, ((s.store.headSplice m k).1.slot i).record = .logHead h →
      (s.store.slot i).record = .logHead h ∧ ((s.store.headSplice m k).1.slot i).owner = (s.store.slot i).owner := by
    intro i h hr
    obtain ⟨_, ho, hr'⟩ := hslot i
    rw [hr'] at hr
    split at hr
    · cases hr
    · next hg => exact ⟨hr, by rw [ho, if_neg hg]⟩
  refine b.of_unstamped (Store.whole_headSplice b.whole m k) (Store.Kinds.headSplice b.kinds b.whole m k)
    (fun i h hr => .inr ⟨h, (old i h hr).1, rfl, fun hp => (old i h hr).2 ▸ hp⟩) (fun n => ?_)
    (b.left_of_subset rfl fun i hi => ?_)
  · by_cases hn : n = m
    · subst hn
      obtain ⟨rs, hrs, hlen, hall, hpair⟩ := b.logs n
      obtain ⟨j, hj, hdrop, hcount⟩ := span_records rs k
      rw [← hrs] at hdrop hcount
      unfold Store.recordsOn at hdrop hcount
      have hsplit := List.nodup_append.1 (show ((s.store.chain n.list).take k ++
          ((s.store.chain n.list).drop k).takeWhile (fun i => (s.store.slot i).record.isLogComp) ++
          ((s.store.chain n.list).drop k).dropWhile (fun i => (s.store.slot i).record.isLogComp)).Nodup by
        rw [List.append_assoc, List.takeWhile_append_dropWhile, List.take_append_drop]
        exact (b.whole n.list).once)
      refine ⟨rs.drop j, ?_, ?_, fun r hr => hall r (List.mem_of_mem_drop hr), hpair.sublist (List.drop_sublist _ _)⟩
      · show (s.store.headSplice n k).1.recordsOn n.list = _
        unfold Store.recordsOn
        rw [hlog, ← hdrop, ← List.map_drop, List.dropWhile_map]
        refine List.map_congr_left fun i hi => ?_
        rw [(hslot i).2.2, if_neg (fun hg => hsplit.2.2 i hg i hi rfl)]
      · rw [List.length_drop, hlen]
        show _ = (s.store.headSplice n k).1.records n
        rw [hrec, if_pos rfl, ← hcount, ← List.map_drop, ← List.map_take, List.takeWhile_map, ← List.map_append,
          List.countP_map]
        rfl
    · refine (b.logs n).congr (Store.untouched_headSplice b.whole m k (fun e => hn (logList_inj e))
        (target_ne_free n)).recordsOn ?_ (Nat.le_refl _)
      rw [State.setStore_store, hrec, if_neg hn, Nat.sub_zero]
  · obtain ⟨hh, hp⟩ := Store.mem_waitingHeads.1 hi
    cases hr : ((s.store.headSplice m k).1.slot i).record with
    | logHead h =>
      obtain ⟨hr', ho⟩ := old i h hr
      exact Store.mem_waitingHeads.2 ⟨by rw [hr']; rfl, ho ▸ hp⟩
    | _ =>
      rw [State.setStore_store, hr] at hh
      cases hh

end Books

end Sys2Proof.Machine
end

section
/-! PROOFS. Who changes the PENDING lists between the steps (R34, R35, R38 to R41, R148 to R151): the relation that
RECORDS keeps, stated with what a step has in hand, and the rules for each update of the state. -/

namespace Sys2Proof.Machine

/-! ### Pending lists and visits -/

theorem PendingFits.unstamped {x : Visit} {rs : List Record} (h : PendingFits x rs) :
    ∀ k, Record.logHead k ∈ rs → k.seq = none := by
  have empty : rs = [] → ∀ k, Record.logHead k ∈ rs → k.seq = none := fun e => by rw [e]; exact fun _ hm => by cases hm
  have awaits : AwaitsStamp rs → ∀ k, Record.logHead k ∈ rs → k.seq = none := by
    rintro ⟨r, rfl, hs, _⟩ k hm
    rw [LogRecord.head_of_mem hm, hs]
  have building : (∃ n, Unstamped rs n) → ∀ k, Record.logHead k ∈ rs → k.seq = none := by
    rintro ⟨_, r, rfl, hs, _⟩ k hm
    rw [LogRecord.head_of_mem hm, hs]
  unfold PendingFits at h
  split at h
  · exact awaits h
  · exact awaits h
  · exact awaits h
  · exact h.elim empty building
  · exact h.elim (fun h => awaits h.2) fun h => empty h.2.2
  · exact h.elim (fun h => h.2.elim empty building) fun h => h.elim (fun h => empty h.2) fun h => awaits h.2
  · exact h.elim
  · exact empty h
  · exact h.elim

/-- The states in which a PENDING list is empty. -/
def VisitState.rests : VisitState → Bool
  | .free | .arrived | .assigned | .loading | .loaded | .queued | .held => true
  | _ => false

theorem pendingFits_rests {x : Visit} {rs : List Record} (h : x.state.rests = true) :
    PendingFits x rs ↔ x.abort = none ∧ rs = [] := by
  cases hs : x.state <;> cases ha : x.abort <;> simp_all [PendingFits, VisitState.rests]

/-- A visit whose work goes on as before: its state, its abort and its pass stand, and while it is ABORTING so does the
head of its record. -/
def Visit.Same (v : VisitNo) (x y : Visit) : Prop :=
  y.state = x.state ∧ y.abort = x.abort ∧ y.passMinute = x.passMinute ∧
    (x.state = .aborting → abortHead v y = abortHead v x)

/-- A visit whose work goes on as before, or one that no item ends and whose PENDING list fits its new state. -/
def Visit.Follows (v : VisitNo) (rs : List Record) (x y : Visit) : Prop :=
  x.Same v y ∨ (x.state ≠ .aborting ∧ x.state ≠ .releasing ∧ (PendingFits x rs → PendingFits y rs))

namespace Visit

variable {v : VisitNo} {rs : List Record} {x y : Visit}

theorem Same.refl (v : VisitNo) (x : Visit) : x.Same v x := ⟨rfl, rfl, rfl, fun _ => rfl⟩

theorem Follows.refl (v : VisitNo) (rs : List Record) (x : Visit) : x.Follows v rs x := .inl (.refl v x)

theorem Same.fits (h : x.Same v y) (hp : PendingFits x rs) : PendingFits y rs := by
  obtain ⟨hs, ha, _, _⟩ := h
  unfold PendingFits at hp ⊢
  rwa [hs, ha]

theorem Follows.fits (h : x.Follows v rs y) (hp : PendingFits x rs) : PendingFits y rs :=
  h.elim (fun h => h.fits hp) fun h => h.2.2 hp

theorem Follows.same (h : x.Follows v rs y) (hs : x.state = .aborting ∨ x.state = .releasing) : x.Same v y := by
  rcases h with h | ⟨ha, hr, _⟩
  · exact h
  · exact (hs.elim ha hr).elim

/-- From one state with an empty PENDING list to another. -/
theorem follows_rests (hx : x.state.rests = true) (hy : y.state.rests = true)
    (ha : y.abort = x.abort ∨ y.abort = none) : x.Follows v rs y := by
  refine .inr ⟨fun e => ?_, fun e => ?_, fun h => ?_⟩
  · rw [e] at hx
    cases hx
  · rw [e] at hx
    cases hx
  · rw [pendingFits_rests hx] at h
    rw [pendingFits_rests hy]
    exact ⟨ha.elim (fun e => e.trans h.1) id, h.2⟩

theorem fits_abort_none (h : PendingFits x rs) (hs : x.state ≠ .aborting) : x.abort = none := by
  cases ha : x.abort with
  | none => rfl
  | some k => cases hst : x.state <;> simp_all [PendingFits]

/-- A cleared visit that is released or lapses: its record goes on awaiting its stamp. -/
theorem follows_cleared (hx : x.state = .cleared) (hy : y.state = .releasing ∨ y.state = .lapsing)
    (ha : y.abort = x.abort) : x.Follows v rs y := by
  refine .inr ⟨by rw [hx]; decide, by rw [hx]; decide, fun h => ?_⟩
  have h0 := fits_abort_none h (by rw [hx]; decide)
  unfold PendingFits at h ⊢
  rw [hx, h0] at h
  rw [ha, h0]
  rcases hy with hy | hy <;> rw [hy] <;> exact h

end Visit

theorem abortRequest_same {v : VisitNo} {x y : Visit} (h : x.Same v y) (hs : x.state = .aborting) (c : AbortCourse) :
    abortRequest v y c = abortRequest v x c := by
  unfold abortRequest
  rw [h.2.2.2 hs]

theorem abortRequest_pendingOf {v w : VisitNo} {x : Visit} {c : AbortCourse} {r : Request}
    (h : abortRequest v x c = some r) (hw : r.pendingOf = some w) : w = v := by
  rw [State.abortRequest_eq_course] at h
  have hm := List.mem_of_getElem? h
  obtain ⟨b, n⟩ := c
  cases b
  · simp only [abortCourse, Bool.false_eq_true, if_false, List.mem_cons, List.not_mem_nil, or_false] at hm
    rcases hm with rfl | rfl | rfl | rfl | rfl <;> simp_all [Request.pendingOf]
  · simp only [abortCourse, if_true, List.mem_cons, List.not_mem_nil, or_false] at hm
    rcases hm with rfl | rfl | rfl <;> simp_all [Request.pendingOf]

/-! ### The work of one link -/

/-- What the item in flight on a link waits for, where it aborts or releases a visit (R34, R38 to R41). -/
structure LinkWork (s : State) (l : LinkNo) : Prop where
  idle     : s.job l = none → s.request (linkRequester l) = none
  aborts   : ∀ v seq, s.job l = some (.abort v seq) →
    (s.visit v).state = .aborting ∧ ∃ c, (s.visit v).abort = some c ∧
      ((c.answered = 0 ∧ s.request (linkRequester l) = none) ∨
        (s.checkHeld v = false ∧ ∃ r, abortRequest v (s.visit v) c = some r ∧
          s.request (linkRequester l) = some r))
  releases : ∀ v, s.job l = some (.release v) → (s.visit v).state = .releasing ∧
    (s.request (linkRequester l) = some (.splice (.comp v) .free) ∨
      s.request (linkRequester l) = some (.splice (.paper v) .free) ∨
      s.request (linkRequester l) = some (.stamped v .released (s.visit v).passMinute))
  owned    : ∀ r v, s.request (linkRequester l) = some r → r.pendingOf = some v → EndsVisit s l v

theorem endsVisit_congr {s t : State} {l : LinkNo} (hj : t.job l = s.job l) (v : VisitNo) :
    EndsVisit t l v ↔ EndsVisit s l v := by
  unfold EndsVisit
  rw [hj]

namespace LinkWork

variable {s t : State} {l : LinkNo}

theorem ending (h : LinkWork s l) {v : VisitNo} (he : EndsVisit s l v) :
    (s.visit v).state = .aborting ∨ (s.visit v).state = .releasing :=
  he.imp (fun ⟨seq, hj⟩ => (h.aborts v seq hj).1) fun hj => (h.releases v hj).1

theorem congr (h : LinkWork s l) (hj : t.job l = s.job l)
    (hr : t.request (linkRequester l) = s.request (linkRequester l))
    (hv : ∀ v, EndsVisit s l v → (s.visit v).Same v (t.visit v))
    (hc : ∀ v, EndsVisit s l v → s.checkHeld v = false → t.checkHeld v = false) : LinkWork t l := by
  refine ⟨fun h0 => hr.trans (h.idle (hj ▸ h0)), fun v seq h0 => ?_, fun v h0 => ?_, fun r v h0 hp =>
    (endsVisit_congr hj v).2 (h.owned r v (hr ▸ h0) hp)⟩
  · rw [hj] at h0
    have same := hv v (.inl ⟨seq, h0⟩)
    obtain ⟨hs, c, ha, hc'⟩ := h.aborts v seq h0
    refine ⟨same.1.trans hs, c, same.2.1.trans ha, ?_⟩
    rw [hr]
    exact hc'.imp id fun ⟨hheld, r, hr', hq⟩ =>
      ⟨hc v (.inl ⟨seq, h0⟩) hheld, r, (abortRequest_same same hs c).trans hr', hq⟩
  · rw [hj] at h0
    have same := hv v (.inr h0)
    obtain ⟨hs, hq⟩ := h.releases v h0
    rw [hr, same.2.2.1]
    exact ⟨same.1.trans hs, hq⟩

/-- An item that ends no visit. -/
theorem of_harmless (hj : s.job l ≠ none ∨ s.request (linkRequester l) = none) (he : ∀ v, ¬ EndsVisit s l v)
    (hr : ∀ r, s.request (linkRequester l) = some r → r.pendingOf = none) : LinkWork s l :=
  ⟨fun h0 => hj.resolve_left (absurd h0), fun v seq h0 => (he v (.inl ⟨seq, h0⟩)).elim,
    fun v h0 => (he v (.inr h0)).elim, fun r v h0 hp => by rw [hr r h0] at hp; cases hp⟩

end LinkWork

/-! ### A step in its course -/

/-- What a step has in hand from a grant or an item taken to the step's end: the link whose item it answers, the check
whose answer it takes, and the visit whose PENDING list it has changed. -/
structure Hand where
  link  : Option LinkNo
  check : Bool
  visit : Option VisitNo

namespace Hand

/-- Nothing in hand: between two steps. -/
abbrev idle : Hand := ⟨none, false, none⟩

/-- An item of a link that has no request waiting. -/
abbrev item (l : LinkNo) : Hand := ⟨some l, false, none⟩

/-- The item that ends a visit, whose PENDING list its grant has changed. -/
abbrev ends (l : LinkNo) (v : VisitNo) : Hand := ⟨some l, false, some v⟩

/-- The check in flight, its question answered. -/
abbrev ofCheck : Hand := ⟨none, true, none⟩

/-- A lapse that was stamped. -/
abbrev lapse (v : VisitNo) : Hand := ⟨none, false, some v⟩

end Hand

/-- RECORDS in the course of a step: what holds of all that the step has not in hand, and of what it has. -/
structure Course (s : State) (h : Hand) : Prop where
  pending : ∀ v, h.visit ≠ some v → PendingFits (s.visit v) (s.store.recordsOn (.pend v))
  onebusy : ∀ l, ((s.link l).bufA.busy && (s.link l).bufB.busy) = false
  links   : ∀ l, h.link ≠ some l → LinkWork s l
  single  : ∀ l m v, h.link ≠ some l → h.link ≠ some m → EndsVisit s l v → EndsVisit s m v → l = m
  held    : ∀ l, h.link = some l → s.job l ≠ none ∧ s.request (linkRequester l) = none
  alone   : ∀ v, h.visit = some v → (∀ l, h.link ≠ some l → ¬ EndsVisit s l v) ∧ s.checkHeld v = false
  checks  : h.check = false → ∀ c, s.dcu.check = some c → CheckSound s c
  rests   : h.check = true ∨ s.dcu.check = none → s.request .check = none
  sweeps  : ∀ r, s.request .sweep = some r ∨ s.sweep.deferred = some r → r.pendingOf = none

theorem checkHeld_of_check {s : State} {c : Check} (h : s.dcu.check = some c) (v : VisitNo) :
    s.checkHeld v = (c.visit == v) := by
  unfold State.checkHeld
  rw [h]

theorem CheckSound.congr {s t : State} {c : Check} (h : CheckSound s c) (hs : t.store = s.store)
    (hr : t.request .check = s.request .check)
    (hv : (s.visit c.visit).state = .aborting → (s.visit c.visit).Same c.visit (t.visit c.visit)) :
    CheckSound t c := by
  have building : Building s c → Building t c := by
    unfold Building
    rw [hs, hr]
    exact id
  refine ⟨by rw [hs]; exact h.build, fun hp => ?_, fun hp => ?_, fun hp => ?_, fun hp => ?_, fun hp => ?_⟩
  · rw [hs, hr]
    exact h.reads hp
  · rw [hs, hr]
    exact h.judges hp
  · obtain ⟨ha, hst, hb⟩ := h.builds hp
    exact ⟨ha, hst, building hb⟩
  · rw [hr]
    exact h.unwinds hp
  · obtain ⟨hst, hab, hw⟩ := h.leaves hp
    obtain ⟨hs', ha', _⟩ := hv hst
    rw [hr]
    exact ⟨hs'.trans hst, ha'.trans hab, hw.imp id fun ⟨ha, hw⟩ => ⟨ha, hw.imp id fun hw => hw.imp building id⟩⟩

namespace Course

variable {s t : State} {h : Hand}

/-- A change that leaves the jobs of the links, the requests of links and check, the check, and the store. -/
theorem transport (c : Course s h) (hj : ∀ l, t.job l = s.job l)
    (hb : ∀ l, ((t.link l).bufA.busy && (t.link l).bufB.busy) = false)
    (hv : ∀ v, h.visit ≠ some v → (s.visit v).Follows v (s.store.recordsOn (.pend v)) (t.visit v))
    (hr : ∀ l, t.request (linkRequester l) = s.request (linkRequester l))
    (hk : t.request .check = s.request .check) (hd : t.dcu.check = s.dcu.check) (hs : t.store = s.store)
    (hw : ∀ r, t.request .sweep = some r ∨ t.sweep.deferred = some r → r.pendingOf = none) : Course t h := by
  have hheld : ∀ v, t.checkHeld v = s.checkHeld v := fun v => by unfold State.checkHeld; rw [hd]
  refine ⟨fun v hv' => ?_, hb, fun l hl => ?_, fun l m v hl hm he hf => ?_, fun l hl => ?_, fun v hv' => ?_,
    fun hc k hd' => ?_, fun hn => ?_, hw⟩
  · rw [hs]
    exact (hv v hv').fits (c.pending v hv')
  · refine (c.links l hl).congr (hj l) (hr l) (fun v he => ?_) fun v _ hc => (hheld v).trans hc
    have hne : h.visit ≠ some v := fun e => (c.alone v e).1 l hl he
    exact (hv v hne).same ((c.links l hl).ending he)
  · exact c.single l m v hl hm ((endsVisit_congr (hj l) v).1 he) ((endsVisit_congr (hj m) v).1 hf)
  · rw [hj, hr]
    exact c.held l hl
  · obtain ⟨halone, hc⟩ := c.alone v hv'
    exact ⟨fun l hl he => halone l hl ((endsVisit_congr (hj l) v).1 he), (hheld v).trans hc⟩
  · rw [hd] at hd'
    refine (c.checks hc k hd').congr hs hk fun hst => ?_
    have hne : h.visit ≠ some k.visit := fun e => by
      have := (c.alone _ e).2
      rw [checkHeld_of_check hd'] at this
      simp at this
    exact (hv _ hne).same (.inl hst)
  · rw [hk]
    exact c.rests (hd ▸ hn)

/-- A change of registers alone. -/
theorem of_rest (c : Course s h) (hl : t.links = s.links) (hv : t.visits = s.visits) (hr : t.requests = s.requests)
    (hd : t.dcu.check = s.dcu.check) (hs : t.store = s.store) (hw : t.sweep.deferred = s.sweep.deferred) :
    Course t h := by
  have link : ∀ l, t.link l = s.link l := State.link_congr hl
  have request : ∀ p, t.request p = s.request p := State.request_congr hr
  refine c.transport (fun l => ?_) (fun l => ?_) (fun v _ => ?_) (fun l => request _) (request _) hd hs fun r => ?_
  · unfold State.job State.executing
    rw [link]
  · rw [link]
    exact c.onebusy l
  · rw [State.visit_congr hv]
    exact .refl _ _ _
  · rw [request, hw]
    exact c.sweeps r

/-- A visit's record replaced. -/
theorem setVisit (c : Course s h) {v : VisitNo} {x : Visit} (hx : h.visit ≠ some v → (s.visit v).Follows v (s.store.recordsOn (.pend v)) x) :
    Course (s.setVisit v x) h := by
  refine c.transport (fun _ => rfl) c.onebusy (fun w hw => ?_) (fun _ => rfl) rfl rfl rfl c.sweeps
  by_cases e : v = w
  · subst e
    rw [State.visit_setVisit_self]
    exact hx hw
  · rw [State.visit_setVisit_ne _ _ e]
    exact .refl _ _ _

theorem changeVisit (c : Course s h) {v : VisitNo} {st : VisitState} {f : Visit → Visit}
    (hf : (s.visit v).state = st → h.visit ≠ some v →
      (s.visit v).Follows v (s.store.recordsOn (.pend v)) (f (s.visit v))) :
    Course (s.changeVisit v st f) h := by
  unfold State.changeVisit
  split
  · next e => exact c.setVisit (hf e)
  · exact c

/-- A visit let go of, its PENDING list fitting its state. -/
theorem letGo {l : Option LinkNo} {b : Bool} {v : VisitNo} (c : Course s ⟨l, b, some v⟩)
    (hp : PendingFits (s.visit v) (s.store.recordsOn (.pend v))) : Course s ⟨l, b, none⟩ := by
  refine ⟨fun w _ => ?_, c.onebusy, c.links, c.single, c.held, nofun, c.checks, c.rests, c.sweeps⟩
  by_cases e : v = w
  · exact e ▸ hp
  · exact c.pending w fun e' => e (Option.some.inj e')

/-- Lists of the store changed: the PENDING lists fit, and that of the check stands. -/
theorem setStore (c : Course s h) {st : Store}
    (fits : ∀ v, h.visit ≠ some v → PendingFits (s.visit v) (st.recordsOn (.pend v)))
    (same : h.check = false → ∀ k, s.dcu.check = some k → Store.Untouched s.store st (.pend k.visit)) :
    Course (s.setStore st) h := by
  refine ⟨fits, c.onebusy, fun l hl => (c.links l hl).congr rfl rfl (fun v _ => .refl _ _) fun _ _ h => h,
    fun l m v hl hm => c.single l m v hl hm, c.held, fun v hv => c.alone v hv, fun hc k hk => ?_, c.rests, c.sweeps⟩
  have hk' : s.dcu.check = some k := hk
  have hsame := same hc k hk'
  obtain ⟨hb, hr, hj, hbu, hu, hl⟩ := c.checks hc k hk'
  have building : Building s k → Building (s.setStore st) k := by
    unfold Building
    rintro (⟨h1, h2, h3⟩ | ⟨h1, h2, h3⟩ | ⟨i, m, h1, h2, h3, h4⟩)
    · exact .inl ⟨h1, h2, by rw [State.setStore_store, hsame.recordsOn]; exact h3⟩
    · exact .inr (.inl ⟨h1, h2, by rw [State.setStore_store, hsame.recordsOn]; exact h3⟩)
    · refine .inr (.inr ⟨i, m, ?_, ?_, h3, by rw [State.setStore_store, hsame.recordsOn]; exact h4⟩)
      · have hm : i ∈ s.store.chain (.pend k.visit) := List.mem_of_mem_head? h2
        have hi : st.ref i = s.store.ref i := by unfold Store.ref; rw [(hsame.slots i hm).2]
        rw [State.setStore_store, hi]
        exact h1
      · rw [State.setStore_store, hsame.chain]
        exact h2
  refine ⟨?_, ?_, ?_, ?_, hu, ?_⟩
  · rw [State.setStore_store, hsame.refs]
    exact hb
  · rw [State.setStore_store, hsame.chain]
    exact hr
  · rw [State.setStore_store, hsame.chain]
    exact hj
  · exact fun hp => (hbu hp).imp id fun h => h.imp id building
  · exact fun hp => (hl hp).imp id fun h => h.imp id fun h => h.imp id fun h => h.imp id fun h => h.imp id fun h =>
      h.imp building id

/-! #### The check in flight -/

/-- The check in flight replaced by a further course of it. -/
theorem setCheck (c : Course s h) {k k' : Check} (hk : s.dcu.check = some k) (hv : k'.visit = k.visit)
    (hs : h.check = false → CheckSound s k') : Course (s.setCheck (some k')) h := by
  have hheld : ∀ v, (s.setCheck (some k')).checkHeld v = s.checkHeld v := by
    intro v
    rw [checkHeld_of_check (s := s.setCheck (some k')) rfl, checkHeld_of_check hk, hv]
  refine ⟨c.pending, c.onebusy,
    fun l hl => (c.links l hl).congr rfl rfl (fun v _ => .refl _ _) fun v _ h => (hheld v).trans h, c.single, c.held,
    fun v hv' => ⟨(c.alone v hv').1, (hheld v).trans (c.alone v hv').2⟩, fun hc k'' he => ?_, fun hn => ?_, c.sweeps⟩
  · cases he
    exact (hs hc).congr rfl rfl fun _ => .refl _ _
  · rcases hn with hn | hn
    · exact c.rests (.inl hn)
    · cases hn

/-- The DCU becomes IDLE. -/
theorem setCheck_none (c : Course s h) (hr : s.request .check = none) : Course (s.setCheck none) { h with check := false } := by
  refine ⟨c.pending, c.onebusy, fun l hl => (c.links l hl).congr rfl rfl (fun v _ => .refl _ _) fun _ _ _ => rfl,
    c.single, c.held, fun v hv => ⟨(c.alone v hv).1, rfl⟩, fun _ k hk => ?_, fun _ => hr, c.sweeps⟩
  cases hk

/-- The check goes on to its next request. -/
theorem checkAsks {l : Option LinkNo} {v : Option VisitNo} (c : Course s ⟨l, true, v⟩) {k k' : Check}
    (hk : s.dcu.check = some k) (hv : k'.visit = k.visit) {q : Request}
    (hs : CheckSound ((s.setCheck (some k')).present .check q) k') :
    Course ((s.setCheck (some k')).present .check q) ⟨l, false, v⟩ := by
  have c' : Course (s.setCheck (some k')) ⟨l, true, v⟩ := c.setCheck hk hv nofun
  have other : ∀ m, ((s.setCheck (some k')).present .check q).request (linkRequester m) =
      (s.setCheck (some k')).request (linkRequester m) := by
    intro m
    rw [State.request_present, if_neg (by cases m <;> simp [linkRequester])]
  refine ⟨c'.pending, c'.onebusy, fun m hm => (c'.links m hm).congr rfl (other m) (fun v _ => .refl _ _) fun _ _ h => h,
    c'.single, fun m hm => by rw [other]; exact c'.held m hm, c'.alone, fun _ k'' he => ?_, ?_, fun r => ?_⟩
  · cases he
    exact hs
  · rintro (hn | hn) <;> cases hn
  · rw [State.request_present, if_neg (by simp)]
    exact c'.sweeps r

/-- The check goes on to a question of its own, with no request at the store. -/
theorem checkWonders {l : Option LinkNo} {v : Option VisitNo} (c : Course s ⟨l, true, v⟩) {k k' : Check}
    (hk : s.dcu.check = some k) (hv : k'.visit = k.visit) (hs : CheckSound s k') :
    Course (s.setCheck (some k')) ⟨l, false, v⟩ := by
  have c' : Course (s.setCheck (some k')) ⟨l, true, v⟩ := c.setCheck hk hv nofun
  refine ⟨c'.pending, c'.onebusy, c'.links, c'.single, c'.held, c'.alone, fun _ k'' he => ?_, ?_, c'.sweeps⟩
  · cases he
    exact hs.congr rfl rfl fun _ => .refl _ _
  · rintro (hn | hn) <;> cases hn

/-- A check in READ or JUDGE waits for an answer. -/
theorem waits (c : Course s h) (hc : h.check = false) {k : Check} (hk : s.dcu.check = some k)
    (hp : k.phase = .read ∨ k.phase = .judge) : s.checkWaits k = true := by
  unfold State.checkWaits
  rcases hp with hp | hp
  · obtain ⟨_, ⟨l, i, hr⟩, _⟩ := (c.checks hc k hk).reads hp
    rw [hr]
    rfl
  · obtain ⟨ha, _⟩ := (c.checks hc k hk).judges hp
    rw [Option.isSome_iff_ne_none.2 ha, Bool.or_true]

/-- R144, R146: a report marks the check stale. -/
theorem report (c : Course s h) (hc : h.check = false) (v : Option VisitNo) : Course (s.report v) h := by
  unfold State.report
  split
  · exact c
  · next k hk =>
    split
    · next hp =>
      rw [if_pos (c.waits hc hk hp.1)]
      refine c.setCheck hk rfl fun _ => ?_
      obtain ⟨hb, hr, hj, hbu, hu, hl⟩ := c.checks hc k hk
      have noBuild : k.phase ≠ .build := fun e => by rcases hp.1 with h | h <;> rw [e] at h <;> cases h
      have noUnwind : k.phase ≠ .unwind := fun e => by rcases hp.1 with h | h <;> rw [e] at h <;> cases h
      exact ⟨hb, hr, hj, fun e => absurd e noBuild, fun e => absurd e noUnwind, hl⟩
    · exact c

theorem reportList (c : Course s h) (hc : h.check = false) (l : ListId) : Course (s.reportList l) h := by
  unfold State.reportList
  split
  · exact c.report hc _
  · exact c

/-! #### Registers -/

theorem setWindow (c : Course s h) (b : BayIx) (w : Option Window) : Course (s.setWindow b w) h :=
  c.of_rest rfl rfl rfl rfl rfl rfl

theorem setTime (c : Course s h) (x : TimeBase) : Course (s.setTime x) h := c.of_rest rfl rfl rfl rfl rfl rfl

theorem setCc (c : Course s h) (x : Control) : Course (s.setCc x) h := c.of_rest rfl rfl rfl rfl rfl rfl

theorem setLogs (c : Course s h) (x : LogUnit) : Course (s.setLogs x) h := c.of_rest rfl rfl rfl rfl rfl rfl

theorem setClasses (c : Course s h) (x : ClassTable) : Course (s.setClasses x) h :=
  c.of_rest rfl rfl rfl rfl rfl rfl

theorem setQueue (c : Course s h) (vs : List VisitNo) : Course (s.setDcu { s.dcu with queue := vs }) h :=
  c.of_rest rfl rfl rfl rfl rfl rfl

theorem setDrivers (c : Course s h) (ht : t = { s with drivers := t.drivers }) : Course t h := by
  rw [ht]
  exact c.of_rest rfl rfl rfl rfl rfl rfl

/-- Flags, mask and receiver of a link. -/
theorem setLink (c : Course s h) {l : LinkNo} {k : Link} (ha : k.bufA = (s.link l).bufA) (hb : k.bufB = (s.link l).bufB) :
    Course (s.setLink l k) h := by
  have exec : ∀ m, (s.setLink l k).executing m = s.executing m := by
    intro m
    unfold State.executing
    by_cases e : l = m
    · subst e
      rw [State.link_setLink_self]
      unfold Link.executing
      rw [ha, hb]
    · rw [State.link_setLink_ne _ _ e]
  refine c.transport (fun m => ?_) (fun m => ?_) (fun v _ => .refl _ _ _) (fun _ => rfl) rfl rfl rfl c.sweeps
  · unfold State.job
    rw [exec]
  · by_cases e : l = m
    · subst e
      rw [State.link_setLink_self, ha, hb]
      exact c.onebusy l
    · rw [State.link_setLink_ne _ _ e]
      exact c.onebusy m

theorem raise (c : Course s h) (l : LinkNo) (f : Flag) : Course (s.raise l f) h := c.setLink rfl rfl

theorem follow (c : Course s h) : Course s.follow h := by
  unfold State.follow
  refine Course.setLink (s := s.setLink .office _) ?_ ?_ ?_
  · exact c.setLink rfl rfl
  · rw [State.link_setLink_ne _ _ (by decide)]
  · rw [State.link_setLink_ne _ _ (by decide)]

end Course

end Sys2Proof.Machine
end

section
/-! PROOFS. RECORDS in the course of a step, at the links: what taking, answering and continuing an item, the receivers
and the start of an abort do to it (R34, R38, R39, R188, R190). -/

namespace Sys2Proof.Machine

/-! ### Between the steps -/

theorem course_of_work {s : State} (hp : ∀ v, PendingFits (s.visit v) (s.store.recordsOn (.pend v)))
    (w : WorkSound s) : Course s .idle where
  pending v _ := hp v
  onebusy := w.onebusy
  links l _ := ⟨w.idle l, w.aborts l, w.releases l, w.owned l⟩
  single l m v _ _ := w.single l m v
  held := nofun
  alone := nofun
  checks _ := w.checks
  rests hn := w.rests (hn.resolve_left nofun)
  sweeps := w.sweeps

theorem work_of_course {s : State} (c : Course s .idle) : WorkSound s where
  onebusy := c.onebusy
  idle l := (c.links l nofun).idle
  aborts l := (c.links l nofun).aborts
  releases l := (c.links l nofun).releases
  single l m v := c.single l m v nofun nofun
  owned l := (c.links l nofun).owned
  checks := c.checks rfl
  rests hn := c.rests (.inr hn)
  sweeps := c.sweeps

/-! ### Jobs -/

/-- The visit that an item's course ends. -/
def Job.ends : Job → Option VisitNo
  | .abort v _ | .release v => some v
  | _ => none

theorem endsVisit_iff {s : State} {l : LinkNo} {v : VisitNo} :
    EndsVisit s l v ↔ ∃ j, s.job l = some j ∧ j.ends = some v := by
  constructor
  · rintro (⟨seq, h⟩ | h)
    · exact ⟨_, h, rfl⟩
    · exact ⟨_, h, rfl⟩
  · rintro ⟨j, hj, he⟩
    cases j <;> cases he
    · exact .inl ⟨_, hj⟩
    · exact .inr hj

theorem not_endsVisit {s : State} {l : LinkNo} {j : Job} (hj : s.job l = some j) (he : j.ends = none) (v : VisitNo) :
    ¬ EndsVisit s l v := by
  rw [endsVisit_iff]
  rintro ⟨j', hj', hv⟩
  rw [hj] at hj'
  cases hj'
  rw [he] at hv
  cases hv

theorem not_endsVisit_none {s : State} {l : LinkNo} (hj : s.job l = none) (v : VisitNo) : ¬ EndsVisit s l v := by
  rw [endsVisit_iff]
  rintro ⟨j', hj', _⟩
  rw [hj] at hj'
  cases hj'

namespace Link

/-- The course of the item in flight on a link's line. -/
def job (k : Link) : Option Job := k.executing.bind fun e => e.cur.map CurItem.job

/-- At most one buffer of the link executes or replies (R188). -/
def OneBusy (k : Link) : Prop := (k.bufA.busy && k.bufB.busy) = false

theorem executing_cases {k : Link} {e : Execution} (h : k.executing = some e) :
    k.bufA = .executing e ∨ (∀ x, k.bufA ≠ .executing x) ∧ k.bufB = .executing e := by
  unfold executing at h
  split at h
  · next heq => cases h; exact .inl heq
  · next heq hno => cases h; exact .inr ⟨fun x e => hno x e, heq⟩
  · cases h

theorem OneBusy.putExecuting {k : Link} (h : k.OneBusy) (b : Buffer) : (k.putExecuting b).OneBusy := by
  unfold OneBusy at h ⊢
  unfold Link.putExecuting
  split
  · next heq =>
    rw [heq] at h
    have hb : k.bufB.busy = false := h
    show (b.busy && k.bufB.busy) = false
    rw [hb, Bool.and_false]
  · next heq _ =>
    rw [heq] at h
    have ha : k.bufA.busy = false := by simpa [Buffer.busy] using h
    show (k.bufA.busy && b.busy) = false
    rw [ha, Bool.false_and]
  · exact h

/-- The buffer of an item completed has no item in flight (R188, R192). -/
theorem onward_cases (l : LinkNo) (e : Execution) :
    (∃ e', Execution.onward l e = .executing e' ∧ e'.cur = none) ∨ ∃ r f, Execution.onward l e = .replying r f := by
  unfold Execution.onward
  simp only
  split
  · exact .inr ⟨_, _, rfl⟩
  · exact .inl ⟨_, rfl, rfl⟩

/-- The item in flight in a buffer. -/
def bufferJob : Buffer → Option Job
  | .executing e => e.cur.map CurItem.job
  | _ => none

theorem bufferJob_of_not_busy {b : Buffer} (h : b.busy = false) : bufferJob b = none := by
  cases b with
  | executing e => cases h
  | _ => rfl

theorem bufferJob_onward (l : LinkNo) (e : Execution) : bufferJob (Execution.onward l e) = none := by
  rcases onward_cases l e with ⟨e', h, hc⟩ | ⟨r, f, h⟩ <;> rw [h]
  · show e'.cur.map _ = none
    rw [hc]
    rfl
  · rfl

/-- The job of a line is that of its buffers. -/
theorem job_eq_buffers {k : Link} (h : k.OneBusy) : k.job = (bufferJob k.bufA).or (bufferJob k.bufB) := by
  unfold job
  cases he : k.executing with
  | none =>
    unfold executing at he
    split at he
    · cases he
    · cases he
    · next ha hb =>
      have idle : ∀ b : Buffer, (∀ e, b ≠ .executing e) → bufferJob b = none := by
        intro b hno
        cases b with
        | executing e => exact absurd rfl (hno e)
        | _ => rfl
      rw [idle _ fun e h => ha e h, idle _ fun e h => hb e h]
      rfl
  | some e =>
    rcases executing_cases he with ha | ⟨ha, hb⟩
    · have hb : bufferJob k.bufB = none := bufferJob_of_not_busy (by
        unfold OneBusy at h
        rwa [ha] at h)
      rw [ha, hb, Option.or_none]
      rfl
    · have hA : bufferJob k.bufA = none := by
        cases hA : k.bufA with
        | executing x => exact absurd hA (ha x)
        | _ => rfl
      rw [hA, hb]
      rfl

/-- The job of a line whose executing buffer is replaced. -/
theorem job_putExecuting {k : Link} (h : k.OneBusy) {e : Execution} (he : k.executing = some e) (b : Buffer) :
    (k.putExecuting b).job = bufferJob b := by
  rw [job_eq_buffers (h.putExecuting b)]
  unfold OneBusy at h
  rcases executing_cases he with ha | ⟨ha, hb⟩
  · have hput : k.putExecuting b = { k with bufA := b } := by
      unfold Link.putExecuting
      rw [ha]
    rw [ha] at h
    have hB : bufferJob k.bufB = none := bufferJob_of_not_busy h
    rw [hput]
    show (bufferJob b).or (bufferJob k.bufB) = _
    rw [hB, Option.or_none]
  · have hput : k.putExecuting b = { k with bufB := b } := by
      unfold Link.putExecuting
      rw [hb]
      cases hA : k.bufA with
      | executing x => exact absurd hA (ha x)
      | _ => rfl
    have hA : bufferJob k.bufA = none := bufferJob_of_not_busy (by
      rw [hb] at h
      simpa [Buffer.busy] using h)
    rw [hput]
    show (bufferJob k.bufA).or (bufferJob b) = _
    rw [hA, Option.none_or]

end Link

namespace State

theorem job_eq (s : State) (l : LinkNo) : s.job l = (s.link l).job := rfl

theorem link_putExecuting_self (s : State) (l : LinkNo) (b : Buffer) :
    (s.putExecuting l b).link l = (s.link l).putExecuting b := link_setLink_self _ _ _

theorem link_putExecuting_ne (s : State) {l m : LinkNo} (b : Buffer) (h : m ≠ l) :
    (s.putExecuting l b).link m = s.link m := link_setLink_ne _ _ (Ne.symm h)

theorem job_answer_self {s : State} {l : LinkNo} (hb : (s.link l).OneBusy) (c : Code) (d : List Byte) :
    (s.answer l c d).job l = none := by
  unfold answer
  split
  · next e he =>
    split
    · rw [job_eq, link_putExecuting_self, Link.job_putExecuting hb he, Link.bufferJob_onward]
    · next hc =>
      unfold job
      rw [he, Option.bind_some, hc]
      rfl
  · next he =>
    unfold job
    rw [he]
    rfl

theorem job_putExecuting_self {s : State} {l : LinkNo} {e : Execution} (he : s.executing l = some e) (e' : Execution) :
    (s.putExecuting l (.executing e')).job l = e'.cur.map CurItem.job := by
  rw [job_eq, link_putExecuting_self]
  unfold Link.job
  rw [Link.executing_putExecuting he]
  rfl

theorem job_setJob_self {s : State} {l : LinkNo} (hj : s.job l ≠ none) (j : Job) : (s.setJob l j).job l = some j := by
  unfold setJob
  split
  · next e he =>
    split
    · rw [job_putExecuting_self he]
      rfl
    · next hc =>
      refine absurd ?_ hj
      unfold job
      rw [he, Option.bind_some, hc]
      rfl
  · next he =>
    refine absurd ?_ hj
    unfold job
    rw [he]
    rfl

end State

theorem linkRequester_inj {l m : LinkNo} (h : linkRequester l = linkRequester m) : l = m := by
  have e := congrArg Requester.link h
  rwa [linkRequester_link, linkRequester_link, Option.some.injEq] at e

theorem linkRequester_ne_check (l : LinkNo) : linkRequester l ≠ .check := by cases l <;> simp [linkRequester]

theorem linkRequester_ne_sweep (l : LinkNo) : linkRequester l ≠ .sweep := by cases l <;> simp [linkRequester]

/-! ### Everything but one link -/

/-- Nothing that RECORDS speaks of changed but the line and the request of one link. -/
structure SameBut (l : LinkNo) (s t : State) : Prop where
  links    : ∀ m, m ≠ l → t.link m = s.link m
  requests : ∀ m, m ≠ l → t.request (linkRequester m) = s.request (linkRequester m)
  check    : t.request .check = s.request .check
  sweep    : t.request .sweep = s.request .sweep
  deferred : t.sweep.deferred = s.sweep.deferred
  visits   : ∀ v, t.visit v = s.visit v
  dcu      : t.dcu.check = s.dcu.check
  store    : t.store = s.store
  onebusy  : (s.link l).OneBusy → (t.link l).OneBusy

namespace SameBut

variable {l : LinkNo} {r s t : State}

theorem refl (l : LinkNo) (s : State) : SameBut l s s :=
  ⟨fun _ _ => rfl, fun _ _ => rfl, rfl, rfl, rfl, fun _ => rfl, rfl, rfl, id⟩

theorem trans (a : SameBut l r s) (b : SameBut l s t) : SameBut l r t :=
  ⟨fun m hm => (b.links m hm).trans (a.links m hm), fun m hm => (b.requests m hm).trans (a.requests m hm),
    b.check.trans a.check, b.sweep.trans a.sweep, b.deferred.trans a.deferred,
    fun v => (b.visits v).trans (a.visits v), b.dcu.trans a.dcu, b.store.trans a.store, b.onebusy ∘ a.onebusy⟩

theorem putExecuting (l : LinkNo) (s : State) (b : Buffer) : SameBut l s (s.putExecuting l b) :=
  ⟨fun _ hm => State.link_putExecuting_ne s b hm, fun _ _ => rfl, rfl, rfl, rfl, fun _ => rfl, rfl, rfl,
    fun h => by rw [State.link_putExecuting_self]; exact h.putExecuting b⟩

theorem answer (l : LinkNo) (s : State) (c : Code) (d : List Byte) : SameBut l s (s.answer l c d) := by
  unfold State.answer
  split
  · split
    · exact putExecuting l s _
    · exact refl l s
  · exact refl l s

theorem setJob (l : LinkNo) (s : State) (j : Job) : SameBut l s (s.setJob l j) := by
  unfold State.setJob
  split
  · split
    · exact putExecuting l s _
    · exact refl l s
  · exact refl l s

theorem begin (h : Head) (s : State) (i : Instr) : SameBut h.link s (s.begin h i) := by
  unfold State.begin
  split
  · exact putExecuting _ s _
  · exact refl _ s

theorem setRequest (l : LinkNo) (s : State) (q : Option Request) : SameBut l s (s.setRequest (linkRequester l) q) := by
  refine ⟨fun _ _ => rfl, fun m hm => ?_, ?_, ?_, rfl, fun _ => rfl, rfl, rfl, id⟩ <;> rw [State.request_setRequest, if_neg]
  · exact fun e => hm (linkRequester_inj e).symm
  · exact linkRequester_ne_check l
  · exact linkRequester_ne_sweep l

theorem ask (l : LinkNo) (s : State) (j : Job) (q : Request) : SameBut l s (s.ask l j q) :=
  (setJob l s j).trans (setRequest l _ _)

theorem job (a : SameBut l s t) {m : LinkNo} (hm : m ≠ l) : t.job m = s.job m := by
  rw [State.job_eq, State.job_eq, a.links m hm]

theorem checkHeld (a : SameBut l s t) (v : VisitNo) : t.checkHeld v = s.checkHeld v := by
  unfold State.checkHeld
  rw [a.dcu]

/-- The work of every other link stands. -/
theorem work (a : SameBut l s t) {m : LinkNo} (hm : m ≠ l) (h : LinkWork s m) : LinkWork t m :=
  h.congr (a.job hm) (a.requests m hm) (fun v _ => a.visits v ▸ .refl _ _) fun v _ hc => (a.checkHeld v).trans hc

end SameBut

namespace Course

variable {s t : State} {l : LinkNo}

/-- A link's item comes into hand. -/
theorem opens (c : Course s .idle) (a : SameBut l s t) (hj : t.job l ≠ none) (hr : t.request (linkRequester l) = none) :
    Course t (.item l) := by
  refine ⟨fun v _ => ?_, fun m => ?_, fun m hm => ?_, fun m n v hm hn he hf => ?_, fun m hm => ?_, nofun,
    fun hc k hk => ?_, fun hn => ?_, ?_⟩
  · rw [a.visits, a.store]
    exact c.pending v nofun
  · by_cases hm : m = l
    · subst hm
      exact a.onebusy (c.onebusy m)
    · rw [a.links m hm]
      exact c.onebusy m
  · have hne : m ≠ l := fun e => hm (e ▸ rfl)
    exact a.work hne (c.links m nofun)
  · have hm' : m ≠ l := fun e => hm (e ▸ rfl)
    have hn' : n ≠ l := fun e => hn (e ▸ rfl)
    exact c.single m n v nofun nofun ((endsVisit_congr (a.job hm') v).1 he) ((endsVisit_congr (a.job hn') v).1 hf)
  · cases hm
    exact ⟨hj, hr⟩
  · rw [a.dcu] at hk
    exact (c.checks rfl k hk).congr a.store a.check fun _ => a.visits _ ▸ .refl _ _
  · rw [a.check]
    exact c.rests (a.dcu ▸ hn)
  · rw [a.sweep, a.deferred]
    exact c.sweeps

/-- A link's item leaves the hand. -/
theorem closes {b : Bool} (c : Course s ⟨some l, b, none⟩) (a : SameBut l s t) (hl : LinkWork t l)
    (he : ∀ v m, EndsVisit t l v → m ≠ l → ¬ EndsVisit s m v) : Course t ⟨none, b, none⟩ := by
  refine ⟨fun v _ => ?_, fun m => ?_, fun m _ => ?_, fun m n v _ _ hm hn => ?_, nofun, nofun, fun hc k hk => ?_,
    fun hn => ?_, ?_⟩
  · rw [a.visits, a.store]
    exact c.pending v nofun
  · by_cases hm : m = l
    · subst hm
      exact a.onebusy (c.onebusy m)
    · rw [a.links m hm]
      exact c.onebusy m
  · by_cases hm : m = l
    · subst hm
      exact hl
    · exact a.work hm (c.links m fun e => hm (Option.some.inj e).symm)
  · by_cases hm' : m = l
    · subst hm'
      by_contra hne
      exact he v n hm (Ne.symm hne) ((endsVisit_congr (a.job (Ne.symm hne)) v).1 hn)
    · by_cases hn' : n = l
      · subst hn'
        exact (he v m hn hm' ((endsVisit_congr (a.job hm') v).1 hm)).elim
      · exact c.single m n v (fun e => hm' (Option.some.inj e).symm) (fun e => hn' (Option.some.inj e).symm)
          ((endsVisit_congr (a.job hm') v).1 hm) ((endsVisit_congr (a.job hn') v).1 hn)
  · rw [a.dcu] at hk
    exact (c.checks hc k hk).congr a.store a.check fun _ => a.visits _ ▸ .refl _ _
  · rw [a.check]
    exact c.rests (a.dcu ▸ hn)
  · rw [a.sweep, a.deferred]
    exact c.sweeps

/-- The item is answered. -/
theorem answer (c : Course s (.item l)) (k : Code) (d : List Byte) : Course (s.answer l k d) .idle := by
  have hj := State.job_answer_self (c.onebusy l) k d
  have hr : (s.answer l k d).request (linkRequester l) = none := by
    rw [State.answer_eq]
    exact (c.held l rfl).2
  refine c.closes (.answer l s k d) (.of_harmless (.inr hr) (not_endsVisit_none hj) fun r h => ?_)
    fun v m he => (not_endsVisit_none hj v he).elim
  rw [hr] at h
  cases h

theorem refuse (c : Course s (.item l)) (k : Code) : Course (s.refuse l k) .idle := c.answer k []

/-- The item stays as it is: it ends no visit. -/
theorem leaves (c : Course s (.item l)) (he : ∀ v, ¬ EndsVisit s l v) : Course s .idle := by
  obtain ⟨hj, hr⟩ := c.held l rfl
  refine c.closes (.refl l s) (.of_harmless (.inl hj) he fun r h => ?_) fun v m h => (he v h).elim
  rw [hr] at h
  cases h

/-- The item goes on with its next request, which changes no PENDING list. -/
theorem ask (c : Course s (.item l)) {j : Job} {q : Request} (hj : j.ends = none) (hq : q.pendingOf = none) :
    Course (s.ask l j q) .idle := by
  have hjob : (s.ask l j q).job l = some j := State.job_setJob_self (c.held l rfl).1 j
  have hreq : (s.ask l j q).request (linkRequester l) = some q := State.request_present_self _ _ _
  refine c.closes (.ask l s j q) (.of_harmless (.inl (by rw [hjob]; simp)) (not_endsVisit hjob hj) fun r h => ?_)
    fun v m he => (not_endsVisit hjob hj v he).elim
  rw [hreq] at h
  cases h
  exact hq

/-- The item goes on with a request of the course that ends its visit. -/
theorem askEnding (c : Course s (.item l)) {j : Job} {q : Request} {v : VisitNo} (hj : j.ends = some v)
    (hl : LinkWork (s.ask l j q) l) (alone : ∀ m, m ≠ l → ¬ EndsVisit s m v) : Course (s.ask l j q) .idle := by
  have hjob : (s.ask l j q).job l = some j := State.job_setJob_self (c.held l rfl).1 j
  refine c.closes (.ask l s j q) hl fun w m he hm => ?_
  obtain ⟨j', hj', hw⟩ := endsVisit_iff.1 he
  rw [hjob] at hj'
  cases hj'
  rw [hj] at hw
  cases hw
  exact alone m hm

/-! #### Items taken (R190, R191) -/

theorem begin (c : Course s .idle) {h : Head} {i : Instr} (hn : s.nextItem h.link = some i) :
    Course (s.begin h i) (.item h.link) := by
  obtain ⟨_, e, he, hc, _⟩ := State.nextItem_executing hn
  have hnone : s.job h.link = none := by
    unfold State.job
    rw [he, Option.bind_some, hc]
    rfl
  refine c.opens (.begin h s i) ?_ ?_
  · unfold State.job
    rw [State.executing_begin he]
    simp
  · rw [State.begin_eq]
    exact (c.links h.link nofun).idle hnone

theorem takeItem (c : Course s .idle) {h : Head} {i : Instr} {f : State → State}
    (hf : Course (s.begin h i) (.item h.link) → Course (f (s.begin h i)) .idle) : Course (s.takeItem h i f) .idle := by
  unfold State.takeItem
  split
  · next hn =>
    split
    · exact (c.begin hn).refuse _
    · exact hf (c.begin hn)
  · exact c

/-! #### The start of an abort (R38, R39) -/

theorem presentAbort (c : Course s .idle) {v : VisitNo} (hc : s.checkHeld v = false) (ha : s.aborts v l = true) :
    Course (s.presentAbort v l) .idle := by
  obtain ⟨seq, hj⟩ : ∃ seq, s.job l = some (.abort v seq) := by
    unfold State.aborts at ha
    split at ha
    · next w seq h => exact ⟨seq, by rw [h, beq_iff_eq.1 ha]⟩
    · cases ha
  obtain ⟨hst, k, hk, _⟩ := (c.links l nofun).aborts v seq hj
  unfold State.presentAbort
  rw [hk]
  simp only
  split
  · exact c
  · next r hr =>
    have a : SameBut l s (s.present (linkRequester l) r) := .setRequest l s _
    have hjob : (s.present (linkRequester l) r).job l = some (.abort v seq) := hj
    have hreq : (s.present (linkRequester l) r).request (linkRequester l) = some r := State.request_present_self _ _ _
    have others : ∀ w m, EndsVisit s l w → m ≠ l → ¬ EndsVisit s m w := fun w m he hm hf =>
      hm (c.single m l w nofun nofun hf he)
    have opened : Course s ⟨some l, false, none⟩ → Course (s.present (linkRequester l) r) .idle := fun c' => by
      refine c'.closes a ⟨fun h0 => (by rw [hjob] at h0; cases h0), fun w seq' h0 => ?_, fun w h0 => ?_,
        fun r' w h0 hp => ?_⟩ fun w m he => others w m ((endsVisit_congr rfl w).1 he)
      · rw [hjob] at h0
        cases h0
        exact ⟨hst, k, hk, .inr ⟨hc, r, hr, hreq⟩⟩
      · rw [hjob] at h0
        cases h0
      · rw [hreq] at h0
        cases h0
        rw [abortRequest_pendingOf hr hp]
        exact .inl ⟨seq, hjob⟩
    -- the request that it replaces, if any, is the same one
    rcases hold : s.request (linkRequester l) with _ | q
    · exact opened (c.opens (.refl l s) (by rw [hj]; simp) hold)
    · obtain ⟨_, k', hk', hcase⟩ := (c.links l nofun).aborts v seq hj
      rcases hcase with ⟨_, hn⟩ | ⟨_, r', hr', hq⟩
      · rw [hold] at hn
        cases hn
      · rw [hk] at hk'
        cases hk'
        rw [hr] at hr'
        cases hr'
        have same : ∀ p, (s.present (linkRequester l) r).request p = s.request p := by
          intro p
          rw [State.request_present]
          split
          · next e => rw [← e, hq]
          · rfl
        exact c.transport (fun _ => rfl) c.onebusy (fun _ _ => .refl _ _ _) (fun m => same _) (same _) rfl rfl
          fun r'' h => c.sweeps r'' (by rw [same] at h; exact h)

theorem startAbort (c : Course s .idle) (v : VisitNo) : Course (s.startAbort v) .idle := by
  unfold State.startAbort
  split
  · exact c
  · next hh =>
    have hc : s.checkHeld v = false := by
      simp only [Bool.or_eq_true, not_or, Bool.not_eq_true] at hh
      exact hh.2
    split
    · next ha => exact c.presentAbort hc ha
    · split
      · next ha => exact c.presentAbort hc ha
      · exact c

end Course

/-! ### Receivers and replies (R187 to R189) -/

namespace Link

variable {k k' k'' : Link}

/-- A change of a line that leaves the item in flight. -/
def SameJob (k k' : Link) : Prop := k.OneBusy → k'.OneBusy ∧ k'.job = k.job

theorem SameJob.refl (k : Link) : SameJob k k := fun h => ⟨h, rfl⟩

theorem SameJob.trans (a : SameJob k k') (b : SameJob k' k'') : SameJob k k'' := fun h =>
  ⟨(b (a h).1).1, (b (a h).1).2.trans (a h).2⟩

theorem SameJob.of_buffers (ha : k'.bufA = k.bufA) (hb : k'.bufB = k.bufB) : SameJob k k' := by
  intro h
  unfold OneBusy job executing at *
  rw [ha, hb]
  exact ⟨h, rfl⟩

theorem beginTelegram_job (l : LinkNo) (t : Telegram) : bufferJob (beginTelegram l t) = none := bufferJob_onward l _

/-- Buffers with no item in flight put for buffers with none. -/
theorem sameJob_of_idle (ha : k'.bufA = k.bufA ∨ (bufferJob k.bufA = none ∧ bufferJob k'.bufA = none))
    (hb : k'.bufB = k.bufB ∨ (bufferJob k.bufB = none ∧ bufferJob k'.bufB = none))
    (h1 : k.OneBusy → k'.OneBusy) : SameJob k k' := by
  intro h
  refine ⟨h1 h, ?_⟩
  rw [job_eq_buffers h, job_eq_buffers (h1 h)]
  have ea : bufferJob k'.bufA = bufferJob k.bufA := ha.elim (fun e => by rw [e]) fun e => e.2.trans e.1.symm
  have eb : bufferJob k'.bufB = bufferJob k.bufB := hb.elim (fun e => by rw [e]) fun e => e.2.trans e.1.symm
  rw [ea, eb]

/-- The FILLING buffer replaced by one with no item in flight, which is busy only where no other is. -/
theorem putFilling_job (k : Link) {b : Buffer} (hj : bufferJob b = none)
    (hb : b.busy = true → k.bufA.busy = false ∧ k.bufB.busy = false) : SameJob k (k.putFilling b) := by
  unfold putFilling
  split
  · next hA =>
    refine sameJob_of_idle (.inr ⟨by rw [hA]; rfl, hj⟩) (.inl rfl) fun _ => ?_
    show (b.busy && k.bufB.busy) = false
    cases hbusy : b.busy
    · rfl
    · rw [(hb hbusy).2]
      rfl
  · next hB _ =>
    refine sameJob_of_idle (.inl rfl) (.inr ⟨by rw [hB]; rfl, hj⟩) fun _ => ?_
    show (k.bufA.busy && b.busy) = false
    cases hbusy : b.busy
    · exact Bool.and_false _
    · rw [(hb hbusy).1]
      rfl
  · exact .refl k

theorem drop_job (k : Link) (rx : RxState) : SameJob k (k.drop rx) :=
  (putFilling_job k (b := .empty) rfl nofun).trans (.of_buffers rfl rfl)

theorem accept_job (l : LinkNo) (k : Link) (t : Telegram) : SameJob k (accept l k t) := by
  unfold accept
  split
  · exact putFilling_job k rfl nofun
  · next h =>
    simp only [Bool.or_eq_true, not_or, Bool.not_eq_true] at h
    exact putFilling_job k (beginTelegram_job l t) fun _ => h

theorem received_job (l : LinkNo) (k : Link) (bs : List Byte) (f : Bool) : SameJob k (received l k bs f) := by
  have hfill : SameJob k (k.putFilling (.filling bs f)) := putFilling_job k rfl nofun
  unfold received
  simp only
  split
  · exact hfill
  · split
    · split
      · split
        · exact hfill.trans (drop_job _ _)
        · split
          · exact hfill.trans (drop_job _ _)
          · exact (hfill.trans (accept_job l _ _)).trans (.of_buffers rfl rfl)
      · exact hfill
    · split
      · exact hfill.trans (drop_job _ _)
      · exact hfill

theorem first_job (k : Link) (c : RxChar) : SameJob k (k.first c) := by
  unfold first
  split
  · next hA =>
    refine sameJob_of_idle (.inr ⟨by rw [hA]; rfl, rfl⟩) (.inl rfl) fun _ => rfl
  · split
    · next hB =>
      refine sameJob_of_idle (.inl rfl) (.inr ⟨by rw [hB]; rfl, rfl⟩) fun _ => ?_
      exact Bool.and_false _
    · exact .of_buffers rfl rfl

theorem rxChar_job (l : LinkNo) (k : Link) (c : RxChar) : SameJob k (rxChar l k c) := by
  unfold rxChar
  split
  · exact .refl k
  · exact first_job k c
  · split
    · exact .refl k
    · exact received_job l k _ _

theorem rxChars_job (l : LinkNo) (cs : List RxChar) (k : Link) : SameJob k (rxChars l k cs) := by
  induction cs generalizing k with
  | nil => exact .refl k
  | cons c cs ih => exact (rxChar_job l k c).trans (ih _)

theorem rxGap_job (k : Link) : SameJob k k.rxGap := by
  unfold rxGap
  split
  · exact .of_buffers rfl rfl
  · exact .of_buffers rfl rfl
  · exact drop_job k _

theorem wake_job (l : LinkNo) (k : Link) : SameJob k (wake l k) := by
  unfold wake
  split
  · next t hA =>
    split
    · exact .refl k
    · next hb =>
      refine sameJob_of_idle (.inr ⟨by rw [hA]; rfl, beginTelegram_job l t⟩) (.inl rfl) fun _ => ?_
      show (_ && k.bufB.busy) = false
      rw [Bool.not_eq_true] at hb
      rw [hb, Bool.and_false]
  · next t hB _ =>
    split
    · exact .refl k
    · next ha =>
      refine sameJob_of_idle (.inl rfl) (.inr ⟨by rw [hB]; rfl, beginTelegram_job l t⟩) fun _ => ?_
      show (k.bufA.busy && _) = false
      rw [Bool.not_eq_true] at ha
      rw [ha, Bool.false_and]
  · exact .refl k

theorem putReplying_job (k : Link) : SameJob k (k.putReplying .empty) := by
  unfold putReplying
  split
  · next hA => exact sameJob_of_idle (.inr ⟨by rw [hA]; rfl, rfl⟩) (.inl rfl) fun _ => rfl
  · next hB _ =>
    refine sameJob_of_idle (.inl rfl) (.inr ⟨by rw [hB]; rfl, rfl⟩) fun _ => ?_
    exact Bool.and_false _
  · exact .refl k

end Link

namespace Course

variable {s : State}

/-- A line whose item in flight stands. -/
theorem setLine (c : Course s .idle) {l : LinkNo} {k : Link} (hk : Link.SameJob (s.link l) k) :
    Course (s.setLink l k) .idle := by
  obtain ⟨hb, hj⟩ := hk (c.onebusy l)
  refine c.transport (fun m => ?_) (fun m => ?_) (fun _ _ => .refl _ _ _) (fun _ => rfl) rfl rfl rfl c.sweeps
  · rw [State.job_eq, State.job_eq]
    by_cases e : l = m
    · subst e
      rw [State.link_setLink_self, hj]
    · rw [State.link_setLink_ne _ _ e]
  · by_cases e : l = m
    · subst e
      rw [State.link_setLink_self]
      exact hb
    · rw [State.link_setLink_ne _ _ e]
      exact c.onebusy m

theorem changeLink (c : Course s .idle) (l : LinkNo) {f : Link → Link} (hf : ∀ k, Link.SameJob k (f k)) :
    Course (s.changeLink l f) .idle := by
  unfold State.changeLink
  split
  · exact c.setLine (hf _)
  · exact c

end Course

end Sys2Proof.Machine
end

section
/-! PROOFS. RECORDS in the course of a step: the items of every chapter and the Sweep Unit. -/

namespace Sys2Proof.Machine

/-- A change of the driver table leaves the visits. -/
theorem visit_of_eq {s t : State} (h : t = { s with drivers := t.drivers }) (v : VisitNo) : t.visit v = s.visit v := by
  rw [h]
  rfl

namespace Course

variable {s : State} {h : Hand} {l : LinkNo}

/-! ### The setup items (chapters 4, 7 and 12) -/

theorem unlessLocked (c : Course s (.item l)) {b : Bool} {f : State} (hf : Course f .idle) :
    Course (s.unlessLocked l b f) .idle := by
  unfold State.unlessLocked
  split
  · exact c.refuse _
  · split
    · exact c.refuse _
    · exact hf

theorem onRulesLoad (c : Course s (.item l)) (r : RuleSet) : Course (s.onRulesLoad l r) .idle := by
  have c' : Course (s.withRules (clampRules r)) (.item l) := c.of_rest rfl rfl rfl rfl rfl rfl
  exact c.unlessLocked ((c'.report rfl _).answer _ _)

theorem writeClasses (c : Course s (.item l)) (t : ClassTable) : Course (s.writeClasses t) (.item l) :=
  (c.setClasses t).report rfl _

theorem onBandLoad (c : Course s (.item l)) (band upper group permille litres : Nat) (p : Bool) :
    Course (s.onBandLoad l band upper group permille litres p) .idle := by
  unfold State.onBandLoad
  split
  · exact c.refuse _
  · exact c.unlessLocked ((c.writeClasses _).answer _ _)

theorem onSegLoad (c : Course s (.item l)) (a b m : Nat) : Course (s.onSegLoad l a b m) .idle := by
  unfold State.onSegLoad
  split
  · exact c.unlessLocked ((c.writeClasses _).answer _ _)
  · exact c.refuse _

theorem onChunkSize (c : Course s (.item l)) (n : Nat) : Course (s.onChunkSize l n) .idle :=
  c.unlessLocked ((c.writeClasses _).answer _ _)

theorem onServiceLoad (c : Course s (.item l)) (ns : List Nat) : Course (s.onServiceLoad l ns) .idle := by
  unfold State.onServiceLoad
  split
  · exact c.refuse _
  · split
    · exact c.refuse _
    · split
      · exact c.ask rfl rfl
      · exact c.refuse _

theorem onSettings (c : Course s (.item l)) (a b d : Option Nat) : Course (s.onSettings l a b d) .idle := by
  unfold State.onSettings
  split
  · refine Course.answer (Course.follow ?_) _ _
    exact c.of_rest rfl rfl rfl rfl rfl rfl
  · exact c.refuse _

theorem onIdentWrite (c : Course s (.item l)) (a : Option Nat) (b : Option (List Byte)) :
    Course (s.onIdentWrite l a b) .idle := by
  unfold State.onIdentWrite
  split
  · exact c.refuse _
  · exact (c.setCc _).answer _ _

theorem onStart (c : Course s (.item l)) : Course (s.onStart l) .idle := by
  unfold State.onStart
  split
  · exact c.answer _ _
  · split
    · exact (c.setCc _).answer _ _
    · exact c.refuse _

theorem onLock (c : Course s (.item l)) : Course (s.onLock l) .idle := by
  unfold State.onLock
  split
  · exact c.answer _ _
  · split
    · exact (c.setCc _).answer _ _
    · exact c.refuse _

theorem onKeep (c : Course s (.item l)) : Course (s.onKeep l) .idle := by
  unfold State.onKeep
  split
  · exact c.answer _ _
  · exact (c.setCc _).answer _ _

/-- A telegram's restart mark leaves its item in flight. -/
theorem markRestart (c : Course s (.item l)) {e : Execution} (he : s.executing l = some e) :
    Course (s.putExecuting l (.executing { e with restart := true })) (.item l) := by
  have a := SameBut.putExecuting l s (.executing { e with restart := true })
  have hj : (s.putExecuting l (.executing { e with restart := true })).job l = s.job l := by
    rw [State.job_putExecuting_self he]
    unfold State.job
    rw [he]
    rfl
  refine c.transport (fun m => ?_) (fun m => ?_) (fun _ _ => .refl _ _ _) (fun _ => rfl) rfl rfl rfl c.sweeps
  · by_cases hm : m = l
    · rw [hm, hj]
    · exact a.job hm
  · by_cases hm : m = l
    · rw [hm]
      exact a.onebusy (c.onebusy l)
    · rw [a.links m hm]
      exact c.onebusy m

theorem onRestart (c : Course s (.item l)) : Course (s.onRestart l) .idle := by
  unfold State.onRestart
  split
  · next he =>
    refine absurd ?_ (c.held l rfl).1
    unfold State.job
    rw [he]
    rfl
  · next e he => exact (c.markRestart he).answer _ _

theorem onNoteClear (c : Course s (.item l)) (clear : FlagWord) (mask : Option FlagWord) :
    Course (s.onNoteClear l clear mask) .idle := by
  have c' : Course (s.setLink l (State.clearNotes l (s.link l) clear mask)) (.item l) := c.setLink rfl rfl
  exact c'.answer _ _

/-! ### The Time Base (chapter 6) -/

theorem onSetTime (c : Course s (.item l)) (minute seconds : Nat) : Course (s.onSetTime l minute seconds) .idle := by
  unfold State.onSetTime
  split
  · exact c.refuse _
  · split
    · exact c.answer _ _
    · exact (c.setTime _).answer _ _

theorem onAdjustTime (c : Course s (.item l)) (n : Int) : Course (s.onAdjustTime l n) .idle := by
  unfold State.onAdjustTime
  split
  · exact (c.setTime _).answer _ _
  · exact c.refuse _

/-! ### Papers (chapter 5) -/

theorem addressed (c : Course s (.item l)) {b : Bool} {n tag : Nat} {f : VisitNo → State}
    (hf : ∀ v, (s.visit v).busy = false → Course (f v) .idle) : Course (s.addressed l b n tag f) .idle := by
  unfold State.addressed
  split
  · exact c.refuse _
  · split
    · exact c.refuse _
    · split
      · exact c.refuse _
      · split
        · exact c.refuse _
        · next hb => exact hf _ (by simpa using hb)

theorem openPaper (c : Course s (.item l)) {v : VisitNo} (hb : (s.visit v).busy = false) (x : Paper) :
    Course (s.openPaper v x) (.item l) := by
  refine (c.setVisit (v := v) (x := { s.visit v with paperState := .opened, paper := some x, accepted := 0 }) fun _ =>
    .inl ⟨rfl, rfl, rfl, fun ha => ?_⟩).report rfl (some v)
  rw [Visit.busy, ha] at hb
  simp at hb

theorem onPaperOpen (c : Course s (.item l)) (visit tag number p : Nat) (q e : Option Nat) (b : Bool) :
    Course (s.onPaperOpen l visit tag number p q e b) .idle :=
  c.addressed fun v hv => by
    split
    · exact c.refuse _
    · split
      · exact c.refuse _
      · split
        · exact c.refuse _
        · simp only
          split
          · exact (c.openPaper hv _).answer _ _
          · exact (c.openPaper hv _).ask rfl rfl

theorem endPaperItem (c : Course s (.item l)) (v : VisitNo) (d : List Byte) : Course (s.endPaperItem l v d) .idle :=
  (c.answer _ _).startAbort v

theorem paperReturned (c : Course s (.item l)) (v : VisitNo) (tag : Tag) (b : Bool) :
    Course (s.paperReturned l v tag b) .idle := by
  unfold State.paperReturned
  split
  · exact c.answer _ _
  · exact c.endPaperItem _ _

theorem decidePaper (c : Course s (.item l)) (v : VisitNo) (n : Nat) (b : Bool) :
    Course (s.decidePaper v n b) (.item l) := by
  have c' := (c.setVisit (v := v) (x := { s.visit v with paperState := State.paperAfter (s.visit v) n b }) fun _ =>
    .inl ⟨rfl, rfl, rfl, fun _ => rfl⟩).report rfl (some v)
  unfold State.decidePaper
  simp only
  split
  · exact c'
  · exact c'.raise _ _

theorem endLines (c : Course s (.item l)) (v : VisitNo) (m n : Nat) (b : Bool) :
    Course (s.endLines l v m n b) .idle := (c.decidePaper _ _ _).answer _ _

theorem placeLine (c : Course s (.item l)) (v : VisitNo) (tag : Tag) (x : PaperLine) (xs : List PaperLine)
    (m n : Nat) (b : Bool) : Course (s.placeLine l v tag x xs m n b) .idle := c.ask rfl rfl

theorem onPaperLines (c : Course s (.item l)) (visit tag : Nat) (xs : List PaperLine) :
    Course (s.onPaperLines l visit tag xs) .idle :=
  c.addressed fun v _ => by
    simp only
    split
    · exact c.refuse _
    · split
      · exact c.refuse _
      · split
        · exact c.refuse _
        · split
          · exact c.endLines _ _ _ _
          · exact c.placeLine _ _ _ _ _ _ _

theorem linePlaced (c : Course s (.item l)) (v : VisitNo) (tag : Tag) (xs : List PaperLine) (m n : Nat) (b : Bool) :
    Course (s.linePlaced l v tag xs m n b) .idle := by
  have c' := (c.setVisit (v := v) (x := { s.visit v with accepted := (s.visit v).accepted + 1 }) fun _ =>
    .inl ⟨rfl, rfl, rfl, fun _ => rfl⟩).report rfl (some v)
  unfold State.linePlaced
  split
  · simp only
    split
    · exact c'.endLines _ _ _ _
    · exact c'.placeLine _ _ _ _ _ _ _
  · exact c.endPaperItem _ _

theorem lineRefused (c : Course s (.item l)) (v : VisitNo) (tag : Tag) (n : Nat) :
    Course (s.lineRefused l v tag n) .idle := by
  unfold State.lineRefused
  split
  · exact c.answer _ _
  · exact c.endPaperItem _ _

/-! ### Bays (chapter 3) -/

theorem onBayAssign (c : Course s (.item l)) (visit tag bay : Nat) : Course (s.onBayAssign l visit tag bay) .idle :=
  c.addressed fun v _ => by
    split
    · exact c.refuse _
    · next b _ =>
      split
      · exact c.refuse _
      · next hst =>
        split
        · exact c.refuse _
        · have c' : Course (s.bindBay b v) (.item l) := by
            refine Course.setVisit (c.setWindow _ _) fun _ => Visit.follows_rests ?_ rfl (.inl rfl)
            have hst : (s.visit v).state = .arrived ∨ (s.visit v).state = .held := by tauto
            show (s.visit v).state.rests = true
            rcases hst with e | e <;> rw [e] <;> rfl
          exact c'.ask rfl rfl

theorem bayReady (c : Course s (.item l)) (b : BayIx) : Course (s.bayReady l b) .idle := (c.setWindow _ _).answer _ _

theorem bayRead (c : Course s (.item l)) (b : BayIx) (v : VisitNo) (tag : Tag) (a : ReadAnswer) :
    Course (s.bayRead l b v tag a) .idle := by
  unfold State.bayRead
  split
  · split
    · exact c.ask rfl rfl
    · exact c.bayReady _
    · exact c.refuse _
  · exact c.refuse _

theorem bayWritten (c : Course s (.item l)) (b : BayIx) (v : VisitNo) (tag : Tag) (n : Nat) (i : SlotRef)
    (next : Option SlotRef) (w : Bool) : Course (s.bayWritten l b v tag n i next w) .idle := by
  unfold State.bayWritten
  split
  · simp only
    split
    · exact Course.ask (c.setWindow _ _) rfl rfl
    · exact Course.bayReady (c.setWindow _ _) _
  · exact c.refuse _

theorem atBay (c : Course s (.item l)) {bay : Nat} {f : BayIx → Window → State} (hf : ∀ b w, Course (f b w) .idle) :
    Course (s.atBay l bay f) .idle := by
  unfold State.atBay
  split
  · exact c.refuse _
  · split
    · exact c.refuse _
    · exact hf _ _

theorem leaveBay (c : Course s (.item l)) (b : BayIx) {v : VisitNo} {st : VisitState}
    (hx : (s.visit v).state.rests = true) (hst : st.rests = true) : Course (s.leaveBay b v st) (.item l) :=
  Course.setVisit (c.setWindow _ _) fun _ => Visit.follows_rests hx hst (.inl rfl)

theorem onBayRelease (c : Course s (.item l)) (bay : Nat) : Course (s.onBayRelease l bay) .idle :=
  c.atBay fun b w => by
    split
    · next hst => exact (c.leaveBay b (by rw [hst]; rfl) (by split <;> rfl)).answer _ _
    · exact c.refuse _

theorem onLoadEnd (c : Course s (.item l)) (bay : Nat) : Course (s.onLoadEnd l bay) .idle :=
  c.atBay fun b w => by
    split
    · next hst => exact (c.leaveBay b (by rw [hst]; rfl) rfl).answer _ _
    · exact c.refuse _

theorem notMapped (c : Course s (.item l)) : Course (s.notMapped l) .idle := (c.raise _ _).refuse _

theorem onFill (c : Course s (.item l)) (bay comp product figure : Nat) :
    Course (s.onFill l bay comp product figure) .idle := by
  unfold State.onFill
  split
  · exact c.refuse _
  · split
    · exact c.refuse _
    · split
      · exact c.notMapped
      · exact c.ask rfl rfl

theorem fillRead (c : Course s (.item l)) (b : BayIx) (v : VisitNo) (tag : Tag) (i : SlotRef) (m n : Nat)
    (a : ReadAnswer) : Course (s.fillRead l b v tag i m n a) .idle := by
  unfold State.fillRead
  split
  · split
    · exact c.notMapped
    · split
      · exact c.refuse _
      · exact c.ask rfl rfl
  · exact c.notMapped

theorem fillWritten (c : Course s (.item l)) (v : VisitNo) (n : Nat) (a b w : Bool) :
    Course (s.fillWritten l v n a b w) .idle := by
  unfold State.fillWritten
  split
  · exact Course.answer (c.changeVisit fun hst _ => Visit.follows_rests (by rw [hst]; rfl) rfl (.inl rfl)) _ _
  · exact c.notMapped

/-! ### Drivers (chapter 7) -/

theorem admitDriver (c : Course s h) (w : ArriveWork) (cards : List Nat) (v : VisitNo) (card : Nat) (f : Figures) :
    Course (s.admitDriver w cards v card f).1 h := c.setDrivers (State.admitDriver_eq _ _ _ _ _ _)

theorem admitCo (c : Course s h) (w : ArriveWork) (cards : List Nat) (v : VisitNo) :
    Course (s.admitCo w cards v).1 h := c.setDrivers (State.admitCo_eq _ _ _ _)

theorem breakItem (c : Course s (.item l)) (e : EntryNo) (d : Driver) : Course (s.breakItem e d) (.item l) := by
  have c' : Course (s.setDriver e (some d)) (.item l) := c.of_rest rfl rfl rfl rfl rfl rfl
  unfold State.breakItem
  split
  · exact c'.report rfl _
  · exact c'

theorem atCard (c : Course s (.item l)) {card : Nat} {f : EntryNo → Driver → State}
    (hf : ∀ e d, Course (f e d) .idle) : Course (s.atCard l card f) .idle := by
  unfold State.atCard
  split
  · exact c.refuse _
  · split
    · exact c.refuse _
    · split
      · exact c.refuse _
      · split
        · exact c.refuse _
        · exact hf _ _

theorem onBreakStart (c : Course s (.item l)) (card : Nat) : Course (s.onBreakStart l card) .idle :=
  c.atCard fun _ _ => by
    split
    · exact c.answer _ _
    · exact (c.breakItem _ _).answer _ _

theorem onBreakEnd (c : Course s (.item l)) (card : Nat) : Course (s.onBreakEnd l card) .idle :=
  c.atCard fun _ _ => by
    split
    · exact (c.breakItem _ _).answer _ _
    · exact c.answer _ _

theorem onDriverRead (c : Course s (.item l)) (selector value : Nat) :
    Course (s.onDriverRead l selector value) .idle := by
  unfold State.onDriverRead
  split
  · split
    · exact c.refuse _
    · exact c.answer _ _
  · split
    · exact c.refuse _
    · exact c.answer _ _
  · exact c.refuse _

/-! ### Visits (chapters 2 and 9) -/

theorem placeCompartment (c : Course s (.item l)) (v : VisitNo) (w : ArriveWork) (k : Option Nat) :
    Course (s.placeCompartment l v w k) .idle := c.ask rfl rfl

theorem onArrive (c : Course s (.item l)) (tanker driver : Nat) (f : Figures) (co : Option CoDriver)
    (ks : List (Option Nat)) : Course (s.onArrive l tanker driver f co ks) .idle := by
  unfold State.onArrive
  split
  · exact c.refuse _
  · next v _ _ hv _ =>
    have hst : (s.visit v).state = .free := by simpa using List.find?_some hv
    exact Course.placeCompartment (c.setVisit fun _ => Visit.follows_rests (by rw [hst]; rfl) rfl (.inr rfl)) _ _ _
  · exact c.refuse _

theorem compartmentPlaced (c : Course s (.item l)) (v : VisitNo) (w : ArriveWork) :
    Course (s.compartmentPlaced l v w) .idle := by
  unfold State.compartmentPlaced
  split
  · exact c.placeCompartment _ _ _
  · unfold State.completeArrival
    simp only
    refine Course.answer (Course.setVisit ?_ fun _ => .inl ⟨?_, ?_, ?_, fun _ => ?_⟩) _ _
    · exact (c.admitDriver _ _ _ _ _).admitCo _ _ _
    all_goals rfl

theorem undoArrival (c : Course s (.item l)) (v : VisitNo) : Course (s.undoArrival l v) .idle := c.ask rfl rfl

theorem arrivalUndone (c : Course s (.item l)) (v : VisitNo) : Course (s.arrivalUndone l v) .idle :=
  Course.refuse (c.changeVisit fun hst _ => Visit.follows_rests (by rw [hst]; rfl) rfl (.inr rfl)) _

theorem onDispatch (c : Course s (.item l)) (visit tag : Nat) : Course (s.onDispatch l visit tag) .idle := by
  have join : ∀ v b, (s.visit v).state.rests = true → Course (if s.dcu.queue.length < Config.queuePlaces then
      (s.joinQueue v b).answer l .done (put8 (s.dcu.queue.length + 1)) else s.refuse l .queueFull) .idle := by
    intro v b hst
    split
    · refine Course.answer (Course.setQueue ?_ _) _ _
      exact c.setVisit fun _ => Visit.follows_rests hst rfl (.inl rfl)
    · exact c.refuse _
  refine c.addressed fun v _ => ?_
  split
  · next hst => exact join _ _ (by rw [hst]; rfl)
  · next hst => exact join _ _ (by rw [hst]; rfl)
  · exact c.answer _ _
  · exact c.answer _ _
  · exact c.refuse _

/-- No link ends a visit that is neither ABORTING nor RELEASING. -/
theorem unended (c : Course s (.item l)) {v : VisitNo} (ha : (s.visit v).state ≠ .aborting)
    (hr : (s.visit v).state ≠ .releasing) (m : LinkNo) (hm : m ≠ l) : ¬ EndsVisit s m v := fun he =>
  ((c.links m fun e => hm (Option.some.inj e).symm).ending he).elim ha hr

/-- The work of a release that presents one of its requests. -/
theorem askRelease (c : Course s (.item l)) {v : VisitNo} {q : Request} (hst : (s.visit v).state = .releasing)
    (hq : q = .splice (.comp v) .free ∨ q = .splice (.paper v) .free ∨
      q = .stamped v .released (s.visit v).passMinute)
    (alone : ∀ m, m ≠ l → ¬ EndsVisit s m v) : Course (s.ask l (.release v) q) .idle := by
  have hjob : (s.ask l (.release v) q).job l = some (.release v) := State.job_setJob_self (c.held l rfl).1 _
  have hreq : (s.ask l (.release v) q).request (linkRequester l) = some q := State.request_present_self _ _ _
  have hvisit : (s.ask l (.release v) q).visit v = s.visit v := (SameBut.ask l s _ q).visits v
  refine c.askEnding rfl ⟨fun h0 => ?_, fun w seq h0 => ?_, fun w h0 => ?_, fun r w h0 hp => ?_⟩ alone
  · rw [hjob] at h0
    cases h0
  · rw [hjob] at h0
    cases h0
  · rw [hjob] at h0
    cases h0
    rw [hvisit, hreq]
    exact ⟨hst, hq.imp (congrArg some) (Or.imp (congrArg some) (congrArg some))⟩
  · rw [hreq] at h0
    cases h0
    rcases hq with rfl | rfl | rfl
    · cases hp
    · cases hp
    · cases hp
      exact .inr hjob

theorem onGatePassed (c : Course s (.item l)) (visit tag code : Nat) :
    Course (s.onGatePassed l visit tag code) .idle := by
  unfold State.onGatePassed
  split
  · exact c.refuse _
  · next v _ =>
    split
    · exact c.refuse _
    · split
      · exact c.refuse _
      · next hp =>
        have hst : (s.visit v).state = .cleared := by
          by_contra hne
          unfold State.passRefusal at hp
          split at hp
          · cases hp
          · split at hp
            · cases hp
            · split at hp
              · cases hp
              · cases hp
        have hvisit : (s.commitTrip v).visit v = s.visit v := visit_of_eq (State.changeLinked_eq _ _ _ _) v
        have c' : Course (s.passAccepted v) (.item l) :=
          Course.setVisit (c.setDrivers (State.changeLinked_eq _ _ _ _)) fun _ => by
            show Visit.Follows v _ ((s.commitTrip v).visit v) _
            rw [hvisit]
            exact Visit.follows_cleared hst (.inl rfl) rfl
        refine c'.askRelease ?_ (.inl rfl) fun m hm he => ?_
        · rw [State.passAccepted, State.visit_setVisit_self]
        · have hlinks : (s.passAccepted v).job m = s.job m := by
            have e : (s.commitTrip v).links = s.links := by
              rw [show s.commitTrip v = _ from State.changeLinked_eq _ _ _ _]
            unfold State.passAccepted State.job State.executing State.link
            rw [State.setVisit_links, e]
          exact c.unended (by rw [hst]; decide) (by rw [hst]; decide) m hm ((endsVisit_congr hlinks v).1 he)

theorem onVisitRead (c : Course s (.item l)) (visit : Nat) (b : Bool) : Course (s.onVisitRead l visit b) .idle := by
  unfold State.onVisitRead
  split
  · exact c.refuse _
  · split
    · exact c.ask rfl rfl
    · exact c.answer _ _

theorem visitReadAnswered (c : Course s (.item l)) (v : VisitNo) (x : Visit) (got : List Compartment)
    (a : ReadAnswer) : Course (s.visitReadAnswered l v x got a) .idle := by
  unfold State.visitReadAnswered
  split
  · exact c.answer _ _
  · exact c.answer _ _
  · exact c.answer _ _
  · exact c.ask rfl rfl

/-- A request of EXPIRY is none of a link, the check or the sweep. -/
theorem expiryPresents (c : Course s h) : Course s.expiryPresents h := by
  unfold State.expiryPresents
  split
  · have other : ∀ p q, p ≠ .expiry → (s.present .expiry q).request p = s.request p := fun p q hp => by
      rw [State.request_present, if_neg (Ne.symm hp)]
    refine c.transport (fun _ => rfl) c.onebusy (fun _ _ => .refl _ _ _) (fun l => other _ _ ?_) (other _ _ (by decide)) rfl
      rfl fun r => ?_
    · cases l <;> simp [linkRequester]
    · rw [other _ _ (by decide)]
      exact c.sweeps r
  · exact c

theorem minuteEvent (c : Course s .idle) (n : Nat) : Course (s.minuteEvent n) .idle := by
  have c' : Course { s with visits := s.visits.map (State.lapseVisit n) } .idle := by
    refine c.transport (fun _ => rfl) c.onebusy (fun v _ => ?_) (fun _ => rfl) rfl rfl rfl c.sweeps
    have hv : ({ s with visits := s.visits.map (State.lapseVisit n) } : State).visit v =
        State.lapseVisit n (s.visit v) := tget_map _ _ _
    rw [hv]
    unfold State.lapseVisit
    split
    · next hl =>
      have hst : (s.visit v).state = .cleared := by
        unfold State.lapses at hl
        rw [Bool.and_eq_true] at hl
        exact beq_iff_eq.1 hl.1
      exact Visit.follows_cleared hst (.inr rfl) rfl
    · exact .refl _ _ _
  exact (c'.setLogs _).expiryPresents

/-! ### Logs (chapter 9) -/

theorem beginWalk (c : Course s (.item l)) (g : Gather) {j : Gather → Job} (hj : (j g).ends = none) :
    Course (s.beginWalk l g j) .idle := by
  unfold State.beginWalk
  split
  · exact c.refuse _
  · exact c.ask hj rfl

theorem takeRead (c : Course s (.item l)) (g : Gather) (a : ReadAnswer) : Course (s.takeRead l g a) .idle := by
  have stop : ∀ g : Gather, Course
      (if g.got.isEmpty then s.takeReply l g else s.ask l (.take g) (.headSplice g.log g.slots)) .idle := by
    intro g
    split
    · exact c.answer _ _
    · exact c.ask rfl rfl
  unfold State.takeRead
  split
  · exact c.ask rfl rfl
  · exact stop _
  · exact stop _

theorem taken (c : Course s (.item l)) (g : Gather) : Course (s.taken l g) .idle := Course.answer (c.setLogs _) _ _

theorem peekRead (c : Course s (.item l)) (g : Gather) (a : ReadAnswer) : Course (s.peekRead l g a) .idle := by
  unfold State.peekRead
  split
  · exact c.ask rfl rfl
  · exact c.answer _ _
  · exact c.answer _ _

theorem onStoreRead (c : Course s (.item l)) (n : Option Nat) : Course (s.onStoreRead l n) .idle := by
  unfold State.onStoreRead
  split
  · exact c.ask rfl rfl
  · split
    · exact c.refuse _
    · exact c.ask rfl rfl

/-! ### The Sweep Unit (chapter 10) -/

theorem setSweep (c : Course s h) (x : SweepUnit)
    (hx : ∀ r, x.deferred = some r → s.sweep.deferred = some r ∨ r.pendingOf = none) : Course (s.setSweep x) h :=
  c.transport (fun _ => rfl) c.onebusy (fun _ _ => .refl _ _ _) (fun _ => rfl) rfl rfl rfl fun r hr =>
    hr.elim (fun hr => c.sweeps r (.inl hr)) fun hr => (hx r hr).elim (fun hr => c.sweeps r (.inr hr)) id

theorem presentSweep (c : Course s h) {q : Request} (hq : q.pendingOf = none) : Course (s.present .sweep q) h := by
  have other : ∀ p, p ≠ .sweep → (s.present .sweep q).request p = s.request p := fun p hp => by
    rw [State.request_present, if_neg (Ne.symm hp)]
  refine c.transport (fun _ => rfl) c.onebusy (fun _ _ => .refl _ _ _)
    (fun l => other _ (linkRequester_ne_sweep l)) (other _ (by decide)) rfl rfl fun r hr => ?_
  rcases hr with hr | hr
  · rw [State.request_present_self] at hr
    cases hr
    exact hq
  · exact c.sweeps r (.inr hr)

theorem setSweepStatus (c : Course s h) (t : SweepStatus) : Course (s.setSweepStatus t) h :=
  c.setSweep _ fun _ hq => .inl hq

theorem setSweepWork (c : Course s h) (w : SweepWork) : Course (s.setSweepWork w) h :=
  c.setSweep _ fun _ hq => .inl hq

theorem sweepAsks (c : Course s h) (w : SweepWork) (m : ListId) (i : Option SlotRef) :
    Course (s.sweepAsks w (.read m i)) h := by
  unfold State.sweepAsks
  simp only
  split
  · exact (c.setSweepWork w).setSweep _ fun q hq => .inr (by cases hq; rfl)
  · exact (c.setSweepWork w).presentSweep rfl

theorem consider (c : Course s h) : Course s.consider h := by
  unfold State.consider
  split
  · exact c.sweepAsks _ _ _
  · exact c.setSweepWork _

theorem endSweep (c : Course s h) (st : SweepState) : Course (s.endSweep st) h :=
  Course.raise ((c.setSweepStatus _).setSweepWork _) _ _

theorem advanceSweep (c : Course s h) : Course s.advanceSweep h := by
  unfold State.advanceSweep
  simp only
  split
  · exact (c.setSweepStatus _).consider
  · exact c.endSweep _

theorem takeResult (c : Course s h) (x : Option Reason) : Course (s.takeResult x) h :=
  (c.setSweepStatus _).advanceSweep

theorem onSweepStart (c : Course s (.item l)) (a b d : Nat) : Course (s.onSweepStart l a b d) .idle := by
  unfold State.onSweepStart
  split
  · exact c.refuse _
  · split
    · exact c.refuse _
    · split
      · exact ((c.setSweepStatus _).raise _ _).answer _ _
      · split
        · exact c.refuse _
        · exact (c.setSweepStatus _).consider.answer _ _

theorem onSweepStop (c : Course s (.item l)) : Course (s.onSweepStop l) .idle := by
  unfold State.onSweepStop
  split
  · exact Course.answer ((c.endSweep _).setSweep _ fun _ hx => by cases hx) _ _
  · exact c.answer _ _

theorem recheckGoesOn (c : Course s h) (v : VisitNo) (tag : Tag) (j : Judge × Option Ask) :
    Course (s.recheckGoesOn v tag j) h := by
  unfold State.recheckGoesOn
  split
  · exact c.setSweepWork _
  · unfold State.recheckResult
    split
    · exact Course.takeResult (c.setVisit (v := v) (x := { s.visit v with recheckFail := decide (0 < j.1.count) })
        fun _ => .inl ⟨rfl, rfl, rfl, fun _ => rfl⟩) _
    · exact c.advanceSweep

theorem recheckRead (c : Course s h) (v : VisitNo) (tag : Tag) (j : Judge) (m : ListId) (a : ReadAnswer) :
    Course (s.recheckRead v tag j m a) h := by
  unfold State.recheckRead
  split
  · exact c.sweepAsks _ _ _
  · exact c.recheckGoesOn _ _ _
  · exact c.advanceSweep

theorem sweepRead (c : Course s h) (m : ListId) (a : ReadAnswer) : Course (s.sweepRead m a) h := by
  unfold State.sweepRead
  split
  · have c' : Course (s.setSweep { s.sweep with orphan := false, deferred := none }) h :=
      c.setSweep _ fun _ hx => by cases hx
    simp only
    split
    · next q hq => exact c'.presentSweep (c.sweeps q (.inr hq))
    · exact c'
  · split
    · exact c.setSweepWork _
    · exact c.recheckRead _ _ _ _ _
    · exact c

theorem entryRead (c : Course s h) : Course s.entryRead h := by
  unfold State.entryRead
  split
  · exact c.advanceSweep
  · split
    · exact c.advanceSweep
    · exact c.takeResult _

theorem contextRead (c : Course s h) : Course s.contextRead h := by
  unfold State.contextRead
  split
  · exact c.advanceSweep
  · split
    · exact c.sweepAsks _ _ _
    · exact c.advanceSweep

end Course

end Sys2Proof.Machine
end

section
/-! PROOFS. RECORDS in the course of a step: the grants of an abort, a release and a lapse (R34, R35, R38 to R41), and
the check in flight (R130 to R151). -/

namespace Sys2Proof.Machine

/-! ### What an abort's grants leave on the PENDING list (R40, R41) -/

/-- What a grant leaves of the PENDING list it is asked for. -/
def Request.leaves (rs : List Record) : Request → List Record
  | .stamped _ _ _ | .splice (.pend _) _ => []
  | .alloc (.pend _) _ x => rs ++ [x]
  | _ => rs

theorem pendingFits_cleared {x : Visit} {rs : List Record} {n : Nat} (hs : x.state = .aborting)
    (ha : x.abort = some ⟨true, n⟩) :
    PendingFits x rs ↔ (n = 0 ∧ AwaitsStamp rs) ∨ (1 ≤ n ∧ n ≤ 2 ∧ rs = []) := by
  unfold PendingFits
  rw [hs, ha]

theorem pendingFits_other {x : Visit} {rs : List Record} {n : Nat} (hs : x.state = .aborting)
    (ha : x.abort = some ⟨false, n⟩) :
    PendingFits x rs ↔ (n ≤ 2 ∧ (rs = [] ∨ ∃ k, Unstamped rs k)) ∨ (n = 3 ∧ rs = []) ∨ (n = 4 ∧ AwaitsStamp rs) := by
  unfold PendingFits
  rw [hs, ha]

theorem awaits_abortHead (v : VisitNo) (x : Visit) : AwaitsStamp [abortHead v x] :=
  ⟨⟨_, []⟩, rfl, rfl, rfl, rfl, rfl⟩

/-- The PENDING list after the grant of an abort's request fits the course with one more answered. -/
theorem abort_fits {v : VisitNo} {x : Visit} {k : AbortCourse} {r : Request} {rs : List Record}
    (hp : PendingFits x rs) (hs : x.state = .aborting) (ha : x.abort = some k) (hr : abortRequest v x k = some r) :
    (abortRequest v x { k with answered := k.answered + 1 } = none → r.leaves rs = []) ∧
      ∀ q, abortRequest v x { k with answered := k.answered + 1 } = some q →
        PendingFits { x with abort := some { k with answered := k.answered + 1 } } (r.leaves rs) := by
  obtain ⟨b, n⟩ := k
  cases b
  · rw [pendingFits_other hs ha] at hp
    have fits := fun n rs => pendingFits_other (x := { x with abort := some ⟨false, n⟩ }) (rs := rs) hs rfl
    rcases n with _ | _ | _ | _ | _ | n <;> simp only [abortRequest, Bool.false_eq_true, if_false] at hr <;> cases hr
    · exact ⟨fun h => (by cases h), fun q _ => (fits 1 _).2 (.inl ⟨by omega, by simpa [Request.leaves] using hp⟩)⟩
    · exact ⟨fun h => (by cases h), fun q _ => (fits 2 _).2 (.inl ⟨by omega, by simpa [Request.leaves] using hp⟩)⟩
    · exact ⟨fun h => (by cases h), fun q _ => (fits 3 _).2 (.inr (.inl ⟨rfl, rfl⟩))⟩
    · have hrs : rs = [] := by simpa using hp
      exact ⟨fun h => (by cases h), fun q _ => (fits 4 _).2 (.inr (.inr ⟨rfl, by rw [hrs]; exact awaits_abortHead v x⟩))⟩
    · exact ⟨fun _ => rfl, fun q h => by cases h⟩
  · rw [pendingFits_cleared hs ha] at hp
    have fits := fun n rs => pendingFits_cleared (x := { x with abort := some ⟨true, n⟩ }) (rs := rs) hs rfl
    rcases n with _ | _ | _ | n <;> simp only [abortRequest, if_true] at hr <;> cases hr
    · exact ⟨fun h => (by cases h), fun q _ => (fits 1 _).2 (.inr ⟨by omega, by omega, rfl⟩)⟩
    · exact ⟨fun h => (by cases h), fun q _ => (fits 2 _).2 (.inr ⟨by omega, by omega, by simpa [Request.leaves] using hp⟩)⟩
    · exact ⟨fun _ => by simpa [Request.leaves] using hp, fun q h => by cases h⟩

namespace Course

variable {s : State} {h : Hand} {l : LinkNo} {v : VisitNo}

/-- A visit comes into hand: no other item ends it and the DCU has no check of it. -/
theorem take {m : Option LinkNo} {b : Bool} (c : Course s ⟨m, b, none⟩) (alone : ∀ l, m ≠ some l → ¬ EndsVisit s l v)
    (hc : s.checkHeld v = false) : Course s ⟨m, b, some v⟩ := by
  refine ⟨fun w _ => c.pending w nofun, c.onebusy, c.links, c.single, c.held, fun w hw => ?_, c.checks, c.rests, c.sweeps⟩
  cases hw
  exact ⟨alone, hc⟩

/-- A visit in hand moves to a state that its PENDING list fits. -/
theorem moved {m : Option LinkNo} {b : Bool} (c : Course s ⟨m, b, some v⟩) {st : VisitState} {f : Visit → Visit}
    (hst : (s.visit v).state = st) (fits : PendingFits (f (s.visit v)) (s.store.recordsOn (.pend v))) :
    Course (s.changeVisit v st f) ⟨m, b, none⟩ := by
  unfold State.changeVisit
  rw [if_pos hst]
  refine Course.letGo (v := v) (c.setVisit fun hne => absurd rfl hne) ?_
  rw [State.visit_setVisit_self]
  exact fits

theorem freed {m : Option LinkNo} {b : Bool} (c : Course s ⟨m, b, some v⟩) {st : VisitState}
    (hst : (s.visit v).state = st) (hrs : s.store.recordsOn (.pend v) = []) : Course (s.freeFrom v st) ⟨m, b, none⟩ :=
  c.moved hst ((pendingFits_rests rfl).2 ⟨rfl, hrs⟩)

/-! ### The answers of an abort, a release and a lapse -/

theorem abortAnswered (c : Course s (.ends l v)) {k : AbortCourse} (hst : (s.visit v).state = .aborting)
    (hk : (s.visit v).abort = some k) (seq : Option Nat)
    (last : abortRequest v (s.visit v) { k with answered := k.answered + 1 } = none →
      s.store.recordsOn (.pend v) = [])
    (more : ∀ q, abortRequest v (s.visit v) { k with answered := k.answered + 1 } = some q →
      PendingFits { s.visit v with abort := some { k with answered := k.answered + 1 } }
        (s.store.recordsOn (.pend v))) :
    Course (s.abortAnswered l v seq) .idle := by
  unfold State.abortAnswered
  rw [hk]
  simp only
  split
  · next r hr =>
    have c' : Course (s.setVisit v { s.visit v with abort := some { k with answered := k.answered + 1 } }) (.item l) := by
      refine Course.letGo (v := v) (c.setVisit fun hne => absurd rfl hne) ?_
      rw [State.visit_setVisit_self]
      exact more r hr
    obtain ⟨halone, hheld⟩ := c.alone v rfl
    have hjob := State.job_setJob_self (c'.held l rfl).1 (.abort v seq)
    have same := SameBut.ask l (s.setVisit v { s.visit v with abort := some { k with answered := k.answered + 1 } })
      (.abort v seq) r
    have hvisit := same.visits v
    rw [State.visit_setVisit_self] at hvisit
    refine c'.askEnding rfl ⟨fun h0 => ?_, fun w seq' h0 => ?_, fun w h0 => ?_, fun q w h0 hp => ?_⟩ fun m hm he =>
      halone m (fun e => hm (Option.some.inj e).symm) ((endsVisit_congr rfl v).1 he)
    · cases hjob.symm.trans h0
    · cases hjob.symm.trans h0
      rw [hvisit]
      exact ⟨hst, _, rfl, .inr ⟨(same.checkHeld v).trans hheld, r, hr, State.request_present_self _ _ _⟩⟩
    · cases hjob.symm.trans h0
    · cases (State.request_present_self _ _ _).symm.trans h0
      rw [abortRequest_pendingOf hr hp]
      exact .inl ⟨seq, hjob⟩
  · next hr => exact (c.freed hst (last hr)).answer _ _

theorem abortUnrecorded (c : Course s (.ends l v)) (hst : (s.visit v).state = .aborting)
    (hrs : s.store.recordsOn (.pend v) = []) : Course (s.abortUnrecorded l v) .idle :=
  ((c.freed hst hrs).raise _ _).answer _ _

theorem endRelease (c : Course s (.ends l v)) (hst : (s.visit v).state = .releasing)
    (hrs : s.store.recordsOn (.pend v) = []) (seq : Option Nat) : Course (s.endRelease l v seq) .idle :=
  (c.freed hst hrs).answer _ _

theorem releaseReturned (c : Course s (.item l)) (hst : (s.visit v).state = .releasing)
    (alone : ∀ m, m ≠ l → ¬ EndsVisit s m v) (x : ListId) : Course (s.releaseReturned l v x) .idle := by
  unfold State.releaseReturned
  split
  · exact c.askRelease hst (.inr (.inl rfl)) alone
  · exact c.askRelease hst (.inr (.inr rfl)) alone

theorem lapsed (c : Course s (.lapse v)) (hst : (s.visit v).state = .lapsing) (hab : (s.visit v).abort = none)
    (hrs : s.store.recordsOn (.pend v) = []) : Course (s.lapsed v) .idle :=
  Course.expiryPresents (Course.raise (Course.setLogs (c.moved hst ((pendingFits_rests rfl).2 ⟨hab, hrs⟩)) _) _ _)

/-! ### The check in flight -/

/-- The DCU is IDLE: nothing in hand. -/
theorem idle_of_none (c : Course s .ofCheck) (hn : s.dcu.check = none) : Course s .idle :=
  ⟨c.pending, c.onebusy, c.links, c.single, c.held, c.alone, fun _ k hk => (by rw [hn] at hk; cases hk),
    fun _ => c.rests (.inl rfl), c.sweeps⟩

theorem abandoned (c : Course s .ofCheck) (k : Check) : Course (s.abandoned k) .idle :=
  (c.setCheck_none (c.rests (.inl rfl))).startAbort _

/-- A check ends: its visit goes to LOADED or HELD with nothing on its PENDING list, or to CLEARED with its record
(R152). -/
theorem endCheck (c : Course s .ofCheck) (k : Check) (r : CheckRecord) {st : VisitState} (cl : Option Clearance)
    (hst : st.rests = true ∧ s.store.recordsOn (.pend k.visit) = [] ∨
      st = .cleared ∧ AwaitsStamp (s.store.recordsOn (.pend k.visit))) : Course (s.endCheck k r st cl) .idle := by
  refine Course.raise (Course.setCheck_none (h := .ofCheck) ?_ ?_) _ _
  · refine c.changeVisit fun hs _ => .inr ⟨by rw [hs]; decide, by rw [hs]; decide, fun hp => ?_⟩
    have hab := Visit.fits_abort_none hp (by rw [hs]; decide)
    rcases hst with ⟨hst, hrs⟩ | ⟨rfl, ha⟩
    · exact (pendingFits_rests hst).2 ⟨hab, hrs⟩
    · unfold PendingFits
      rw [hab]
      exact ha
  · have e : (s.changeVisit k.visit .checking fun x =>
        { x with state := st, heldOrigin := false, lastCheck := some r, clearance := cl }).requests = s.requests := by
      unfold State.changeVisit
      split <;> rfl
    rw [State.request_congr e]
    exact c.rests (.inl rfl)

theorem endPass (c : Course s .ofCheck) (k : Check) (ha : AwaitsStamp (s.store.recordsOn (.pend k.visit))) :
    Course (s.endPass k) .idle :=
  Course.endCheck (Course.setLogs c _) k _ _ (.inr ⟨rfl, ha⟩)

/-- Answers to the DCU are taken by the check in flight, or discarded where it is abandoned (R147). -/
theorem checkTakes (c : Course s .ofCheck) {f : Check → State}
    (hf : ∀ k, s.dcu.check = some k → k.phase ≠ .abandon → Course (f k) .idle) : Course (s.checkTakes f) .idle := by
  unfold State.checkTakes
  split
  · next hn => exact c.idle_of_none hn
  · next k hk =>
    split
    · exact c.abandoned k
    · next hp => exact hf k hk hp

/-- In READ and JUDGE a check marked stale ends RETRY (R146). -/
theorem checkJudges (c : Course s .ofCheck) {f : Check → State}
    (empty : ∀ k, s.dcu.check = some k → k.phase ≠ .abandon → s.store.recordsOn (.pend k.visit) = [])
    (hf : ∀ k, s.dcu.check = some k → k.phase ≠ .abandon → k.stale = false → Course (f k) .idle) :
    Course (s.checkJudges f) .idle :=
  c.checkTakes fun k hk hp => by
    split
    · exact c.endCheck k _ _ (.inl ⟨rfl, empty k hk hp⟩)
    · next hst => exact hf k hk hp (by simpa using hst)

end Course

theorem unstamped_append {rs : List Record} {n : Nat} (h : Unstamped rs (n + 1)) (k : LogComp) :
    Unstamped (rs ++ [.logComp k]) n := by
  obtain ⟨r, rfl, hs, ho, hc⟩ := h
  refine ⟨⟨r.head, r.comps ++ [k]⟩, by simp [LogRecord.slots], hs, ho, ?_⟩
  simp only [List.length_append, List.length_singleton]
  omega

theorem unstamped_head {h : LogHead} (hs : h.seq = none) (ho : h.outcome = none) : Unstamped [.logHead h] h.compCount :=
  ⟨⟨h, []⟩, rfl, hs, ho, by simp⟩

theorem unstamped_chain {st : Store} {l : ListId} {n : Nat} (h : Unstamped (st.recordsOn l) n) :
    ∃ i is, ∃ k : LogHead, st.chain l = i :: is ∧ (st.slot i).record = .logHead k := by
  obtain ⟨r, hr, _⟩ := h
  obtain ⟨i, is, hch, hi, _⟩ := List.map_eq_cons_iff.1 hr
  exact ⟨i, is, r.head, hch, hi⟩

/-- What the check in flight may have waiting at the store (R130). -/
theorem CheckSound.requests {s : State} {c : Check} (hs : CheckSound s c) {q : Request}
    (hq : s.request .check = some q) :
    ((∃ l i, q = .read l i) ∧ (c.phase = .read ∨ c.phase = .abandon)) ∨
      (Building s c ∧ (c.phase = .build ∨ c.phase = .abandon)) ∨
      (q = .splice (.pend c.visit) .free ∧ (c.phase = .unwind ∨ c.phase = .abandon)) := by
  cases hp : c.phase with
  | read =>
    obtain ⟨_, ⟨l, i, hr⟩, _⟩ := hs.reads hp
    rw [hr] at hq
    exact .inl ⟨⟨l, i, (Option.some.inj hq).symm⟩, .inl rfl⟩
  | judge =>
    rw [(hs.judges hp).2.1] at hq
    cases hq
  | build => exact .inr (.inl ⟨(hs.builds hp).2.2, .inl rfl⟩)
  | unwind =>
    rw [(hs.unwinds hp).2.2] at hq
    exact .inr (.inr ⟨(Option.some.inj hq).symm, .inl rfl⟩)
  | abandon =>
    obtain ⟨_, _, ⟨_, hn⟩ | ⟨_, ⟨l, i, hr⟩ | hb | hr⟩⟩ := hs.leaves hp
    · rw [hn] at hq
      cases hq
    · rw [hr] at hq
      exact .inl ⟨⟨l, i, (Option.some.inj hq).symm⟩, .inr rfl⟩
    · exact .inr (.inl ⟨hb, .inr rfl⟩)
    · rw [hr] at hq
      exact .inr (.inr ⟨(Option.some.inj hq).symm, .inr rfl⟩)

/-- A check that has asked a question of its own waits for nothing at the store. -/
theorem CheckSound.wonders {s : State} {c : Check} (hs : CheckSound s c) (ha : c.ask ≠ none) :
    s.request .check = none ∧ (c.phase ≠ .abandon → c.build = [] ∧ s.store.chain (.pend c.visit) = []) := by
  cases hp : c.phase with
  | read => exact absurd (hs.reads hp).1 ha
  | judge =>
    obtain ⟨_, hr, hch⟩ := hs.judges hp
    refine ⟨hr, fun _ => ⟨?_, hch⟩⟩
    rw [hs.build, hch]
    rfl
  | build => exact absurd (hs.builds hp).1 ha
  | unwind => exact absurd (hs.unwinds hp).1 ha
  | abandon =>
    obtain ⟨_, _, ⟨_, hn⟩ | ⟨hn, _⟩⟩ := hs.leaves hp
    · exact ⟨hn, fun hne => absurd rfl hne⟩
    · exact absurd hn ha

/-- A check that waits for a question of its own to be answered, or for a read, with nothing built. -/
theorem CheckSound.of_judge {s : State} {c : Check} (hp : c.phase = .judge) (ha : c.ask ≠ none) (hb : c.build = [])
    (hr : s.request .check = none) (hch : s.store.chain (.pend c.visit) = []) : CheckSound s c := by
  refine ⟨by rw [hb, hch]; rfl, fun e => ?_, fun _ => ⟨ha, hr, hch⟩, fun e => ?_, fun e => ?_, fun e => ?_⟩ <;>
    (rw [hp] at e; cases e)

theorem CheckSound.of_read {s : State} {c : Check} (hp : c.phase = .read) (ha : c.ask = none) (hb : c.build = [])
    (hr : ∃ l i, s.request .check = some (.read l i)) (hch : s.store.chain (.pend c.visit) = []) : CheckSound s c := by
  refine ⟨by rw [hb, hch]; rfl, fun _ => ⟨ha, hr, hch⟩, fun e => ?_, fun e => ?_, fun e => ?_, fun e => ?_⟩ <;>
    (rw [hp] at e; cases e)

theorem CheckSound.of_build {s : State} {c : Check} (hp : c.phase = .build) (ha : c.ask = none) (hst : c.stale = false)
    (hb : c.build = (s.store.chain (.pend c.visit)).map s.store.ref) (hw : Building s c) : CheckSound s c := by
  refine ⟨hb, fun e => ?_, fun e => ?_, fun _ => ⟨ha, hst, hw⟩, fun e => ?_, fun e => ?_⟩ <;> (rw [hp] at e; cases e)

theorem CheckSound.of_unwind {s : State} {c : Check} (hp : c.phase = .unwind) (ha : c.ask = none)
    (hst : c.stale = false) (hb : c.build = (s.store.chain (.pend c.visit)).map s.store.ref)
    (hr : s.request .check = some (.splice (.pend c.visit) .free)) : CheckSound s c := by
  refine ⟨hb, fun e => ?_, fun e => ?_, fun e => ?_, fun _ => ⟨ha, hst, hr⟩, fun e => ?_⟩ <;> (rw [hp] at e; cases e)

namespace Course

variable {s : State} {k₀ : Check}

/-- BUILD begins (R148). -/
theorem beginBuild (c : Course s .ofCheck) (hk : s.dcu.check = some k₀) {k : Check} (hv : k.visit = k₀.visit)
    (hb : k.build = []) (hst : k.stale = false) (hch : s.store.chain (.pend k.visit) = []) :
    Course (s.beginBuild k) .idle := by
  refine c.checkAsks (k' := { k with phase := .build, ask := none, left := k.judge.loadedComps }) hk hv
    (CheckSound.of_build rfl rfl hst ?_ (.inl ⟨_, State.request_present_self _ _ _, ?_, rfl, rfl, rfl⟩))
  · show k.build = (s.store.chain (.pend k.visit)).map _
    rw [hb, hch]
    rfl
  · show (s.store.chain (.pend k.visit)).map _ = []
    rw [hch]
    rfl

theorem decideOutcome (c : Course s .ofCheck) (hk : s.dcu.check = some k₀) {k : Check} (hv : k.visit = k₀.visit)
    (hb : k.build = []) (hst : k.stale = false) (hch : s.store.chain (.pend k.visit) = []) :
    Course (s.decideOutcome k) .idle := by
  unfold State.decideOutcome
  split
  · exact c.endCheck k _ _ (.inl ⟨rfl, by unfold Store.recordsOn; rw [hch]; rfl⟩)
  · exact c.beginBuild hk hv hb hst hch

theorem judgeGoesOn (c : Course s .ofCheck) (hk : s.dcu.check = some k₀) {k : Check} (hv : k.visit = k₀.visit)
    (hb : k.build = []) (hst : k.stale = false) (hch : s.store.chain (.pend k.visit) = []) (j : Judge × Option Ask) :
    Course (s.judgeGoesOn k j) .idle := by
  have hr := c.rests (.inl rfl)
  unfold State.judgeGoesOn
  simp only
  split
  · exact c.checkWonders hk hv (CheckSound.of_judge rfl nofun hb hr hch)
  · split
    · exact c.decideOutcome hk hv hb hst hch
    · exact c.checkWonders hk hv (CheckSound.of_judge rfl nofun hb hr hch)

/-- The answer of a read of the walk; MOVED is taken in ABANDON or with the stale mark alone (R132). -/
theorem checkRead (c : Course s .ofCheck) (m : ListId) (a : ReadAnswer) (hlost : s.checkReadLost a = false)
    (reading : ∀ k, s.dcu.check = some k → k.phase ≠ .abandon → k.phase = .read ∧ k.ask = none ∧ k.build = [] ∧
      s.store.chain (.pend k.visit) = []) : Course (s.checkRead m a) .idle := by
  refine c.checkJudges (fun k hk hp => ?_) fun k hk hp hst => ?_
  · unfold Store.recordsOn
    rw [(reading k hk hp).2.2.2]
    rfl
  · obtain ⟨hph, ha, hb, hch⟩ := reading k hk hp
    split
    · next j _ _ _ => exact c.checkAsks (k' := { k with judge := j }) hk rfl (CheckSound.of_read hph ha hb ⟨_, _, State.request_present_self _ _ _⟩ hch)
    · exact c.judgeGoesOn hk rfl hb hst hch _
    · next hm =>
      have hmoved : a = .moved := by
        unfold walk at hm
        split at hm
        · rfl
        · unfold walkNext at hm
          split at hm <;> cases hm
        · unfold walkNext at hm
          split at hm <;> cases hm
        · cases hm
      unfold State.checkReadLost at hlost
      rw [hk] at hlost
      simp [hmoved, hst, hp] at hlost

/-- The answer of an allocation of BUILD (R148, R151): what is built, and what it leaves to place. -/
theorem checkAlloc_some (c : Course s .ofCheck) (r : SlotRef)
    (built : ∀ k, s.dcu.check = some k → k.phase ≠ .abandon → k.phase = .build ∧ k.ask = none ∧ k.stale = false ∧
      k.build ++ [r] = (s.store.chain (.pend k.visit)).map s.store.ref ∧
      Unstamped (s.store.recordsOn (.pend k.visit)) k.left.length) : Course (s.checkAlloc (some r)) .idle := by
  refine c.checkTakes fun k hk hp => ?_
  obtain ⟨hph, ha, hst, hb, hu⟩ := built k hk hp
  unfold State.buildGoesOn
  simp only
  split
  · next w ws hl =>
    rw [hl] at hu
    refine c.checkAsks (k' := { k with build := k.build ++ [r], left := ws }) hk rfl (CheckSound.of_build hph ha hst hb (.inr (.inl ⟨_, State.request_present_self _ _ _, hu⟩)))
  · next hl =>
    rw [hl] at hu
    obtain ⟨i, is, _, hch, _⟩ := unstamped_chain hu
    have hhead : (k.build ++ [r]).headD r = s.store.ref i := by
      rw [hb, hch]
      rfl
    refine c.checkAsks (k' := { k with build := k.build ++ [r] }) hk rfl (CheckSound.of_build hph ha hst hb (.inr (.inr ⟨i, s.now, ?_, ?_, hl, hu⟩)))
    · rw [State.request_present_self, hhead]
      rfl
    · show (s.store.chain (.pend k.visit)).head? = some i
      rw [hch]
      rfl

/-- A refused build unwinds (R151). -/
theorem beginUnwind (c : Course s .ofCheck) {k : Check} (hk : s.dcu.check = some k) (ha : k.ask = none)
    (hst : k.stale = false) (hb : k.build = (s.store.chain (.pend k.visit)).map s.store.ref) :
    Course (s.beginUnwind k) .idle :=
  c.checkAsks (k' := { k with phase := .unwind }) hk rfl (CheckSound.of_unwind rfl ha hst hb (State.request_present_self _ _ _))

end Course

end Sys2Proof.Machine
end

section
/-! PROOFS. RECORDS in the course of a step: VISIT_ABORT (R38, R39, R147). -/

namespace Sys2Proof.Machine

theorem Building.waiting {s : State} {k : Check} (h : Building s k) : s.request .check ≠ none := by
  rcases h with ⟨_, hr, _⟩ | ⟨_, hr, _⟩ | ⟨_, _, hr, _⟩ <;> rw [hr] <;> exact Option.some_ne_none _

/-- An abandoned check waits for what it waited for (R147). -/
theorem CheckSound.abandons {s : State} {k : Check} (hs : CheckSound s k)
    (hst : (s.visit k.visit).state = .aborting) (hab : (s.visit k.visit).abort = some ⟨false, 0⟩) :
    s.checkWaits k = true ∧ CheckSound s { k with phase := .abandon, abandon := true } := by
  have leaving : ((k.ask ≠ none ∧ s.request .check = none) ∨ (k.ask = none ∧ ((∃ l i, s.request .check = some (.read l i)) ∨
      Building s k ∨ s.request .check = some (.splice (.pend k.visit) .free)))) →
      s.checkWaits k = true ∧ CheckSound s { k with phase := .abandon, abandon := true } := by
    intro hw
    refine ⟨?_, hs.build, fun e => ?_, fun e => ?_, fun e => ?_, fun e => ?_, fun _ => ⟨hst, hab, hw⟩⟩
    · unfold State.checkWaits
      rw [Bool.or_eq_true, Option.isSome_iff_ne_none, Option.isSome_iff_ne_none]
      rcases hw with ⟨ha, _⟩ | ⟨_, ⟨_, _, hr⟩ | hb | hr⟩
      · exact .inr ha
      · exact .inl (by rw [hr]; exact Option.some_ne_none _)
      · exact .inl hb.waiting
      · exact .inl (by rw [hr]; exact Option.some_ne_none _)
    all_goals cases e
  cases hp : k.phase with
  | read =>
    obtain ⟨ha, hr, _⟩ := hs.reads hp
    exact leaving (.inr ⟨ha, .inl hr⟩)
  | judge =>
    obtain ⟨ha, hr, _⟩ := hs.judges hp
    exact leaving (.inl ⟨ha, hr⟩)
  | build =>
    obtain ⟨ha, _, hb⟩ := hs.builds hp
    exact leaving (.inr ⟨ha, .inr (.inl hb)⟩)
  | unwind =>
    obtain ⟨ha, _, hr⟩ := hs.unwinds hp
    exact leaving (.inr ⟨ha, .inr (.inr hr)⟩)
  | abandon => exact leaving (hs.leaves hp).2.2

/-- What an abort leaves of a PENDING list as it is accepted (R38, R43). -/
theorem Visit.follows_aborting {v : VisitNo} {rs : List Record} {x : Visit} (ha : x.state ≠ .aborting)
    (hb : x.busy = false) :
    x.Follows v rs { x with state := .aborting, clearance := none, abort := some ⟨x.state == .cleared, 0⟩ } := by
  refine .inr ⟨ha, fun e => by rw [Visit.busy, e] at hb; simp at hb, fun hp => ?_⟩
  have h0 := Visit.fits_abort_none hp ha
  cases hst : x.state with
  | cleared =>
    refine (pendingFits_cleared (n := 0) rfl rfl).2 (.inl ⟨rfl, ?_⟩)
    unfold PendingFits at hp
    rwa [hst, h0] at hp
  | checking =>
    refine (pendingFits_other (n := 0) rfl rfl).2 (.inl ⟨by omega, ?_⟩)
    unfold PendingFits at hp
    rwa [hst, h0] at hp
  | aborting => exact absurd hst ha
  | releasing =>
    rw [Visit.busy, hst] at hb
    simp at hb
  | lapsing =>
    rw [Visit.busy, hst] at hb
    simp at hb
  | _ => exact (pendingFits_other (n := 0) rfl rfl).2 (.inl ⟨by omega, .inl ((pendingFits_rests (by rw [hst]; rfl)).1 hp).2⟩)

namespace State

theorem abandonCheck_eq (s : State) (v : VisitNo) : s.abandonCheck v = s.setDcu (s.abandonCheck v).dcu := by
  unfold abandonCheck
  split
  · rfl
  · split
    · split <;> rfl
    · rfl

theorem job_abortAccepted (s : State) (v : VisitNo) (l : LinkNo) : (s.abortAccepted v).job l = s.job l := by
  have hrel : s.releaseDrivers v = { s with drivers := (s.releaseDrivers v).drivers } := changeLinked_eq _ _ _ _
  unfold abortAccepted
  simp only
  rw [abandonCheck_eq, hrel]
  rfl

theorem visit_abortAccepted_self (s : State) (v : VisitNo) : (s.abortAccepted v).visit v =
    { s.visit v with state := .aborting, clearance := none, abort := some ⟨(s.visit v).state == .cleared, 0⟩ } := by
  unfold abortAccepted
  simp only
  rw [abandonCheck_eq]
  exact visit_setVisit_self _ _ _

end State

namespace Course

variable {s : State} {l : LinkNo}

theorem abandonCheck {h : Hand} (c : Course s h) (hc : h.check = false) {v : VisitNo}
    (hv : ∀ k, s.dcu.check = some k → k.visit = v →
      (s.visit v).state = .aborting ∧ (s.visit v).abort = some ⟨false, 0⟩) : Course (s.abandonCheck v) h := by
  unfold State.abandonCheck
  split
  · exact c
  · next k hk =>
    split
    · next e =>
      obtain ⟨hst, hab⟩ := hv k hk e
      obtain ⟨hw, hs⟩ := (c.checks hc k hk).abandons (e ▸ hst) (e ▸ hab)
      rw [if_pos hw]
      exact c.setCheck (k' := { k with phase := .abandon, abandon := true }) hk rfl fun _ => hs
    · exact c

theorem abortAccepted (c : Course s (.item l)) {v : VisitNo} (hb : (s.visit v).busy = false)
    (hq : ∀ k, s.dcu.check = some k → k.phase ≠ .abandon → (s.visit k.visit).state = .checking) :
    Course (s.abortAccepted v) (.item l) := by
  have hna : (s.visit v).state ≠ .aborting := fun e => by rw [Visit.busy, e] at hb; simp at hb
  have hrel : s.releaseDrivers v = { s with drivers := (s.releaseDrivers v).drivers } := State.changeLinked_eq _ _ _ _
  have hvisit : (s.releaseDrivers v).visit v = s.visit v := visit_of_eq hrel v
  have hcheck : (s.releaseDrivers v).dcu = s.dcu := by rw [hrel]
  have c1 : Course ((s.releaseDrivers v).setVisit v { s.visit v with
      state := .aborting, clearance := none, abort := some ⟨(s.visit v).state == .cleared, 0⟩ }) (.item l) :=
    (c.setDrivers hrel).setVisit fun _ => by
      rw [hvisit]
      exact Visit.follows_aborting hna hb
  have c2 : Course (((s.releaseDrivers v).setVisit v { s.visit v with
      state := .aborting, clearance := none, abort := some ⟨(s.visit v).state == .cleared, 0⟩ }).unbind v) (.item l) :=
    c1.of_rest rfl rfl rfl rfl rfl rfl
  refine (c2.setQueue _).abandonCheck rfl fun k hk e => ?_
  have hk0 : s.dcu.check = some k := by
    rw [← hcheck]
    exact hk
  have hph : k.phase ≠ .abandon := fun hp => hna (e ▸ ((c.checks rfl k hk0).leaves hp).1)
  have hchk : (s.visit v).state = .checking := e ▸ hq k hk0 hph
  show (State.visit (State.setVisit _ _ _) v).state = _ ∧ (State.visit (State.setVisit _ _ _) v).abort = _
  rw [State.visit_setVisit_self, hchk]
  exact ⟨rfl, rfl⟩

/-- VISIT_ABORT (R38, R39). -/
theorem onVisitAbort (c : Course s (.item l)) (visit tag : Nat)
    (hq : ∀ k, s.dcu.check = some k → k.phase ≠ .abandon → (s.visit k.visit).state = .checking) :
    Course (s.onVisitAbort l visit tag) .idle := by
  refine c.addressed fun v hb => ?_
  split
  · exact c.refuse _
  · have hna : (s.visit v).state ≠ .aborting := fun e => by rw [Visit.busy, e] at hb; simp at hb
    have hnr : (s.visit v).state ≠ .releasing := fun e => by rw [Visit.busy, e] at hb; simp at hb
    have c' := c.abortAccepted hb hq
    have same := SameBut.setJob l (s.abortAccepted v) (.abort v none)
    have hjob := State.job_setJob_self (c'.held l rfl).1 (.abort v none)
    have hreq : ((s.abortAccepted v).setJob l (.abort v none)).request (linkRequester l) = none := by
      rw [State.setJob_eq]
      exact (c'.held l rfl).2
    refine Course.startAbort (c'.closes same ⟨fun _ => hreq, fun w seq h0 => ?_, fun w h0 => ?_, fun r w h0 _ => ?_⟩
      fun w m he hm hf => ?_) v
    · cases hjob.symm.trans h0
      rw [same.visits v, State.visit_abortAccepted_self]
      exact ⟨rfl, _, rfl, .inl ⟨rfl, hreq⟩⟩
    · cases hjob.symm.trans h0
    · cases hreq.symm.trans h0
    · obtain ⟨j, hj, hw⟩ := endsVisit_iff.1 he
      cases hjob.symm.trans hj
      cases hw
      exact c.unended hna hnr m hm ((endsVisit_congr (State.job_abortAccepted s v m) v).1 hf)

end Course

end Sys2Proof.Machine
end

section
/-! PROOFS. RECORDS over every command away from the store's grants and the resets. -/

namespace Sys2Proof.Machine

namespace Course

variable {s : State}

/-! ### Questions of the check in flight (R130, R131) -/

/-- A check that waits for nothing at the store comes into hand. -/
theorem openCheck (c : Course s .idle) (hr : s.request .check = none) : Course s .ofCheck :=
  ⟨c.pending, c.onebusy, c.links, c.single, c.held, c.alone, nofun, fun _ => hr, c.sweeps⟩

/-- The answer to a question of the check in flight. -/
theorem questionAnswered (c : Course s .idle) {k : Check} (hk : s.dcu.check = some k) (ha : k.ask ≠ none)
    {f : Check → State}
    (hf : Course s.checkAnswered .ofCheck → k.stale = false → k.build = [] →
      s.checkAnswered.store.chain (.pend k.visit) = [] → Course (f { k with ask := none }) .idle) :
    Course (s.checkAnswered.checkJudges f) .idle := by
  obtain ⟨hr, hempty⟩ := (c.checks rfl k hk).wonders ha
  have hans : s.checkAnswered = s.setCheck (some { k with ask := none }) := by
    unfold State.checkAnswered
    rw [hk]
  have c' : Course s.checkAnswered .ofCheck := by
    rw [hans]
    exact (c.openCheck hr).setCheck (k' := { k with ask := none }) hk rfl nofun
  have hk' : s.checkAnswered.dcu.check = some { k with ask := none } := by
    rw [hans]
    rfl
  have hstore : s.checkAnswered.store = s.store := by
    rw [hans]
    rfl
  refine c'.checkJudges (fun k' h hp => ?_) fun k' h hp hst => ?_ <;> cases hk'.symm.trans h
  · unfold Store.recordsOn
    rw [hstore, (hempty hp).2]
    rfl
  · exact hf c' hst (hempty hp).1 (hstore ▸ (hempty hp).2)

/-- The visit at the head of the queue, CHECKING before its check is set up (R131). -/
theorem beginsChecking (c : Course s .idle) {v : VisitNo} (hst : (s.visit v).state = .queued) :
    Course (s.changeVisit v .queued fun x => { x with state := .checking }) .idle := by
  have hp := (pendingFits_rests (by rw [hst]; rfl)).1 (c.pending v nofun)
  refine c.changeVisit fun _ _ => .inr ⟨by rw [hst]; decide, by rw [hst]; decide, fun _ => ?_⟩
  show PendingFits { s.visit v with state := .checking } _
  unfold PendingFits
  rw [hp.1]
  exact .inl hp.2

/-- A check is set up of a visit that no item ends, in a part with none in flight (R131, R132). -/
theorem setUpCheck (c : Course s .idle) {v : VisitNo} (hst : (s.visit v).state = .checking)
    (hch : s.store.chain (.pend v) = []) (queue : List VisitNo) (x : Visit) :
    Course ((s.setDcu { queue, check := some (Check.taken v x) }).present .check (.read (.paper v) none)) .idle := by
  have other : ∀ p, p ≠ .check →
      ((s.setDcu { queue, check := some (Check.taken v x) }).present .check (.read (.paper v) none)).request p =
        s.request p := fun p hp => by
    rw [State.request_present, if_neg (Ne.symm hp)]
    rfl
  refine ⟨c.pending, c.onebusy, fun l _ => (c.links l nofun).congr rfl (other _ (linkRequester_ne_check l))
    (fun _ _ => .refl _ _) fun w he _ => ?_, c.single, nofun, nofun, fun _ k hk => ?_, fun hn => ?_, fun r => ?_⟩
  · show (v == w) = false
    rw [beq_eq_false_iff_ne]
    rintro rfl
    rcases (c.links l nofun).ending he with h | h <;> rw [hst] at h <;> cases h
  · cases hk
    exact CheckSound.of_read rfl rfl rfl ⟨_, _, State.request_present_self _ _ _⟩ hch
  · rcases hn with hn | hn <;> cases hn
  · rw [other _ (by decide)]
    exact c.sweeps r

/-- R131, R132: the DCU takes the head of its queue. -/
theorem checkTake (c : Course s .idle) {v : VisitNo} (hst : (s.visit v).state = .queued) (queue : List VisitNo) :
    Course (((s.changeVisit v .queued fun x => { x with state := .checking }).setDcu
      { queue, check := some (Check.taken v (s.visit v)) }).present .check (.read (.paper v) none)) .idle := by
  have hp := (pendingFits_rests (by rw [hst]; rfl)).1 (c.pending v nofun)
  have he : s.changeVisit v .queued (fun x => { x with state := .checking }) =
      s.setVisit v { s.visit v with state := .checking } := if_pos hst
  have c1 := c.beginsChecking hst
  rw [he] at c1 ⊢
  exact c1.setUpCheck (by rw [State.visit_setVisit_self]) (List.map_eq_nil_iff.1 hp.2) queue _

end Course

/-! ### Commands away from the store -/

/-- A question that the check in flight has asked, in a part at work. -/
theorem checkAsk_some {s : State} {a : Ask} (h : s.checkAsk = some a) :
    s.alive = true ∧ ∃ k, s.dcu.check = some k ∧ k.ask = some a := by
  unfold State.checkAsk at h
  split at h
  · next ha => exact ⟨ha, Option.bind_eq_some_iff.1 h⟩
  · cases h

theorem sweepAsk_alive {s : State} {x : VisitNo × Tag × Judge × Ask} (h : s.sweepAsk = some x) : s.alive = true := by
  unfold State.sweepAsk at h
  split at h
  · next ha _ => exact ha
  · cases h

theorem checkAnswered_check {s : State} {k : Check} (hk : s.dcu.check = some k) :
    s.checkAnswered.dcu.check = some { k with ask := none } := by
  unfold State.checkAnswered
  rw [hk]
  rfl

/-- A command that keeps RECORDS in its course in a part at work, and in any other changes the clock alone. -/
structure KeepsCourse (s t : State) : Prop where
  course : s.alive = true → Course s .idle → QueueSound s → Course t .idle
  quiet  : s.alive = false → t = { s with time := t.time }

namespace KeepsCourse

variable {s : State}

theorem refl (s : State) : KeepsCourse s s := ⟨fun _ c _ => c, fun _ => rfl⟩

theorem of_alive {t : State} (ha : s.alive = true) (h : Course s .idle → QueueSound s → Course t .idle) : KeepsCourse s t :=
  ⟨fun _ => h, fun hn => by rw [ha] at hn; cases hn⟩

theorem setTime (s : State) (x : TimeBase) : KeepsCourse s (s.setTime x) := ⟨fun _ c _ => c.setTime x, fun _ => rfl⟩

/-- An item whose block may find the check that the queue speaks of. -/
theorem takeItem_queue {h : Head} {i : Instr} {f : State → State}
    (hf : Course (s.begin h i) (.item h.link) → QueueSound s → Course (f (s.begin h i)) .idle) :
    KeepsCourse s (s.takeItem h i f) := by
  by_cases hn : s.nextItem h.link = some i
  · exact of_alive (State.nextItem_executing hn).1 fun c q => c.takeItem fun c' => hf c' q
  · rw [State.takeItem_other _ hn]
    exact refl s

theorem takeItem {h : Head} {i : Instr} {f : State → State}
    (hf : ∀ u, Course u (.item h.link) → Course (f u) .idle) : KeepsCourse s (s.takeItem h i f) :=
  takeItem_queue fun c _ => hf _ c

theorem changeLink (l : LinkNo) {f : Link → Link} (hf : ∀ k, Link.SameJob k (f k)) : KeepsCourse s (s.changeLink l f) := by
  refine ⟨fun _ c _ => c.changeLink l hf, fun hn => ?_⟩
  unfold State.changeLink
  rw [hn]
  rfl

theorem pulse (s : State) : KeepsCourse s s.pulse := by
  unfold State.pulse
  split
  · split
    · exact setTime s _
    · exact setTime s _
  · exact refl s

theorem minuteEnd {t : State} (h : execMinuteEnd s = .next t) : KeepsCourse s t := by
  obtain rfl := Host.Outcome.next.inj h
  split
  · exact setTime s _
  · exact refl s

theorem minuteEvent {t : State} (h : execMinuteEvent s = .next t) : KeepsCourse s t := by
  obtain rfl := Host.Outcome.next.inj h
  split
  · next ha _ => exact of_alive ha fun c _ => (c.setTime _).minuteEvent _
  · exact refl s

theorem checkTake {t : State} (h : execCheckTake s = .next t) : KeepsCourse s t := by
  obtain rfl := Host.Outcome.next.inj h
  split
  · next v queue ha hn hq =>
    exact of_alive ha fun c q => c.checkTake ((q.queued v).1 (by rw [hq]; simp)) queue
  · exact refl s

theorem classLookup {a : Asker} {t : State} (h : execClassLookup a s = .next t) : KeepsCourse s t := by
  obtain rfl := Host.Outcome.next.inj h
  split
  · split
    · next hq =>
      obtain ⟨ha, k, hk, hask⟩ := checkAsk_some hq
      exact of_alive ha fun c _ => c.questionAnswered hk (by rw [hask]; simp) fun c' hst hb hch =>
        c'.judgeGoesOn (checkAnswered_check hk) rfl hb hst hch _
    · exact refl s
  · split
    · next hq => exact of_alive (sweepAsk_alive hq) fun c _ => c.recheckGoesOn _ _ _
    · exact refl s

theorem pairTest {a : Asker} {t : State} (h : execPairTest a s = .next t) : KeepsCourse s t := by
  obtain rfl := Host.Outcome.next.inj h
  split
  · split
    · next hq =>
      obtain ⟨ha, k, hk, hask⟩ := checkAsk_some hq
      exact of_alive ha fun c _ => c.questionAnswered hk (by rw [hask]; simp) fun c' hst hb hch =>
        c'.judgeGoesOn (checkAnswered_check hk) rfl hb hst hch _
    · exact refl s
  · split
    · next hq => exact of_alive (sweepAsk_alive hq) fun c _ => c.recheckGoesOn _ _ _
    · exact refl s

theorem hoursVerdict {t : State} (h : execHoursVerdict s = .next t) : KeepsCourse s t := by
  obtain rfl := Host.Outcome.next.inj h
  split
  · next hq _ =>
    obtain ⟨ha, k, hk, hask⟩ := checkAsk_some hq
    exact of_alive ha fun c _ => c.questionAnswered hk (by rw [hask]; simp) fun c' hst hb hch =>
      c'.decideOutcome (checkAnswered_check hk) rfl hb hst hch
  · exact refl s

theorem sweepEntryRead {t : State} (h : execSweepEntryRead s = .next t) : KeepsCourse s t := by
  obtain rfl := Host.Outcome.next.inj h
  split
  · next hc => exact of_alive hc.1 fun c _ => c.entryRead
  · exact refl s

theorem recheckContextRead {t : State} (h : execRecheckContextRead s = .next t) : KeepsCourse s t := by
  obtain rfl := Host.Outcome.next.inj h
  split
  · next hc => exact of_alive hc.1 fun c _ => c.contextRead
  · exact refl s

/-- VISIT_ABORT (R38). -/
theorem visitAbort (h : Head) (visit tag : Nat) :
    KeepsCourse s (s.takeItem h (.visitAbort h visit tag) fun s => s.onVisitAbort h.link visit tag) :=
  takeItem_queue fun c q => c.onVisitAbort visit tag fun k hk hp => by
    rw [State.begin_eq] at hk
    rw [visit_begin]
    exact (q.checking k.visit).2 ⟨k, hk, rfl, hp⟩

/-- Every command but the turns, the grants and the resets. -/
theorem exec {i : Instr} {t : State} (hi : Instr.turnOrReset i = false) (h : exec i s = .next t) : KeepsCourse s t := by
  cases i with
  | setTime hd m n => cases h; exact takeItem fun _ c => c.onSetTime _ _
  | adjustTime hd n => cases h; exact takeItem fun _ c => c.onAdjustTime _
  | rulesLoad hd x => cases h; exact takeItem fun _ c => c.onRulesLoad _
  | bandLoad hd a b c d e f => cases h; exact takeItem fun _ u => u.onBandLoad _ _ _ _ _ _
  | segLoad hd a b c => cases h; exact takeItem fun _ u => u.onSegLoad _ _ _
  | chunkSize hd n => cases h; exact takeItem fun _ u => u.onChunkSize _
  | serviceLoad hd ns => cases h; exact takeItem fun _ u => u.onServiceLoad _
  | settings hd a b c => cases h; exact takeItem fun _ u => u.onSettings _ _ _
  | identWrite hd a b => cases h; exact takeItem fun _ u => u.onIdentWrite _ _
  | start hd => cases h; exact takeItem fun _ u => u.onStart
  | lock hd => cases h; exact takeItem fun _ u => u.onLock
  | keep hd => cases h; exact takeItem fun _ u => u.onKeep
  | restart hd => cases h; exact takeItem fun _ u => u.onRestart
  | paperOpen hd v t n p q e b => cases h; exact takeItem fun _ u => u.onPaperOpen _ _ _ _ _ _ _
  | paperLines hd v t xs => cases h; exact takeItem fun _ u => u.onPaperLines _ _ _
  | visitAbort hd v t => cases h; exact visitAbort hd v t
  | logTake hd n => cases h; exact takeItem fun _ u => u.beginWalk _ rfl
  | excTake hd n => cases h; exact takeItem fun _ u => u.beginWalk _ rfl
  | bayAssign hd v t b => cases h; exact takeItem fun _ u => u.onBayAssign _ _ _
  | bayRelease hd b => cases h; exact takeItem fun _ u => u.onBayRelease _
  | fill hd b c p f => cases h; exact takeItem fun _ u => u.onFill _ _ _ _
  | loadEnd hd b => cases h; exact takeItem fun _ u => u.onLoadEnd _
  | arrive hd a b f co cs => cases h; exact takeItem fun _ u => u.onArrive _ _ _ _ _
  | breakStart hd c => cases h; exact takeItem fun _ u => u.onBreakStart _
  | breakEnd hd c => cases h; exact takeItem fun _ u => u.onBreakEnd _
  | dispatch hd v t => cases h; exact takeItem fun _ u => u.onDispatch _ _
  | gatePassed hd v t c => cases h; exact takeItem fun _ u => u.onGatePassed _ _ _
  | sweepStart hd a b c => cases h; exact takeItem fun _ u => u.onSweepStart _ _ _
  | sweepStop hd => cases h; exact takeItem fun _ u => u.onSweepStop
  | sweepRead hd => cases h; exact takeItem fun _ u => u.answer _ _
  | logPeek hd a b => cases h; exact takeItem fun _ u => u.beginWalk _ rfl
  | excPeek hd a b => cases h; exact takeItem fun _ u => u.beginWalk _ rfl
  | storeRead hd v => cases h; exact takeItem fun _ u => u.onStoreRead _
  | visitRead hd v b => cases h; exact takeItem fun _ u => u.onVisitRead _ _
  | driverRead hd a b => cases h; exact takeItem fun _ u => u.onDriverRead _ _
  | noteRead hd => cases h; exact takeItem fun _ u => u.answer _ _
  | noteClear hd a b => cases h; exact takeItem fun _ u => u.onNoteClear _ _
  | identRead hd => cases h; exact takeItem fun _ u => u.answer _ _
  | telegramStart l c => cases h; exact changeLink l fun k => Link.rxChar_job l k c
  | telegramEnd l cs => cases h; exact changeLink l fun k => Link.rxChars_job l cs k
  | gap l => cases h; exact changeLink l Link.rxGap_job
  | tbasePulse => cases h; exact pulse s
  | minuteEnd => exact minuteEnd h
  | minuteEvent => exact minuteEvent h
  | checkTake => exact checkTake h
  | classLookup a => exact classLookup h
  | pairTest a => exact pairTest h
  | hoursVerdict => exact hoursVerdict h
  | sweepEntryRead => exact sweepEntryRead h
  | recheckContextRead => exact recheckContextRead h
  | _ => cases hi

end KeepsCourse

end Sys2Proof.Machine
end

section
/-! PROOFS. RECORDS over the grants of the store (R9 to R15): what a grant brings into hand, and what the item that asked
makes of it. -/

namespace Sys2Proof.Machine

/-! ### What a grant leaves as it was -/

/-- The items in flight and the visits stand. -/
structure Served (s t : State) : Prop where
  job   : ∀ l, t.job l = s.job l
  visit : ∀ v, t.visit v = s.visit v

namespace Served

variable {r s t : State}

theorem trans (a : Served r s) (b : Served s t) : Served r t :=
  ⟨fun l => (b.job l).trans (a.job l), fun v => (b.visit v).trans (a.visit v)⟩

theorem of_eq (hl : t.links = s.links) (hv : t.visits = s.visits) : Served s t := by
  refine ⟨fun l => ?_, State.visit_congr hv⟩
  rw [State.job_eq, State.job_eq, State.link_congr hl]

theorem granted (s : State) (p : Requester) : Served s (s.granted p) := of_eq rfl rfl

theorem setStore (s : State) (st : Store) : Served s (s.setStore st) := of_eq rfl rfl

/-- Flags of a link. -/
theorem setFlags (s : State) (l : LinkNo) (f : FlagWord) : Served s (s.setLink l { s.link l with flags := f }) := by
  refine ⟨fun m => ?_, fun _ => rfl⟩
  rw [State.job_eq, State.job_eq]
  by_cases e : l = m
  · subst e
    rw [State.link_setLink_self]
    rfl
  · rw [State.link_setLink_ne _ _ e]

theorem follow (s : State) : Served s s.follow := by
  unfold State.follow
  have h := (setFlags s .office (putFlag (putFlag (putFlag (s.link .office).flags .storeLow s.storeLow) .logReady s.logReady)
    .excReady s.excReady)).trans (setFlags _ .audit (putFlag (s.link .audit).flags .logReady s.logReady))
  rw [State.link_setLink_ne _ _ (by decide)] at h
  exact h

theorem withStore (s : State) (st : Store) : Served s (s.withStore st) := (setStore s st).trans (follow _)

/-- A report of a change marks the check stale at most (R144, R146). -/
theorem report {h : Hand} (c : Course s h) (hc : h.check = false) (v : Option VisitNo) : Served s (s.report v) := by
  unfold State.report
  split
  · exact of_eq rfl rfl
  · next k hk =>
    split
    · next hp =>
      rw [if_pos (c.waits hc hk hp.1)]
      exact of_eq rfl rfl
    · exact of_eq rfl rfl

theorem reportList {h : Hand} (c : Course s h) (hc : h.check = false) (l : ListId) : Served s (s.reportList l) := by
  unfold State.reportList
  split
  · exact report c hc _
  · exact of_eq rfl rfl

/-- A grant of the store that changes a list: its answer is taken once the change is reported. -/
theorem grant (s : State) (p : Requester) (st : Store) : Served s ((s.granted p).withStore st) :=
  (granted s p).trans (withStore _ st)

theorem ends (a : Served s t) {l : LinkNo} {v : VisitNo} : EndsVisit t l v ↔ EndsVisit s l v :=
  endsVisit_congr (a.job l) v

end Served

theorem State.request_granted (s : State) (p q : Requester) :
    (s.granted p).request q = if p = q then none else s.request q := State.request_setRequest s.advance p q none

theorem reportList_store (s : State) (l : ListId) : (s.reportList l).store = s.store :=
  ((Steady.refl s).reportList l).store

/-! ### Requests -/

/-- The requests that the courses of an abort and a release present (R34, R40, R41). -/
def Request.ofEnding : Request → Bool
  | .alloc _ _ _ | .splice _ _ | .stamped _ _ _ => true
  | _ => false

theorem abortRequest_cases {v : VisitNo} {x : Visit} {k : AbortCourse} {q : Request} (h : abortRequest v x k = some q) :
    (q = .stamped v .aborted none ∧ (k = ⟨true, 0⟩ ∨ k = ⟨false, 4⟩)) ∨ q = .splice (.comp v) .free ∨
      q = .splice (.paper v) .free ∨ q = .splice (.pend v) .free ∨
      (q = .alloc (.pend v) .bounded (abortHead v x) ∧ k = ⟨false, 3⟩) := by
  obtain ⟨b, n⟩ := k
  cases b
  · rcases n with _ | _ | _ | _ | _ | n <;> simp only [abortRequest, Bool.false_eq_true, if_false] at h <;> cases h <;> simp
  · rcases n with _ | _ | _ | n <;> simp only [abortRequest, if_true] at h <;> cases h <;> simp

namespace Course

variable {s t : State} {h : Hand} {l : LinkNo} {v : VisitNo} {q : Request}

/-! ### What a grant brings into hand -/

/-- A turn of the service table advances its index alone. -/
theorem advance (c : Course s h) : Course s.advance h := c.of_rest rfl rfl rfl rfl rfl rfl

/-- The item of a link whose request no longer waits. -/
theorem clearedLink (c : Course s .idle) (hq : s.request (linkRequester l) = some q) :
    Course (s.setRequest (linkRequester l) none) (.item l) := by
  refine c.opens (.setRequest l s none) (fun hn => ?_) (State.request_setRequest_self _ _ _)
  have := (c.links l nofun).idle hn
  rw [hq] at this
  cases this

/-- The item of a link that is granted. -/
theorem grantedLink (c : Course s .idle) (hq : s.request (linkRequester l) = some q) :
    Course (s.granted (linkRequester l)) (.item l) := Course.clearedLink (s := s.advance) c.advance hq

/-- The check that is granted. -/
theorem grantedCheck (c : Course s .idle) : Course (s.granted .check) .ofCheck := by
  have other : ∀ p, p ≠ .check → (s.granted .check).request p = s.request p := fun p hp => by
    rw [State.request_granted, if_neg (Ne.symm hp)]
  refine ⟨c.pending, c.onebusy, fun l _ => (c.links l nofun).congr rfl (other _ (linkRequester_ne_check l))
    (fun _ _ => .refl _ _) fun _ _ h => h, c.single, nofun, nofun, nofun, fun _ => by rw [State.request_granted, if_pos rfl],
    fun r => ?_⟩
  rw [other _ (by decide)]
  exact c.sweeps r

/-- The Sweep Unit and EXPIRY have nothing in hand. -/
theorem clearedOther (c : Course s .idle) {p : Requester} (hp : p = .sweep ∨ p = .expiry) :
    Course (s.setRequest p none) .idle := by
  have other : ∀ q, q ≠ p → (s.setRequest p none).request q = s.request q := fun q hq => by
    rw [State.request_setRequest, if_neg (Ne.symm hq)]
  refine c.transport (fun _ => rfl) c.onebusy (fun _ _ => .refl _ _ _) (fun l => other _ ?_) (other _ ?_) rfl rfl
    fun r hr => c.sweeps r (hr.imp_left fun hr => ?_)
  · rcases hp with rfl | rfl <;> cases l <;> simp [linkRequester]
  · rcases hp with rfl | rfl <;> simp
  · rw [State.request_setRequest] at hr
    split at hr
    · cases hr
    · exact hr

theorem grantedOther (c : Course s .idle) {p : Requester} (hp : p = .sweep ∨ p = .expiry) :
    Course (s.granted p) .idle := Course.clearedOther (s := s.advance) c.advance hp

/-- The item that ends a visit is granted: the visit comes into hand. -/
theorem grantedEnds (c : Course s .idle) (he : EndsVisit s l v) (hc : s.checkHeld v = false)
    (hq : s.request (linkRequester l) = some q) : Course (s.granted (linkRequester l)) (.ends l v) :=
  (c.grantedLink hq).take (fun m hm hf => hm (congrArg some (c.single l m v nofun nofun he hf))) hc

/-- No check is held of a visit that is neither CHECKING nor ABORTING (R128). -/
theorem checkHeld_false (c : Course s .idle) (qs : QueueSound s) (h1 : (s.visit v).state ≠ .checking)
    (h2 : (s.visit v).state ≠ .aborting) : s.checkHeld v = false := by
  cases hk : s.dcu.check with
  | none =>
    unfold State.checkHeld
    rw [hk]
  | some k =>
    rw [checkHeld_of_check hk, beq_eq_false_iff_ne]
    rintro rfl
    by_cases hp : k.phase = .abandon
    · exact h2 ((c.checks rfl k hk).leaves hp).1
    · exact h1 ((qs.checking _).2 ⟨k, hk, rfl, hp⟩)

/-- A change of lists that leaves every PENDING list but that of the visit in hand. -/
theorem changeStore (c : Course s h) {st : Store}
    (others : ∀ w, h.visit ≠ some w → Store.Untouched s.store st (.pend w)) : Course (s.setStore st) h := by
  refine c.setStore (fun w hw => by rw [(others w hw).recordsOn]; exact c.pending w hw) fun _ k hk => others _ fun e => ?_
  have hheld := (c.alone _ e).2
  rw [checkHeld_of_check hk, beq_eq_false_iff_ne] at hheld
  exact hheld rfl

theorem withStore (c : Course s h) {st : Store}
    (others : ∀ w, h.visit ≠ some w → Store.Untouched s.store st (.pend w)) : Course (s.withStore st) h :=
  (c.changeStore others).follow

/-! ### Who asks for what -/

/-- An item in flight ends no visit, or aborts or releases one. -/
theorem ending_cases (s : State) (l : LinkNo) :
    (∀ v, ¬ EndsVisit s l v) ∨ (∃ v seq, s.job l = some (.abort v seq)) ∨ ∃ v, s.job l = some (.release v) := by
  by_cases he : ∃ v, EndsVisit s l v
  · obtain ⟨v, ⟨seq, h⟩ | h⟩ := he
    · exact .inr (.inl ⟨v, seq, h⟩)
    · exact .inr (.inr ⟨v, h⟩)
  · exact .inl fun v hv => he ⟨v, hv⟩

/-- A request of an item that ends no visit changes no PENDING list. -/
theorem apart (c : Course s .idle) (he : ∀ v, ¬ EndsVisit s l v) (hq : s.request (linkRequester l) = some q) :
    q.pendingOf = none := by
  cases hp : q.pendingOf with
  | none => rfl
  | some v => exact (he v ((c.links l nofun).owned q v hq hp)).elim

/-- What an abort waits for (R40, R41). -/
theorem abort_asks (c : Course s .idle) {seq : Option Nat} (hj : s.job l = some (.abort v seq))
    (hq : s.request (linkRequester l) = some q) :
    (s.visit v).state = .aborting ∧ s.checkHeld v = false ∧
      ∃ k, (s.visit v).abort = some k ∧ abortRequest v (s.visit v) k = some q := by
  obtain ⟨hst, k, hk, ⟨_, hn⟩ | ⟨hc, r, hr, hq'⟩⟩ := (c.links l nofun).aborts v seq hj
  · rw [hn] at hq
    cases hq
  · cases hq'.symm.trans hq
    exact ⟨hst, hc, k, hk, hr⟩

/-- What a release waits for (R34). -/
theorem release_asks (c : Course s .idle) (hj : s.job l = some (.release v))
    (hq : s.request (linkRequester l) = some q) :
    (s.visit v).state = .releasing ∧ (q = .splice (.comp v) .free ∨ q = .splice (.paper v) .free ∨
      q = .stamped v .released (s.visit v).passMinute) := by
  obtain ⟨hst, hr⟩ := (c.links l nofun).releases v hj
  rw [hq] at hr
  exact ⟨hst, hr.imp Option.some.inj (Or.imp Option.some.inj Option.some.inj)⟩

/-- An item that ends a visit asks for allocations and splices alone. -/
theorem harmless (c : Course s .idle) (hq : s.request (linkRequester l) = some q) (hn : q.ofEnding = false) (v : VisitNo) :
    ¬ EndsVisit s l v := by
  rintro (⟨seq, hj⟩ | hj)
  · obtain ⟨_, _, k, _, hr⟩ := c.abort_asks hj hq
    rcases abortRequest_cases hr with ⟨rfl, _⟩ | rfl | rfl | rfl | ⟨rfl, _⟩ <;> cases hn
  · obtain ⟨_, rfl | rfl | rfl⟩ := c.release_asks hj hq <;> cases hn

/-! ### Answers to an item that ends no visit -/

theorem linkAllocated (c : Course s (.item l)) (he : ∀ v, ¬ EndsVisit s l v) (ref : Option SlotRef) :
    Course (s.linkAllocated l ref) .idle := by
  unfold State.linkAllocated
  split
  · split
    · exact c.linePlaced _ _ _ _ _ _
    · exact c.lineRefused _ _ _
  · next hj => exact (he _ (.inl ⟨_, hj⟩)).elim
  · split
    · exact c.compartmentPlaced _ _
    · exact c.undoArrival _
  · exact c.leaves he

theorem linkRead (c : Course s (.item l)) (he : ∀ v, ¬ EndsVisit s l v) (a : ReadAnswer) :
    Course (s.linkRead l a) .idle := by
  unfold State.linkRead
  split
  · exact c.bayRead _ _ _ _
  · exact c.fillRead _ _ _ _ _ _ _
  · exact c.takeRead _ _
  · exact c.peekRead _ _
  · exact c.visitReadAnswered _ _ _ _
  · exact c.leaves he

theorem linkWritten (c : Course s (.item l)) (he : ∀ v, ¬ EndsVisit s l v) (b : Bool) :
    Course (s.linkWritten l b) .idle := by
  unfold State.linkWritten
  split
  · exact c.bayWritten _ _ _ _ _ _ _
  · exact c.fillWritten _ _ _ _ _
  · exact c.leaves he

theorem linkSpliced (c : Course s (.item l)) (he : ∀ v, ¬ EndsVisit s l v) (m : ListId) :
    Course (s.linkSpliced l m) .idle := by
  unfold State.linkSpliced
  split
  · exact c.paperReturned _ _ _
  · next hj => exact (he _ (.inl ⟨_, hj⟩)).elim
  · next hj => exact (he _ (.inr hj)).elim
  · exact c.arrivalUndone _
  · exact c.leaves he

theorem headSplicedBy (c : Course s (.item l)) (he : ∀ v, ¬ EndsVisit s l v) :
    Course (s.headSplicedBy (linkRequester l)) .idle := by
  unfold State.headSplicedBy
  rw [linkRequester_link]
  simp only
  split
  · exact c.taken _
  · exact c.leaves he

/-! ### Answers to an abort (R40, R41) -/

/-- A grant of an abort's course is answered: what it leaves of the PENDING list fits the course one further on. -/
theorem abortServed (c : Course s .idle) {seq : Option Nat} (hj : s.job l = some (.abort v seq))
    (hq : s.request (linkRequester l) = some q) (ct : Course t (.ends l v)) (a : Served s t)
    (hl : t.store.recordsOn (.pend v) = q.leaves (s.store.recordsOn (.pend v))) (seq' : Option Nat) :
    Course (t.abortAnswered l v seq') .idle := by
  obtain ⟨hst, _, k, hk, hr⟩ := c.abort_asks hj hq
  obtain ⟨last, more⟩ := abort_fits (c.pending v nofun) hst hk hr
  rw [← a.visit v] at hst hk last more
  rw [← hl] at last more
  exact ct.abortAnswered hst hk seq' last more

end Course

end Sys2Proof.Machine
end

section
/-! PROOFS. RECORDS over the allocations, reads, writes and whole-list splices of the store (R9 to R13). -/

namespace Sys2Proof.Machine

theorem Request.pend_ne_of_alloc {tgt : ListId} {cls : AllocClass} {x : Record} {w : VisitNo}
    (h : (Request.alloc tgt cls x).pendingOf ≠ some w) : ListId.pend w ≠ tgt := by
  rintro rfl
  exact h rfl

theorem Request.pend_ne_of_splice {src tgt : ListId} {w : VisitNo} (h : (Request.splice src tgt).pendingOf ≠ some w) :
    ListId.pend w ≠ src := by
  rintro rfl
  exact h rfl

theorem Request.pend_ne_of_write {l : ListId} {r : SlotRef} {f : WriteFields} {w : VisitNo}
    (h : (Request.write l r f).pendingOf ≠ some w) : ListId.pend w ≠ l := by
  rintro rfl
  exact h rfl

/-- The requests that the course of a check presents (R132, R148 to R151). -/
def Request.ofCheck : Request → Bool
  | .read _ _ | .alloc _ _ _ | .write _ _ _ | .splice _ _ => true
  | _ => false

/-! ### The check's course at the store (R148 to R151) -/

/-- What an allocation of BUILD places. -/
theorem Building.alloc {s : State} {k : Check} (hb : Building s k) {tgt : ListId} {cls : AllocClass} {x : Record}
    (hq : s.request .check = some (.alloc tgt cls x)) :
    tgt = .pend k.visit ∧ Unstamped (s.store.recordsOn (.pend k.visit) ++ [x]) k.left.length ∧
      ∀ h, x = .logHead h → h.seq = none := by
  rcases hb with ⟨h, hr, hrs, hs, ho, hc⟩ | ⟨kc, hr, hu⟩ | ⟨_, _, hr, _⟩ <;> cases hr.symm.trans hq
  · rw [hrs, ← hc]
    exact ⟨rfl, unstamped_head hs ho, fun h' e => by cases e; exact hs⟩
  · exact ⟨rfl, unstamped_append hu kc, fun h' e => by cases e⟩

/-- The completing write of BUILD. -/
theorem Building.write {s : State} {k : Check} (hb : Building s k) {l : ListId} {r : SlotRef} {f : WriteFields}
    (hq : s.request .check = some (.write l r f)) :
    l = .pend k.visit ∧ Unstamped (s.store.recordsOn (.pend k.visit)) 0 ∧ ∃ i minute, r = s.store.ref i ∧
      f = .complete minute ∧ (s.store.chain (.pend k.visit)).head? = some i := by
  rcases hb with ⟨_, hr, _⟩ | ⟨_, hr, _⟩ | ⟨i, minute, hr, hi, _, hu⟩ <;> cases hr.symm.trans hq
  exact ⟨rfl, hu, i, minute, rfl, rfl, hi⟩

theorem Building.not_read {s : State} {k : Check} (hb : Building s k) {l : ListId} {i : Option SlotRef}
    (hq : s.request .check = some (.read l i)) : False := by
  rcases hb with ⟨_, hr, _⟩ | ⟨_, hr, _⟩ | ⟨_, _, hr, _⟩ <;> cases hr.symm.trans hq

theorem Building.not_splice {s : State} {k : Check} (hb : Building s k) {src tgt : ListId}
    (hq : s.request .check = some (.splice src tgt)) : False := by
  rcases hb with ⟨_, hr, _⟩ | ⟨_, hr, _⟩ | ⟨_, _, hr, _⟩ <;> cases hr.symm.trans hq

namespace CheckSound

variable {s : State} {k : Check}

theorem alloc (hs : CheckSound s k) {tgt : ListId} {cls : AllocClass} {x : Record}
    (hq : s.request .check = some (.alloc tgt cls x)) : Building s k ∧ (k.phase = .build ∨ k.phase = .abandon) := by
  rcases hs.requests hq with ⟨⟨_, _, h⟩, _⟩ | h | ⟨h, _⟩
  · cases h
  · exact h
  · cases h

theorem write (hs : CheckSound s k) {l : ListId} {r : SlotRef} {f : WriteFields}
    (hq : s.request .check = some (.write l r f)) : Building s k ∧ (k.phase = .build ∨ k.phase = .abandon) := by
  rcases hs.requests hq with ⟨⟨_, _, h⟩, _⟩ | h | ⟨h, _⟩
  · cases h
  · exact h
  · cases h

theorem splice (hs : CheckSound s k) {src tgt : ListId} (hq : s.request .check = some (.splice src tgt)) :
    src = .pend k.visit ∧ tgt = .free := by
  rcases hs.requests hq with ⟨⟨_, _, h⟩, _⟩ | ⟨hb, _⟩ | ⟨h, _⟩
  · cases h
  · exact (hb.not_splice hq).elim
  · cases h
    exact ⟨rfl, rfl⟩

/-- A check asks for reads, allocations, writes and returns. -/
theorem asks (hs : CheckSound s k) {q : Request} (hq : s.request .check = some q) : q.ofCheck = true := by
  rcases hs.requests hq with ⟨⟨_, _, rfl⟩, _⟩ | ⟨⟨_, hr, _⟩ | ⟨_, hr, _⟩ | ⟨_, _, hr, _⟩, _⟩ | ⟨rfl, _⟩
  · rfl
  · cases hr.symm.trans hq
    rfl
  · cases hr.symm.trans hq
    rfl
  · cases hr.symm.trans hq
    rfl
  · rfl

theorem read (hs : CheckSound s k) {l : ListId} {i : Option SlotRef} (hq : s.request .check = some (.read l i))
    (hp : k.phase ≠ .abandon) :
    k.phase = .read ∧ k.ask = none ∧ k.build = [] ∧ s.store.chain (.pend k.visit) = [] := by
  rcases hs.requests hq with ⟨_, h⟩ | ⟨hb, _⟩ | ⟨h, _⟩
  · have hph := h.resolve_right hp
    obtain ⟨ha, _, hch⟩ := hs.reads hph
    refine ⟨hph, ha, ?_, hch⟩
    rw [hs.build, hch]
    rfl
  · exact (hb.not_read hq).elim
  · cases h

end CheckSound

/-! ### The completing write (R150) -/

/-- The completing write leaves a record that awaits its stamp. -/
theorem Store.recordsOn_complete {st st' : Store} {l : ListId} {n minute : Nat} {i : SlotNo} (w : st.Whole)
    (hw : st.write n l (st.ref i) (.complete minute) = some st') (hi : (st.chain l).head? = some i)
    (hu : Unstamped (st.recordsOn l) 0) : AwaitsStamp (st'.recordsOn l) := by
  obtain ⟨r, hr, hseq, hout, hcount⟩ := hu
  have hchain := (whole_write w hw).2 l
  obtain ⟨_, _, x, hx, rfl⟩ := write_some hw
  obtain ⟨j, js, hch, hj, hjs⟩ := List.map_eq_cons_iff.1 hr
  rw [hch] at hi
  cases hi
  have hnodup := (w l).once
  rw [hch] at hnodup
  have hslot : (st.slot (st.ref i).slot).record = .logHead r.head := hj
  rw [hslot] at hx
  cases hx
  refine ⟨⟨{ r.head with mark := .complete, clearMinute := some minute }, r.comps⟩, ?_, hseq, hout, rfl, hcount⟩
  unfold recordsOn
  rw [hchain, hch, List.map_cons]
  refine congrArg₂ List.cons ?_ ?_
  · show ((st.setSlot i _).slot i).record = _
    rw [slot_setSlot_self]
  · rw [← hjs]
    refine List.map_congr_left fun a ha => ?_
    show ((st.setSlot i _).slot a).record = _
    rw [slot_setSlot_ne _ _ fun e : i = a => (List.nodup_cons.1 hnodup).1 (e ▸ ha)]

theorem AwaitsStamp.unstamped {rs : List Record} (h : AwaitsStamp rs) : Unstamped rs 0 := by
  obtain ⟨r, hr, hs, ho, _, hc⟩ := h
  exact ⟨r, hr, hs, ho, hc⟩

namespace Course

variable {s : State} {l : LinkNo} {k : Check}

theorem check_some (c : Course s .idle) {q : Request} (hq : s.request .check = some q) :
    ∃ k, s.dcu.check = some k ∧ CheckSound s k := by
  cases hk : s.dcu.check with
  | none =>
    rw [c.rests (.inr hk)] at hq
    cases hq
  | some k => exact ⟨k, rfl, c.checks rfl k hk⟩

/-- What the check builds or unbuilds on the PENDING list of its visit fits the visit (R43). -/
theorem checkBuilds (c : Course s .idle) (qs : QueueSound s) (hk : s.dcu.check = some k) {st : Store}
    (others : ∀ w, w ≠ k.visit → Store.Untouched s.store st (.pend w))
    (hrs : st.recordsOn (.pend k.visit) = [] ∨ ∃ n, Unstamped (st.recordsOn (.pend k.visit)) n) :
    Course ((s.granted .check).setStore st) .ofCheck := by
  refine c.grantedCheck.setStore (fun w _ => ?_) nofun
  by_cases hw : w = k.visit
  · subst hw
    by_cases hp : k.phase = .abandon
    · obtain ⟨hst, hab, _⟩ := (c.checks rfl k hk).leaves hp
      exact (pendingFits_other hst hab).2 (.inl ⟨by omega, hrs⟩)
    · have hst : (s.visit k.visit).state = .checking := (qs.checking _).2 ⟨k, hk, rfl, hp⟩
      show PendingFits (s.visit k.visit) _
      unfold PendingFits
      rw [hst, Visit.fits_abort_none (c.pending k.visit nofun) (by rw [hst]; decide)]
      exact hrs
  · rw [(others w hw).recordsOn]
    exact c.pending w nofun

/-- The check asks for no other request. -/
theorem not_of_check (c : Course s .idle) {q : Request} (hq : s.request .check = some q) (hn : q.ofCheck = false) :
    False := by
  obtain ⟨_, _, hs⟩ := c.check_some hq
  have := hs.asks hq
  rw [hn] at this
  cases this

/-! ### Allocations (R9, R10) -/

theorem linkAllocRefused (c : Course s .idle) {tgt : ListId} {cls : AllocClass} {x : Record}
    (hq : s.request (linkRequester l) = some (.alloc tgt cls x)) :
    Course ((s.granted (linkRequester l)).linkAllocated l none) .idle := by
  rcases ending_cases s l with he | ⟨v, seq, hj⟩ | ⟨v, hj⟩
  · exact (c.grantedLink hq).linkAllocated he none
  · obtain ⟨hst, hheld, k, hk, hr⟩ := c.abort_asks hj hq
    obtain rfl : k = ⟨false, 3⟩ := by
      rcases abortRequest_cases hr with ⟨h, _⟩ | h | h | h | ⟨_, h⟩
      · cases h
      · cases h
      · cases h
      · cases h
      · exact h
    have hrs : s.store.recordsOn (.pend v) = [] := by simpa using (pendingFits_other hst hk).1 (c.pending v nofun)
    have hj' : (s.granted (linkRequester l)).job l = some (.abort v seq) := hj
    unfold State.linkAllocated
    rw [hj']
    exact (c.grantedEnds (.inl ⟨seq, hj⟩) hheld hq).abortUnrecorded hst hrs
  · obtain ⟨_, h | h | h⟩ := c.release_asks hj hq <;> cases h

theorem linkAllocMade (c : Course s .idle) (w : s.store.Whole) {tgt : ListId} (hf : tgt ≠ .free) {cls : AllocClass}
    {x : Record} (hq : s.request (linkRequester l) = some (.alloc tgt cls x)) {st : Store} {r : SlotRef}
    (ha : s.store.allocate tgt x = some (st, r)) :
    Course ((((s.granted (linkRequester l)).withStore st).reportList tgt).linkAllocated l (some r)) .idle := by
  have others : ∀ v, (Request.alloc tgt cls x).pendingOf ≠ some v → Store.Untouched s.store st (.pend v) := fun v hv =>
    Store.untouched_allocate w hf ha (by simp) (Request.pend_ne_of_alloc hv)
  rcases ending_cases s l with he | ⟨v, seq, hj⟩ | ⟨v, hj⟩
  · have c1 := (c.grantedLink hq).withStore (st := st) fun v _ => others v (by rw [c.apart he hq]; nofun)
    have a := (Served.grant s (linkRequester l) st).trans (Served.reportList c1 rfl tgt)
    exact (c1.reportList rfl tgt).linkAllocated (fun v hv => he v (a.ends.1 hv)) _
  · obtain ⟨_, hheld, k, _, hr⟩ := c.abort_asks hj hq
    have htgt : tgt = .pend v := by rcases abortRequest_cases hr with ⟨h, _⟩ | h | h | h | ⟨h, _⟩ <;> cases h; rfl
    subst htgt
    have c1 := (c.grantedEnds (.inl ⟨seq, hj⟩) hheld hq).withStore (st := st) fun w hw => others w hw
    have a := (Served.grant s (linkRequester l) st).trans (Served.reportList c1 rfl (.pend v))
    have hj' := (a.job l).trans hj
    unfold State.linkAllocated
    rw [hj']
    exact c.abortServed hj hq (c1.reportList rfl _) a (Store.chain_allocate w hf ha).1 _
  · obtain ⟨_, h | h | h⟩ := c.release_asks hj hq <;> cases h

theorem checkAllocRefused (c : Course s .idle) {tgt : ListId} {cls : AllocClass} {x : Record}
    (hq : s.request .check = some (.alloc tgt cls x)) : Course ((s.granted .check).checkAlloc none) .idle := by
  obtain ⟨k, hk, hs⟩ := c.check_some hq
  refine c.grantedCheck.checkTakes fun k' hk' hp => ?_
  cases hk.symm.trans hk'
  obtain ⟨ha, hst, _⟩ := hs.builds ((hs.alloc hq).2.resolve_right hp)
  exact c.grantedCheck.beginUnwind hk ha hst hs.build

theorem checkAllocMade (c : Course s .idle) (qs : QueueSound s) (w : s.store.Whole) {tgt : ListId} {cls : AllocClass}
    {x : Record} (hq : s.request .check = some (.alloc tgt cls x)) {st : Store} {r : SlotRef}
    (ha : s.store.allocate tgt x = some (st, r)) :
    Course ((((s.granted .check).withStore st).reportList tgt).checkAlloc (some r)) .idle := by
  obtain ⟨k, hk, hs⟩ := c.check_some hq
  obtain ⟨hb, hph⟩ := hs.alloc hq
  obtain ⟨rfl, hu, _⟩ := hb.alloc hq
  have hf : ListId.pend k.visit ≠ .free := by simp
  obtain ⟨hrs, href⟩ := Store.chain_allocate w hf ha
  rw [← hrs] at hu
  have c1 := c.checkBuilds qs hk (st := st) (fun v hv => Store.untouched_allocate w hf ha (by simp) (by simpa using hv))
    (.inr ⟨_, hu⟩)
  refine Course.checkAlloc_some (s := (s.granted .check).withStore st) c1.follow r fun k' hk' hp => ?_
  cases hk.symm.trans hk'
  have hphase := hph.resolve_right hp
  obtain ⟨hask, hst, _⟩ := hs.builds hphase
  exact ⟨hphase, hask, hst, by rw [hs.build]; exact href.symm, hu⟩

end Course

end Sys2Proof.Machine
end

section
/-! PROOFS. RECORDS over the reads, the writes, the splices and the stamps of the store (R11 to R15). -/

namespace Sys2Proof.Machine

namespace Course

variable {s : State} {l : LinkNo} {k : Check}

/-! ### Reads and writes (R11, R12) -/

theorem checkReadAnswered (c : Course s .idle) {m : ListId} {i : Option SlotRef}
    (hq : s.request .check = some (.read m i)) {a : ReadAnswer} (ha : s.checkReadLost a = false) :
    Course ((s.granted .check).checkRead m a) .idle := by
  obtain ⟨k, hk, hs⟩ := c.check_some hq
  refine c.grantedCheck.checkRead m a ha fun k' hk' hp => ?_
  cases hk.symm.trans hk'
  exact hs.read hq hp

theorem checkWriteMade (c : Course s .idle) (qs : QueueSound s) (w : s.store.Whole) {m : ListId} {r : SlotRef}
    {f : WriteFields} (hq : s.request .check = some (.write m r f)) {n : Nat} {st : Store}
    (hw : s.store.write n m r f = some st) :
    Course ((((s.granted .check).setStore st).reportList m).checkWrite true) .idle := by
  obtain ⟨k, hk, hs⟩ := c.check_some hq
  obtain ⟨rfl, hu, i, minute, rfl, rfl, hi⟩ := (hs.write hq).1.write hq
  have ha := Store.recordsOn_complete w hw hi hu
  have c1 := c.checkBuilds qs hk (st := st) (fun v hv => Store.untouched_write w hw (by simpa using hv))
    (.inr ⟨0, ha.unstamped⟩)
  refine Course.checkTakes (s := (s.granted .check).setStore st) c1 fun k' hk' _ => ?_
  cases hk.symm.trans hk'
  exact c1.endPass k ha

/-- A completing write that did not find its slot (log 20). -/
theorem checkWriteMissed (c : Course s .idle) {m : ListId} {r : SlotRef} {f : WriteFields}
    (hq : s.request .check = some (.write m r f)) : Course ((s.granted .check).checkWrite false) .idle := by
  obtain ⟨k, hk, hs⟩ := c.check_some hq
  refine c.grantedCheck.checkTakes fun k' hk' hp => ?_
  cases hk.symm.trans hk'
  obtain ⟨ha, hst, _⟩ := hs.builds ((hs.write hq).2.resolve_right hp)
  exact c.grantedCheck.beginUnwind hk ha hst hs.build

/-! ### Whole-list splices (R13) -/

theorem linkSplicedMade (c : Course s .idle) (w : s.store.Whole) {src : ListId} (hf : src ≠ .free)
    (hq : s.request (linkRequester l) = some (.splice src .free)) :
    Course ((((s.granted (linkRequester l)).withStore (s.store.splice src .free)).reportList src).linkSpliced l src)
      .idle := by
  have others : ∀ v, (Request.splice src .free).pendingOf ≠ some v →
      Store.Untouched s.store (s.store.splice src .free) (.pend v) := fun v hv =>
    Store.untouched_splice w hf (Request.pend_ne_of_splice hv) (by simp)
  have served : ∀ {h : Hand}, h.check = false → Course ((s.granted (linkRequester l)).withStore (s.store.splice src .free)) h →
      Served s (((s.granted (linkRequester l)).withStore (s.store.splice src .free)).reportList src) := fun hc c1 =>
    (Served.grant s _ _).trans (Served.reportList c1 hc src)
  rcases ending_cases s l with he | ⟨v, seq, hj⟩ | ⟨v, hj⟩
  · have c1 := (c.grantedLink hq).withStore (st := s.store.splice src .free) fun v _ =>
      others v (by rw [c.apart he hq]; nofun)
    exact (c1.reportList rfl src).linkSpliced (fun v hv => he v ((served rfl c1).ends.1 hv)) _
  · obtain ⟨_, hheld, k, _, hr⟩ := c.abort_asks hj hq
    have hsrc : src = .comp v ∨ src = .paper v ∨ src = .pend v := by
      rcases abortRequest_cases hr with ⟨h, _⟩ | h | h | h | ⟨h, _⟩ <;> cases h
      · exact .inl rfl
      · exact .inr (.inl rfl)
      · exact .inr (.inr rfl)
    have hpend : ∀ u, (Request.splice src .free).pendingOf = some u → u = v := fun u hu => by
      rcases hsrc with rfl | rfl | rfl <;> cases hu
      rfl
    have c1 := (c.grantedEnds (.inl ⟨seq, hj⟩) hheld hq).withStore (st := s.store.splice src .free) fun u hu =>
      others u fun e => hu (congrArg some (hpend u e).symm)
    have a := served rfl c1
    have hj' := (a.job l).trans hj
    unfold State.linkSpliced
    rw [hj']
    refine c.abortServed hj hq (c1.reportList rfl src) a ?_ _
    rw [reportList_store]
    show (s.store.splice src .free).recordsOn (.pend v) = _
    rcases hsrc with rfl | rfl | rfl
    · exact (others v nofun).recordsOn
    · exact (others v nofun).recordsOn
    · exact Store.recordsOn_splice w hf
  · obtain ⟨hst, hr⟩ := c.release_asks hj hq
    have hnone : (Request.splice src .free).pendingOf = none := by rcases hr with h | h | h <;> cases h <;> rfl
    have c1 := (c.grantedLink hq).withStore (st := s.store.splice src .free) fun u _ => others u (by rw [hnone]; nofun)
    have a := served rfl c1
    have hj' := (a.job l).trans hj
    unfold State.linkSpliced
    rw [hj']
    refine (c1.reportList rfl src).releaseReturned (by rw [a.visit]; exact hst) (fun m hm he => hm ?_) _
    exact c.single m l v nofun nofun (a.ends.1 he) (.inr hj)

theorem checkSpliceMade (c : Course s .idle) (qs : QueueSound s) (w : s.store.Whole) {src tgt : ListId}
    (hq : s.request .check = some (.splice src tgt)) :
    Course ((((s.granted .check).withStore (s.store.splice src tgt)).reportList src).checkSplice) .idle := by
  obtain ⟨k, hk, hs⟩ := c.check_some hq
  obtain ⟨rfl, rfl⟩ := hs.splice hq
  have hf : ListId.pend k.visit ≠ .free := by simp
  have hrs := Store.recordsOn_splice w hf
  have c1 := c.checkBuilds qs hk (st := s.store.splice (.pend k.visit) .free)
    (fun v hv => Store.untouched_splice w hf (by simpa using hv) (by simp)) (.inl hrs)
  have c2 : Course ((s.granted .check).withStore (s.store.splice (.pend k.visit) .free)) .ofCheck := c1.follow
  refine Course.checkTakes (s := (s.granted .check).withStore (s.store.splice (.pend k.visit) .free)) c2
    fun k' hk' _ => ?_
  cases hk.symm.trans hk'
  exact c2.endCheck k _ _ (.inl ⟨rfl, hrs⟩)

/-! ### Stamped splices (R14) -/

/-- What a stamped splice of a record that awaits its stamp does. -/
theorem stamp_awaiting {v : VisitNo} (w : s.store.Whole) (ha : AwaitsStamp (s.store.recordsOn (.pend v))) (o : LogOutcome)
    (pass : Option Nat) : ∃ i, (s.store.desc (.pend v)).head = some i ∧ (s.store.slot i).owner = .pend v ∧
      s.stamp v o pass = ((s.setStore (stampedStore s.store v o pass (s.logs.seqs + 1) i)).setLogs
        { s.logs with seqs := s.logs.seqs + 1 }, some (s.logs.seqs + 1)) := by
  obtain ⟨j, _, _, hch, _⟩ := Books.awaits_chain ha
  have hhead := (w (.pend v)).head
  rw [hch] at hhead
  rcases stamp_cases s v o pass with ⟨hn, _⟩ | ⟨i, hi, he⟩
  · cases hhead.trans hn
  · cases hhead.trans hi
    exact ⟨j, hi, (Store.mem_chain w).1 (by rw [hch]; simp), he⟩

/-- A stamped splice of the record of the visit in hand. -/
theorem stamped {m : Option LinkNo} {b : Bool} {v : VisitNo} (c : Course s ⟨m, b, some v⟩) (w : s.store.Whole)
    (ha : AwaitsStamp (s.store.recordsOn (.pend v))) (o : LogOutcome) (pass : Option Nat) :
    Course (s.stamp v o pass).1.follow ⟨m, b, some v⟩ ∧ Served s (s.stamp v o pass).1.follow ∧
      (s.stamp v o pass).1.follow.store.recordsOn (.pend v) = [] := by
  obtain ⟨i, _, ho, he⟩ := stamp_awaiting w ha o pass
  rw [he]
  refine ⟨Course.follow (Course.setLogs (c.changeStore fun u hu => ?_) _), Served.trans ?_ (Served.follow _), ?_⟩
  · exact Store.untouched_stampedStore w ho (fun e => hu (congrArg some (ListId.pend.inj e).symm)) (by
      cases o <;> simp [LogOutcome.target, LogId.list])
  · exact Served.of_eq rfl rfl
  · show (stampedStore s.store v o pass (s.logs.seqs + 1) i).recordsOn (.pend v) = []
    unfold Store.recordsOn
    rw [(chain_stampedStore w v o pass _ i).2.1]
    rfl

/-- A record that an abort, a release or a lapse stamps awaits its stamp (R43). -/
theorem awaits_of_abort (c : Course s .idle) {v u : VisitNo} {seq : Option Nat} {o : LogOutcome} {pass : Option Nat}
    (hj : s.job l = some (.abort v seq)) (hq : s.request (linkRequester l) = some (.stamped u o pass)) :
    u = v ∧ AwaitsStamp (s.store.recordsOn (.pend v)) := by
  obtain ⟨hst, _, k, hk, hr⟩ := c.abort_asks hj hq
  have hp := c.pending v nofun
  rcases abortRequest_cases hr with ⟨h, rfl | rfl⟩ | h | h | h | ⟨h, _⟩ <;> cases h
  · exact ⟨rfl, by simpa using (pendingFits_cleared hst hk).1 hp⟩
  · exact ⟨rfl, by simpa using (pendingFits_other hst hk).1 hp⟩

theorem awaits_of_state (c : Course s .idle) {v : VisitNo}
    (hst : (s.visit v).state = .releasing ∨ (s.visit v).state = .lapsing) :
    (s.visit v).abort = none ∧ AwaitsStamp (s.store.recordsOn (.pend v)) := by
  have hp := c.pending v nofun
  have hab := Visit.fits_abort_none hp (by rcases hst with h | h <;> rw [h] <;> decide)
  unfold PendingFits at hp
  rw [hab] at hp
  rcases hst with h | h <;> rw [h] at hp <;> exact ⟨hab, hp⟩

theorem linkStampedMade (c : Course s .idle) (qs : QueueSound s) (w : s.store.Whole) {v : VisitNo} {o : LogOutcome}
    {pass : Option Nat} (hq : s.request (linkRequester l) = some (.stamped v o pass)) :
    Course (((s.granted (linkRequester l)).stamp v o pass).1.follow.linkStamped l
      ((s.granted (linkRequester l)).stamp v o pass).2) .idle := by
  rcases ending_cases s l with he | ⟨u, seq, hj⟩ | ⟨u, hj⟩
  · have := c.apart he hq
    cases this
  · obtain ⟨rfl, ha⟩ := c.awaits_of_abort hj hq
    obtain ⟨_, hheld, _⟩ := c.abort_asks hj hq
    obtain ⟨c1, a, hrs⟩ := (c.grantedEnds (.inl ⟨seq, hj⟩) hheld hq).stamped w ha o pass
    have hs := (Served.granted s (linkRequester l)).trans a
    have hj' := (hs.job l).trans hj
    unfold State.linkStamped
    rw [hj']
    exact c.abortServed hj hq c1 hs hrs _
  · obtain ⟨hst, hr⟩ := c.release_asks hj hq
    obtain rfl : v = u := by
      rcases hr with h | h | h <;> cases h
      rfl
    obtain ⟨_, ha⟩ := c.awaits_of_state (.inl hst)
    have hheld := c.checkHeld_false qs (v := v) (by rw [hst]; decide) (by rw [hst]; decide)
    obtain ⟨c1, a, hrs⟩ := (c.grantedEnds (.inr hj) hheld hq).stamped w ha o pass
    have hs := (Served.granted s (linkRequester l)).trans a
    have hj' := (hs.job l).trans hj
    unfold State.linkStamped
    rw [hj']
    exact c1.endRelease (by rw [hs.visit]; exact hst) hrs _

theorem lapseStamped (c : Course s .idle) (qs : QueueSound s) (w : s.store.Whole) {v : VisitNo} {o : LogOutcome}
    {pass : Option Nat} (hst : (s.visit v).state = .lapsing) :
    Course (((s.granted .expiry).stamp v o pass).1.follow.lapsed v) .idle := by
  obtain ⟨hab, ha⟩ := c.awaits_of_state (.inr hst)
  have hheld := c.checkHeld_false qs (v := v) (by rw [hst]; decide) (by rw [hst]; decide)
  have c0 : Course (s.granted .expiry) (.lapse v) := (c.grantedOther (.inr rfl)).take
    (fun m _ he => ((c.links m nofun).ending he).elim (by rw [hst]; decide) (by rw [hst]; decide)) hheld
  obtain ⟨c1, a, hrs⟩ := c0.stamped w ha o pass
  have hs := (Served.granted s .expiry).trans a
  exact c1.lapsed (by rw [hs.visit]; exact hst) (by rw [hs.visit]; exact hab) hrs

end Course

end Sys2Proof.Machine
end

section
/-! PROOFS. RECORDS over every grant of the store: the course of the work, and the books of the logs and the PENDING
lists (R9 to R15, R19, R22). -/

namespace Sys2Proof.Machine

theorem requester_cases (p : Requester) :
    (∃ l, p = linkRequester l) ∨ p = .check ∨ p = .sweep ∨ p = .expiry := by
  cases p
  case p0 => exact .inl ⟨.office, rfl⟩
  case p1 => exact .inl ⟨.loading, rfl⟩
  case p2 => exact .inl ⟨.gate, rfl⟩
  case p3 => exact .inl ⟨.audit, rfl⟩
  all_goals simp

/-- Where a list of a visit is the target, no head goes but onto a PENDING list (R6). -/
theorem Request.KeepsKinds.alloc_target {tgt : ListId} {cls : AllocClass} {x : Record}
    (h : (Request.alloc tgt cls x).KeepsKinds) :
    (∀ m : LogId, tgt ≠ m.list) ∧
      ((Request.alloc tgt cls x).pendingOf = none → ∀ k, x ≠ .logHead k) := by
  cases tgt with
  | comp v => exact ⟨fun m => by cases m <;> simp [LogId.list], fun _ k e => by subst e; exact h⟩
  | paper v => exact ⟨fun m => by cases m <;> simp [LogId.list], fun _ k e => by subst e; exact h⟩
  | pend v => exact ⟨fun m => by cases m <;> simp [LogId.list], fun e => by cases e⟩
  | _ => exact h.elim

theorem Request.KeepsKinds.splice_source {src tgt : ListId} (h : (Request.splice src tgt).KeepsKinds) (m : LogId) :
    src ≠ m.list := by
  rintro rfl
  cases m <;> cases tgt <;> exact h

/-- What a part at work is before a grant. -/
structure AtWork (s : State) : Prop where
  books  : Books s
  course : Course s .idle
  kinds  : KindsSound s
  queue  : QueueSound s
  lapses : LapsesSound s

namespace AtWork

variable {s t : State} {p : Requester} {q : Request}

/-- What EXPIRY waits for (R35, R160). -/
theorem expiry_asks (a : AtWork s) (hq : s.request .expiry = some q) :
    ∃ v, q = .stamped v .lapsed none ∧ (s.visit v).state = .lapsing := by
  rw [a.lapses.asked] at hq
  obtain ⟨v, hv, rfl⟩ := Option.map_eq_some_iff.1 hq
  exact ⟨v, rfl, (a.lapses.lapsing v).1 (List.mem_of_mem_head? hv)⟩

/-- The heads that are allocated are unstamped (R41, R148). -/
theorem alloc_unstamped (a : AtWork s) {tgt : ListId} {cls : AllocClass} {x : Record}
    (hq : s.request p = some (.alloc tgt cls x)) (k : LogHead) (hx : x = .logHead k) : k.seq = none := by
  have apart : (Request.alloc tgt cls x).pendingOf = none → k.seq = none := fun h =>
    ((a.kinds.waiting p _ hq).alloc_target.2 h k hx).elim
  rcases requester_cases p with ⟨l, rfl⟩ | rfl | rfl | rfl
  · rcases Course.ending_cases s l with he | ⟨v, seq, hj⟩ | ⟨v, hj⟩
    · exact apart (a.course.apart he hq)
    · obtain ⟨_, _, _, _, hr⟩ := a.course.abort_asks hj hq
      rcases abortRequest_cases hr with ⟨h, _⟩ | h | h | h | ⟨h, _⟩ <;> cases h
      cases hx
      rfl
    · obtain ⟨_, h | h | h⟩ := a.course.release_asks hj hq <;> cases h
  · obtain ⟨c, _, hs⟩ := a.course.check_some hq
    exact ((hs.alloc hq).1.alloc hq).2.2 k hx
  · exact apart (a.course.sweeps _ (.inl hq))
  · obtain ⟨_, h, _⟩ := a.expiry_asks hq
    cases h

/-- What is stamped awaits its stamp (R14, R43). -/
theorem stamp_awaits (a : AtWork s) {v : VisitNo} {o : LogOutcome} {pass : Option Nat}
    (hq : s.request p = some (.stamped v o pass)) : AwaitsStamp (s.store.recordsOn (.pend v)) := by
  rcases requester_cases p with ⟨l, rfl⟩ | rfl | rfl | rfl
  · rcases Course.ending_cases s l with he | ⟨u, seq, hj⟩ | ⟨u, hj⟩
    · have := a.course.apart he hq
      cases this
    · obtain ⟨rfl, h⟩ := a.course.awaits_of_abort hj hq
      exact h
    · obtain ⟨hst, h | h | h⟩ := a.course.release_asks hj hq <;> cases h
      exact (a.course.awaits_of_state (.inl hst)).2
  · exact (a.course.not_of_check hq rfl).elim
  · have := a.course.sweeps _ (.inl hq)
    cases this
  · obtain ⟨u, h, hst⟩ := a.expiry_asks hq
    cases h
    exact (a.course.awaits_of_state (.inr hst)).2

/-! ### The books of each grant -/

theorem allocation_books (a : AtWork s) (h : exec .allocation s = .next t) : Books t := by
  rcases allocation_cases h with ⟨rfl, _⟩ | ⟨p, tgt, cls, x, hg, ⟨_, ht⟩ | ⟨st, i, hr, ha, ht⟩⟩
  · exact a.books
  · exact a.books.congr ht.store ht.seqs
  · have hq := (grant_some hg).2.2
    have hk := a.kinds.waiting p _ hq
    refine (a.books.allocated ha hk.alloc.2 hk.alloc_target.1 hk.alloc.1 (a.alloc_unstamped hq) fun hh hp => ?_).congr
      ht.store ht.seqs
    by_contra hno
    rw [allocRefused_iff.2 (.inr (.inr ⟨hh, hp, by omega⟩))] at hr
    cases hr

theorem slotWrite_books (a : AtWork s) (h : exec .slotWrite s = .next t) : Books t := by
  rcases slotWrite_cases h with ⟨rfl, _⟩ | ⟨p, l, i, f, _, ⟨_, ht⟩ | ⟨st, hw, ht⟩⟩
  · exact a.books
  · exact a.books.congr ht.store ht.seqs
  · exact (a.books.written hw).congr ht.store ht.seqs

theorem wholeListSplice_books (a : AtWork s) (h : exec .wholeListSplice s = .next t) : Books t := by
  rcases wholeListSplice_cases h with ⟨rfl, _⟩ | ⟨p, src, tgt, hg, ht⟩
  · exact a.books
  · have hk := a.kinds.waiting p _ (grant_some hg).2.2
    obtain ⟨rfl, hf⟩ := hk.splice
    exact (a.books.returned hf hk.splice_source).congr ht.store ht.seqs

theorem stampedSplice_books (a : AtWork s) (h : exec .stampedSplice s = .next t) : Books t := by
  rcases stampedSplice_cases h with ⟨rfl, _⟩ | ⟨p, v, o, pass, hg, ht⟩
  · exact a.books
  · have ha := a.stamp_awaits (grant_some hg).2.2
    obtain ⟨i, hi, _, he⟩ := Course.stamp_awaiting (s := s.granted p) a.books.whole ha o pass
    rw [he] at ht
    exact a.books.stamped ha hi ht.store ht.seqs

theorem headSplice_books (a : AtWork s) (h : exec .headSplice s = .next t) : Books t := by
  rcases headSplice_cases h with ⟨rfl, _⟩ | ⟨p, m, k, _, ht⟩
  · exact a.books
  · exact (a.books.headSpliced m k).congr ht.store ht.seqs

/-! ### The course of each grant -/

/-- A grant of the Sweep Unit or EXPIRY leaves the PENDING lists but by the stamp of a lapse. -/
theorem other_untouched (a : AtWork s) (hp : p = .sweep ∨ p = .expiry) (hq : s.request p = some q)
    (hn : ∀ v o pass, q ≠ .stamped v o pass) : q.pendingOf = none := by
  rcases hp with rfl | rfl
  · exact a.course.sweeps _ (.inl hq)
  · obtain ⟨v, rfl, _⟩ := a.expiry_asks hq
    exact (hn _ _ _ rfl).elim

theorem allocation (a : AtWork s) (h : exec .allocation s = .next t) : Course t .idle := by
  change execAllocation s = .next t at h
  unfold execAllocation at h
  split at h
  · next p tgt cls x hg =>
    have hq := (grant_some hg).2.2
    have hf := (a.kinds.waiting p _ hq).alloc.2
    split at h
    · obtain rfl := Host.Outcome.next.inj h
      unfold State.allocated
      rcases requester_cases p with ⟨l, rfl⟩ | rfl | hp
      · rw [linkRequester_link]
        exact a.course.linkAllocRefused hq
      · exact a.course.checkAllocRefused hq
      · rcases hp with rfl | rfl
        · exact a.course.grantedOther (.inl rfl)
        · exact a.course.grantedOther (.inr rfl)
    · split at h
      · cases h
      · next st r ha =>
        obtain rfl := Host.Outcome.next.inj h
        unfold State.allocated
        rcases requester_cases p with ⟨l, rfl⟩ | rfl | hp
        · rw [linkRequester_link]
          exact a.course.linkAllocMade a.books.whole hf hq ha
        · exact a.course.checkAllocMade a.queue a.books.whole hq ha
        · have hn := a.other_untouched hp hq (by nofun)
          have c := ((a.course.grantedOther hp).withStore (st := st) fun v _ => Store.untouched_allocate a.books.whole hf ha
            (by simp) (Request.pend_ne_of_alloc (by rw [hn]; nofun))).reportList rfl tgt
          rcases hp with rfl | rfl <;> exact c
  · obtain rfl := Host.Outcome.next.inj h
    exact a.course

theorem slotRead (a : AtWork s) (h : exec .slotRead s = .next t) : Course t .idle := by
  change execSlotRead s = .next t at h
  unfold execSlotRead at h
  split at h
  · next p m i hg =>
    have hq := (grant_some hg).2.2
    simp only at h
    split at h
    · cases h
    · next hlost =>
      obtain rfl := Host.Outcome.next.inj h
      unfold State.readBy
      rcases requester_cases p with ⟨l, rfl⟩ | rfl | rfl | rfl
      · rw [linkRequester_link]
        exact (a.course.grantedLink hq).linkRead (a.course.harmless hq rfl) _
      · exact a.course.checkReadAnswered hq (by simpa using hlost)
      · exact (a.course.grantedOther (.inl rfl)).sweepRead _ _
      · exact a.course.grantedOther (.inr rfl)
  · obtain rfl := Host.Outcome.next.inj h
    exact a.course

theorem slotWrite (a : AtWork s) (h : exec .slotWrite s = .next t) : Course t .idle := by
  obtain rfl := Host.Outcome.next.inj h
  split
  · next p m r f hg =>
    have hq := (grant_some hg).2.2
    split
    · next st hw =>
      have others : (Request.write m r f).pendingOf = none → ∀ v, Store.Untouched s.store st (.pend v) := fun hn v =>
        Store.untouched_write a.books.whole hw (Request.pend_ne_of_write (by rw [hn]; nofun))
      unfold State.writtenBy
      rcases requester_cases p with ⟨l, rfl⟩ | rfl | hp
      · rw [linkRequester_link]
        have he := a.course.harmless hq rfl
        have c1 := (a.course.grantedLink hq).changeStore (st := st) fun v _ => others (a.course.apart he hq) v
        have hs := ((Served.granted s _).trans (Served.setStore _ st)).trans (Served.reportList c1 rfl m)
        exact (c1.reportList rfl m).linkWritten (fun v hv => he v (hs.ends.1 hv)) _
      · exact a.course.checkWriteMade a.queue a.books.whole hq hw
      · have hn := a.other_untouched hp hq (by nofun)
        have c := ((a.course.grantedOther hp).changeStore (st := st) fun v _ => others hn v).reportList rfl m
        rcases hp with rfl | rfl <;> exact c
    · unfold State.writtenBy
      rcases requester_cases p with ⟨l, rfl⟩ | rfl | rfl | rfl
      · rw [linkRequester_link]
        exact (a.course.grantedLink hq).linkWritten (a.course.harmless hq rfl) _
      · exact a.course.checkWriteMissed hq
      · exact a.course.grantedOther (.inl rfl)
      · exact a.course.grantedOther (.inr rfl)
  · exact a.course

theorem wholeListSplice (a : AtWork s) (h : exec .wholeListSplice s = .next t) : Course t .idle := by
  obtain rfl := Host.Outcome.next.inj h
  split
  · next p src tgt hg =>
    have hq := (grant_some hg).2.2
    obtain ⟨rfl, hf⟩ := (a.kinds.waiting p _ hq).splice
    unfold State.splicedBy
    rcases requester_cases p with ⟨l, rfl⟩ | rfl | hp
    · rw [linkRequester_link]
      exact a.course.linkSplicedMade a.books.whole hf hq
    · exact a.course.checkSpliceMade a.queue a.books.whole hq
    · have hn := a.other_untouched hp hq (by nofun)
      have c := ((a.course.grantedOther hp).withStore (st := s.store.splice src .free) fun v _ =>
        Store.untouched_splice a.books.whole hf (Request.pend_ne_of_splice (by rw [hn]; nofun)) (by simp)).reportList rfl src
      rcases hp with rfl | rfl <;> exact c
  · exact a.course

theorem stampedSplice (a : AtWork s) (h : exec .stampedSplice s = .next t) : Course t .idle := by
  obtain rfl := Host.Outcome.next.inj h
  split
  · next p v o pass hg =>
    have hq := (grant_some hg).2.2
    have ha := a.stamp_awaits hq
    unfold State.stampedBy
    rcases requester_cases p with ⟨l, rfl⟩ | rfl | rfl | rfl
    · rw [linkRequester_link]
      exact a.course.linkStampedMade a.queue a.books.whole hq
    · exact (a.course.not_of_check hq rfl).elim
    · have := a.course.sweeps _ (.inl hq)
      cases this
    · obtain ⟨u, h, hst⟩ := a.expiry_asks hq
      cases h
      exact a.course.lapseStamped a.queue a.books.whole hst
  · exact a.course

theorem headSplice (a : AtWork s) (h : exec .headSplice s = .next t) : Course t .idle := by
  obtain rfl := Host.Outcome.next.inj h
  split
  · next p m k hg =>
    have hq := (grant_some hg).2.2
    have others : ∀ v, Store.Untouched s.store (s.store.headSplice m k).1 (.pend v) := fun v =>
      Store.untouched_headSplice a.books.whole m k (by cases m <;> simp [LogId.list]) (by simp)
    rcases requester_cases p with ⟨l, rfl⟩ | rfl | hp
    · have he := a.course.harmless hq rfl
      exact ((a.course.grantedLink hq).withStore fun v _ => others v).headSplicedBy fun v hv =>
        he v ((Served.grant s _ _).ends.1 hv)
    · exact (a.course.not_of_check hq rfl).elim
    · have c := (a.course.grantedOther hp).withStore fun v _ => others v
      rcases hp with rfl | rfl <;> exact c
  · exact a.course

theorem serviceTableGrant (a : AtWork s) (h : exec .serviceTableGrant s = .next t) : Course t .idle := by
  obtain rfl := Host.Outcome.next.inj h
  split
  · next p ps hg =>
    have hq := (grant_some hg).2.2
    have c : Course { s with service := ps, index := 0 } .idle := a.course.of_rest rfl rfl rfl rfl rfl rfl
    rcases requester_cases p with ⟨l, rfl⟩ | rfl | hp
    · rw [linkRequester_link]
      exact (c.clearedLink hq).answer _ _
    · exact (a.course.not_of_check hq rfl).elim
    · rcases hp with rfl | rfl
      · exact c.clearedOther (.inl rfl)
      · exact c.clearedOther (.inr rfl)
  · exact a.course

theorem storeCountsGrant (a : AtWork s) (h : exec .storeCountsGrant s = .next t) : Course t .idle := by
  obtain rfl := Host.Outcome.next.inj h
  split
  · next p v hg =>
    have hq := (grant_some hg).2.2
    rcases requester_cases p with ⟨l, rfl⟩ | rfl | hp
    · rw [linkRequester_link]
      exact (a.course.grantedLink hq).answer _ _
    · exact (a.course.not_of_check hq rfl).elim
    · rcases hp with rfl | rfl
      · exact a.course.grantedOther (.inl rfl)
      · exact a.course.grantedOther (.inr rfl)
  · exact a.course

theorem serviceTurn (a : AtWork s) (h : exec .serviceTurn s = .next t) : Course t .idle := by
  rcases serviceTurn_cases h with rfl | rfl
  · exact a.course
  · exact a.course.advance

end AtWork

end Sys2Proof.Machine
end

section
/-! PROOFS. RECORDS over the resets: the reset work of the visits and what a part holds that no work is in flight of
(R24, R45, R46, R208, R209). -/

namespace Sys2Proof.Machine

/-! ### A part with no work in flight -/

/-- Empty buffers, no request, no check and nothing held back (R202, R209). -/
structure Still (s : State) : Prop where
  lines    : ∀ l, (s.link l).bufA = .empty ∧ (s.link l).bufB = .empty
  requests : ∀ p, s.request p = none
  check    : s.dcu.check = none
  deferred : s.sweep.deferred = none

namespace Still

variable {s t : State}

theorem congr (h : Still s) (hl : t.links = s.links) (hr : t.requests = s.requests) (hd : t.dcu = s.dcu)
    (hw : t.sweep = s.sweep) : Still t := by
  refine ⟨fun l => ?_, fun p => ?_, by rw [hd]; exact h.check, by rw [hw]; exact h.deferred⟩
  · rw [State.link_congr hl]
    exact h.lines l
  · rw [State.request_congr hr]
    exact h.requests p

/-- Flags of a link. -/
theorem setFlags (h : Still s) (l : LinkNo) (f : FlagWord) : Still (s.setLink l { s.link l with flags := f }) := by
  refine ⟨fun m => ?_, h.requests, h.check, h.deferred⟩
  by_cases e : l = m
  · subst e
    rw [State.link_setLink_self]
    exact h.lines l
  · rw [State.link_setLink_ne _ _ e]
    exact h.lines m

theorem follow (h : Still s) : Still s.follow := by
  unfold State.follow
  have h' := (h.setFlags .office (putFlag (putFlag (putFlag (s.link .office).flags .storeLow s.storeLow) .logReady
    s.logReady) .excReady s.excReady)).setFlags .audit (putFlag (s.link .audit).flags .logReady s.logReady)
  rw [State.link_setLink_ne _ _ (by decide)] at h'
  exact h'

theorem job (h : Still s) (l : LinkNo) : s.job l = none := by
  unfold State.job State.executing Link.executing
  rw [(h.lines l).1, (h.lines l).2]
  rfl

/-- Nothing changes a PENDING list where no work is in flight. -/
theorem work (h : Still s) : WorkSound s where
  onebusy l := by
    rw [(h.lines l).1]
    rfl
  idle l _ := h.requests _
  aborts l v seq hj := by
    rw [h.job] at hj
    cases hj
  releases l v hj := by
    rw [h.job] at hj
    cases hj
  single l _ v he _ := (not_endsVisit_none (h.job l) v he).elim
  owned l r v hr _ := by
    rw [h.requests] at hr
    cases hr
  checks c hc := by
    rw [h.check] at hc
    cases hc
  rests _ := h.requests _
  sweeps r hr := by
    rw [h.requests, h.deferred] at hr
    rcases hr with hr | hr <;> cases hr

theorem discarded (s : State) : Still s.discarded where
  lines l := by cases l <;> exact ⟨rfl, rfl⟩
  requests p := by simp [State.discarded, State.request]
  check := rfl
  deferred := rfl

end Still

/-! ### The reset work of a visit (R45, R46) -/

/-- RECORDS in the course of the reset work: what holds of every visit but the one at work. -/
structure Settling (s : State) (h : Option VisitNo) : Prop where
  books   : Books s
  still   : Still s
  pending : ∀ w, h ≠ some w → PendingFits (s.visit w) (s.store.recordsOn (.pend w))

namespace Settling

variable {s : State} {v : VisitNo} {h : Option VisitNo}

theorem congr {t : State} (a : Settling s h) (hs : t.store = s.store) (hn : t.logs.seqs = s.logs.seqs)
    (hv : t.visits = s.visits) (ht : Still t) : Settling t h := by
  refine ⟨a.books.congr hs hn, ht, fun w hw => ?_⟩
  rw [State.visit_congr hv, hs]
  exact a.pending w hw

theorem take (a : Settling s none) (v : VisitNo) : Settling s (some v) := ⟨a.books, a.still, fun w _ => a.pending w nofun⟩

theorem setVisit (a : Settling s (some v)) (x : Visit) : Settling (s.setVisit v x) (some v) := by
  refine ⟨a.books.congr rfl rfl, a.still.congr rfl rfl rfl rfl, fun w hw => ?_⟩
  rw [State.visit_setVisit_ne _ _ fun e => hw (congrArg some e)]
  exact a.pending w hw

/-- The work of a visit ends in a record that its PENDING list fits. -/
theorem leave (a : Settling s (some v)) {x : Visit} (hx : PendingFits x (s.store.recordsOn (.pend v))) :
    Settling (s.setVisit v x) none := by
  obtain ⟨hb, hs, hp⟩ := a.setVisit x
  refine ⟨hb, hs, fun w _ => ?_⟩
  by_cases e : v = w
  · subst e
    rw [State.visit_setVisit_self]
    exact hx
  · exact hp w fun e' => e (Option.some.inj e')

/-- … at rest, with its PENDING list empty. -/
theorem leaveAtRest (a : Settling s (some v)) {x : Visit} (hst : x.state.rests = true) (hab : x.abort = none)
    (hrs : s.store.recordsOn (.pend v) = []) : Settling (s.setVisit v x) none :=
  a.leave ((pendingFits_rests hst).2 ⟨hab, hrs⟩)

theorem freeUp (a : Settling s (some v)) (hrs : s.store.recordsOn (.pend v) = []) : Settling (s.freeUp v) none :=
  a.leaveAtRest rfl rfl hrs

theorem settledUnrecorded (a : Settling s (some v)) (hrs : s.store.recordsOn (.pend v) = []) :
    Settling (s.settledUnrecorded v) none :=
  (a.freeUp hrs).congr rfl rfl rfl ((a.freeUp hrs).still.setFlags _ _)

theorem changeStore (a : Settling s h) {st : Store} (hb : Books (s.setStore st))
    (others : ∀ w, h ≠ some w → Store.Untouched s.store st (.pend w)) : Settling (s.setStore st) h :=
  ⟨hb, a.still.congr rfl rfl rfl rfl, fun w hw => by
    rw [State.setStore_store, (others w hw).recordsOn]
    exact a.pending w hw⟩

/-- A return of a list, of no PENDING list but that of the visit at work. -/
theorem returned (a : Settling s h) {l : ListId} (hf : l ≠ .free) (hl : ∀ m : LogId, l ≠ m.list)
    (own : ∀ w, l = .pend w → h = some w) : Settling (s.returned l) h :=
  a.changeStore (a.books.returned hf hl) fun w hw =>
    Store.untouched_splice a.books.whole hf (fun e => hw (own w e.symm)) (by simp)

theorem returnedComp (a : Settling s h) (v : VisitNo) : Settling (s.returned (.comp v)) h :=
  a.returned (by simp) (fun m => by cases m <;> simp [LogId.list]) nofun

theorem returnedPaper (a : Settling s h) (v : VisitNo) : Settling (s.returned (.paper v)) h :=
  a.returned (by simp) (fun m => by cases m <;> simp [LogId.list]) nofun

theorem returnedPend (a : Settling s (some v)) :
    Settling (s.returned (.pend v)) (some v) ∧ (s.returned (.pend v)).store.recordsOn (.pend v) = [] :=
  ⟨a.returned (by simp) (fun m => by cases m <;> simp [LogId.list]) fun _ e => congrArg some (ListId.pend.inj e),
    Store.recordsOn_splice a.books.whole (by simp)⟩

/-- The lists of papers and compartments are returned beside the PENDING lists. -/
theorem recordsOn_returned (a : Settling s h) {l : ListId} (hf : l ≠ .free) {w : VisitNo} (hl : ListId.pend w ≠ l) :
    (s.returned l).store.recordsOn (.pend w) = s.store.recordsOn (.pend w) :=
  (Store.untouched_splice a.books.whole hf hl (by simp)).recordsOn

/-- The record of the visit at work is stamped (R14). -/
theorem stampedNow (a : Settling s (some v)) (ha : AwaitsStamp (s.store.recordsOn (.pend v))) (o : LogOutcome)
    (pass : Option Nat) : Settling (s.stampedNow v o pass) (some v) ∧
      (s.stampedNow v o pass).visits = s.visits ∧ (s.stampedNow v o pass).store.recordsOn (.pend v) = [] := by
  obtain ⟨i, hi, ho, he⟩ := Course.stamp_awaiting a.books.whole ha o pass
  unfold State.stampedNow
  rw [he]
  refine ⟨⟨a.books.stamped ha hi rfl rfl, a.still.congr rfl rfl rfl rfl, fun w hw => ?_⟩, rfl, ?_⟩
  · have h := Store.untouched_stampedStore (l := .pend w) (o := o) (pass := pass) (seq := s.logs.seqs + 1) a.books.whole ho
      (fun e => hw (congrArg some (ListId.pend.inj e).symm)) (by cases o <;> simp [LogOutcome.target, LogId.list])
    show PendingFits (s.visit w) ((stampedStore s.store v o pass (s.logs.seqs + 1) i).recordsOn (.pend w))
    rw [h.recordsOn]
    exact a.pending w hw
  · show (stampedStore s.store v o pass (s.logs.seqs + 1) i).recordsOn (.pend v) = []
    unfold Store.recordsOn
    rw [(chain_stampedStore a.books.whole v o pass _ i).2.1]
    rfl

/-! #### The rest of an abort's course -/

/-- An abort at work in a reset, with what its PENDING list holds between two grants of its course. -/
structure Aborting (s : State) (v : VisitNo) (k : AbortCourse) : Prop where
  settling : Settling s (some v)
  state    : (s.visit v).state = .aborting
  course   : (s.visit v).abort = some k
  last     : abortRequest v (s.visit v) k = none → s.store.recordsOn (.pend v) = []
  more     : ∀ q, abortRequest v (s.visit v) k = some q → PendingFits (s.visit v) (s.store.recordsOn (.pend v))

/-- One grant of the course. -/
theorem Aborting.counted {t : State} {k : AbortCourse} {q : Request} (a : Aborting s v k)
    (hq : abortRequest v (s.visit v) k = some q) (at' : Settling t (some v)) (hv : t.visits = s.visits)
    (hrs : t.store.recordsOn (.pend v) = q.leaves (s.store.recordsOn (.pend v))) :
    Aborting (t.countAbort v k) v { k with answered := k.answered + 1 } := by
  obtain ⟨last, more⟩ := abort_fits (a.more q hq) a.state a.course hq
  have hvisit : (t.countAbort v k).visit v =
      { s.visit v with abort := some { k with answered := k.answered + 1 } } := by
    unfold State.countAbort
    rw [State.visit_setVisit_self, State.visit_congr hv]
  refine ⟨at'.setVisit _, by rw [hvisit]; exact a.state, by rw [hvisit], fun hn => ?_, fun r hr => ?_⟩
  · show t.store.recordsOn (.pend v) = []
    rw [hrs]
    refine last ?_
    rw [hvisit] at hn
    exact hn
  · rw [hvisit] at hr ⊢
    show PendingFits _ (t.store.recordsOn (.pend v))
    rw [hrs]
    exact more r hr

theorem settleAbort {fuel : Nat} : ∀ {s : State} {k : AbortCourse}, Aborting s v k → 5 ≤ k.answered + fuel →
    Settling (State.settleAbort v fuel s) none := by
  induction fuel with
  | zero =>
    intro s k a hk
    refine a.settling.freeUp (a.last ?_)
    obtain ⟨b, n⟩ := k
    obtain ⟨n, rfl⟩ := Nat.exists_eq_add_of_le' (show 5 ≤ n from hk)
    cases b <;> rfl
  | succ fuel ih =>
    intro s k a hk
    have next : ∀ t, Aborting t v { k with answered := k.answered + 1 } → Settling (State.settleAbort v fuel t) none :=
      fun t a' => ih a' (by show 5 ≤ k.answered + 1 + fuel; omega)
    unfold State.settleAbort
    rw [a.course]
    simp only
    split
    · next source _ hq =>
      refine next _ (a.counted hq (t := s.returned source) ?_ rfl ?_)
      · rcases abortRequest_cases hq with ⟨h, _⟩ | h | h | h | ⟨h, _⟩ <;> cases h
        · exact a.settling.returnedComp v
        · exact a.settling.returnedPaper v
        · exact a.settling.returnedPend.1
      · rcases abortRequest_cases hq with ⟨h, _⟩ | h | h | h | ⟨h, _⟩ <;> cases h
        · exact a.settling.recordsOn_returned (by simp) (by simp)
        · exact a.settling.recordsOn_returned (by simp) (by simp)
        · exact a.settling.returnedPend.2
    · next o pass hq =>
      have hp := a.more _ hq
      have ha : AwaitsStamp (s.store.recordsOn (.pend v)) := by
        rcases abortRequest_cases hq with ⟨h, hk | hk⟩ | h | h | h | ⟨h, _⟩ <;> cases h
        · exact by simpa using (pendingFits_cleared a.state (a.course.trans (congrArg some hk))).1 hp
        · exact by simpa using (pendingFits_other a.state (a.course.trans (congrArg some hk))).1 hp
      obtain ⟨at', hv, hrs⟩ := a.settling.stampedNow ha o pass
      exact next _ (a.counted hq at' hv hrs)
    · next target cls record hq =>
      obtain ⟨rfl, rfl, hk⟩ : target = .pend v ∧ record = abortHead v (s.visit v) ∧ k = ⟨false, 3⟩ := by
        rcases abortRequest_cases hq with ⟨h, _⟩ | h | h | h | ⟨h, hk⟩ <;> cases h
        exact ⟨rfl, rfl, hk⟩
      have hrs : s.store.recordsOn (.pend v) = [] := by
        simpa using (pendingFits_other a.state (a.course.trans (congrArg some hk))).1 (a.more _ hq)
      split
      · exact a.settling.settledUnrecorded hrs
      · next hr =>
        split
        · exact a.settling.settledUnrecorded hrs
        · next st r ha =>
          have hf : ListId.pend v ≠ .free := by simp
          refine next _ (a.counted hq (t := s.setStore st) (a.settling.changeStore ?_ fun w hw => ?_) rfl ?_)
          · refine a.settling.books.allocated ha hf (fun m => by cases m <;> simp [LogId.list]) (.inl rfl)
              (fun k h => by cases h; rfl) fun hh hp => ?_
            by_contra hno
            exact hr (allocRefused_iff.2 (.inr (.inr ⟨hh, hp, by omega⟩)))
          · exact Store.untouched_allocate a.settling.books.whole hf ha (by simp) fun e =>
              hw (congrArg some (ListId.pend.inj e).symm)
          · exact (Store.chain_allocate a.settling.books.whole hf ha).1
    · next h1 h2 h3 =>
      refine a.settling.freeUp (a.last ?_)
      cases hq : abortRequest v (s.visit v) k with
      | none => rfl
      | some q =>
        rcases abortRequest_cases hq with ⟨rfl, _⟩ | rfl | rfl | rfl | ⟨rfl, _⟩
        · exact (h2 _ _ _ hq).elim
        · exact (h1 _ _ hq).elim
        · exact (h1 _ _ hq).elim
        · exact (h1 _ _ hq).elim
        · exact (h3 _ _ _ hq).elim

/-- An abort whose PENDING list fits has a grant of its course to come. -/
theorem fits_asks {x : Visit} {rs : List Record} {k : AbortCourse} (hst : x.state = .aborting) (hab : x.abort = some k)
    (hp : PendingFits x rs) : abortRequest v x k ≠ none := by
  obtain ⟨b, n⟩ := k
  cases b
  · have hn : n < 5 := by rcases (pendingFits_other hst hab).1 hp with ⟨h, _⟩ | ⟨h, _⟩ | ⟨h, _⟩ <;> omega
    interval_cases n <;> simp [abortRequest]
  · have hn : n < 3 := by rcases (pendingFits_cleared hst hab).1 hp with ⟨h, _⟩ | ⟨_, h, _⟩ <;> omega
    interval_cases n <;> simp [abortRequest]

theorem unqueued_rests (x : Visit) : (State.unqueued x).state.rests = true := by
  unfold State.unqueued
  cases x.heldOrigin <;> rfl

/-- The reset work of a visit's state (R45, R46). -/
theorem settleState (a : Settling s none) (v : VisitNo) : Settling (s.settleState v) none := by
  have hp := a.pending v nofun
  have empty : (s.visit v).state.rests = true → s.store.recordsOn (.pend v) = [] := fun h => ((pendingFits_rests h).1 hp).2
  have noAbort : (s.visit v).state ≠ .aborting → (s.visit v).abort = none := Visit.fits_abort_none hp
  have awaits : (s.visit v).state = .cleared ∨ (s.visit v).state = .lapsing ∨ (s.visit v).state = .releasing →
      AwaitsStamp (s.store.recordsOn (.pend v)) := by
    intro h
    have hab := noAbort (by rcases h with h | h | h <;> rw [h] <;> decide)
    unfold PendingFits at hp
    rw [hab] at hp
    rcases h with h | h | h <;> rw [h] at hp <;> exact hp
  have lapse : (s.visit v).state = .cleared ∨ (s.visit v).state = .lapsing →
      Settling ((s.stampedNow v .resetLapsed none).setVisit v (State.resetLapsed (s.visit v))) none := by
    intro h
    obtain ⟨a', _, hrs⟩ := (a.take v).stampedNow (awaits (h.imp id .inl)) .resetLapsed none
    exact a'.leaveAtRest rfl (noAbort (by rcases h with h | h <;> rw [h] <;> decide)) hrs
  unfold State.settleState
  simp only
  split
  · next hst =>
    split
    · refine ((a.take v).returnedComp v).freeUp ?_
      rw [a.recordsOn_returned (by simp) (by simp)]
      exact empty (by rw [hst]; rfl)
    · exact a
  · next hst =>
    exact (a.take v).leaveAtRest (unqueued_rests _) (noAbort (by rw [hst]; decide)) (empty (by rw [hst]; rfl))
  · next hst =>
    obtain ⟨a', hrs⟩ := (a.take v).returnedPend
    exact a'.leaveAtRest (unqueued_rests _) (noAbort (by rw [hst]; decide)) hrs
  · next hst => exact lapse (.inl hst)
  · next hst => exact lapse (.inr hst)
  · next hst =>
    have a1 := (a.take v).returnedComp v
    have a2 := a1.returnedPaper v
    have h : ((s.returned (.comp v)).returned (.paper v)).store.recordsOn (.pend v) = s.store.recordsOn (.pend v) :=
      (a1.recordsOn_returned (by simp) (by simp)).trans (a.recordsOn_returned (by simp) (by simp))
    obtain ⟨a3, _, hrs⟩ := a2.stampedNow (h ▸ awaits (.inr (.inr hst))) .released (s.visit v).passMinute
    exact a3.freeUp hrs
  · next hst =>
    cases hab : (s.visit v).abort with
    | none =>
      unfold PendingFits at hp
      rw [hst, hab] at hp
      exact hp.elim
    | some k =>
      exact settleAbort (k := k) ⟨a.take v, hst, hab, fun h => (fits_asks hst hab hp h).elim, fun _ _ => hp⟩ (by omega)
  · exact a

theorem settleAll (vs : List VisitNo) : ∀ {s : State}, Settling s none → Settling (State.settleAll vs s) none := by
  induction vs with
  | nil => exact id
  | cons v vs ih =>
    intro s a
    refine ih ?_
    unfold State.settlePaper
    split
    · exact (a.settleState v).returnedPaper v
    · exact a.settleState v

/-! ### Line and soft reset (R209) -/

/-- R209, from what stands of the logs and the PENDING lists in any part. -/
theorem reset209 (hb : Books s) (hp : ∀ v, PendingFits (s.visit v) (s.store.recordsOn (.pend v))) :
    Settling s.reset209 none := by
  have a : Settling s.discarded none := ⟨hb.congr rfl rfl, .discarded s, fun w _ => hp w⟩
  have registers : ∀ {u : State} (x : Control), Settling u none → Settling (u.setCc x) none := fun x a =>
    a.congr rfl rfl rfl (a.still.congr rfl rfl rfl rfl)
  have b : Settling (if s.keeps then s.discarded else s.discarded.defaulted) none := by
    split
    · exact a
    · exact a.congr rfl rfl rfl (a.still.congr rfl rfl rfl rfl)
  have follow : ∀ {u : State}, Settling u none → Settling u.follow none := fun a => a.congr rfl rfl rfl a.still.follow
  exact registers _ (follow (settleAll (List.finRange 48) (registers _ b)))

end Settling

end Sys2Proof.Machine
end

section
/-! PROOFS. Every command keeps what the logs and the PENDING lists hold (O57). -/

namespace Sys2Proof.Machine

/-! ### RECORDS, taken apart and put together -/

/-- A PENDING list holds no stamped head. -/
theorem books_of_records {s : State} (w : s.store.Whole) (k : KindsSound s) (r : RecordsSound s) : Books s := by
  refine ⟨w, k.slots, fun i h hr hp => ?_, r.logs, r.once, r.left⟩
  cases ho : (s.store.slot i).owner with
  | pend v => exact (r.pending v).unstamped h (List.mem_map.2 ⟨i, (Store.mem_chain w).2 ho, hr⟩)
  | _ =>
    rw [ho] at hp
    cases hp

theorem records_of_course {t : State} (b : Books t) (c : Course t .idle) : RecordsSound t :=
  ⟨fun v => c.pending v nofun, b.logs, b.once, b.left, fun _ => work_of_course c⟩

theorem records_of_settling {t : State} (a : Settling t none) : RecordsSound t :=
  ⟨fun v => a.pending v nofun, a.books.logs, a.books.once, a.books.left, fun _ => a.still.work⟩

/-- A part that is held or without its main supply keeps its lists and visits (R103, R208). -/
theorem RecordsSound.quiet {s t : State} (r : RecordsSound s) (ha : t.alive = false) (hs : t.store = s.store)
    (hn : t.logs.seqs = s.logs.seqs) (hv : t.visits = s.visits) : RecordsSound t := by
  refine ⟨fun v => ?_, fun m => (r.logs m).congr (by rw [hs]) (by rw [hs]) (by rw [hn]), by rw [hs]; exact r.once,
    by rw [hs, hn]; exact r.left, fun h => by rw [ha] at h; cases h⟩
  rw [State.visit_congr hv, hs]
  exact r.pending v

/-! ### Cold start (R209) -/

theorem cold_chain {l : ListId} (h : l ≠ .free) : Store.cold.chain l = [] := by
  have hlen := (Store.whole_cold l).length
  rw [cold_desc, if_neg h, show Desc.empty.count = 0 from rfl] at hlen
  exact List.length_eq_zero_iff.1 hlen

theorem cold_books (b : BitRate) (cs : List Instr) : Books (State.cold b cs) := by
  have hs : (State.cold b cs).store = Store.cold := rfl
  have no_head : ∀ i h, (Store.cold.slot i).record ≠ .logHead h := fun i h e => by
    rw [(cold_slot i).1] at e
    cases e
  have none_waits : Store.cold.waitingHeads = ∅ := Finset.eq_empty_of_forall_notMem fun i hi => by
    have := (Store.mem_waitingHeads.1 hi).1
    rw [(cold_slot i).1] at this
    cases this
  constructor
  case whole =>
    rw [hs]
    exact Store.whole_cold
  case kinds =>
    rw [hs]
    intro i
    rw [(cold_slot i).1, (cold_slot i).2]
    trivial
  case unstamped =>
    rw [hs]
    exact fun i h hr => (no_head i h hr).elim
  case logs =>
    intro m
    refine ⟨[], ?_, ?_, fun r hr => (by cases hr), .nil⟩
    · rw [hs]
      unfold Store.recordsOn
      rw [cold_chain (target_ne_free m)]
      rfl
    · cases m <;> rfl
  case once =>
    rw [hs]
    exact fun i _ h _ hr => (no_head i h hr).elim
  case left =>
    rw [hs, Store.outstanding_eq_card, none_waits]
    exact Nat.zero_le _

theorem cold_settling (b : BitRate) (cs : List Instr) : Settling (State.cold b cs) none := by
  refine ⟨cold_books b cs, ⟨fun l => by cases l <;> exact ⟨rfl, rfl⟩, cold_request b cs, rfl, rfl⟩, fun v _ => ?_⟩
  have hv : (State.cold b cs).visit v = Visit.freed 0 := by simp [State.cold, State.visit]
  rw [hv]
  refine (pendingFits_rests rfl).2 ⟨rfl, ?_⟩
  show (Store.cold.chain (.pend v)).map _ = []
  rw [cold_chain (by simp)]
  rfl

/-! ### The commands -/

/-- The commands of a turn. -/
def Instr.isTurn : Instr → Bool
  | .serviceTurn | .allocation | .slotRead | .slotWrite | .wholeListSplice | .stampedSplice | .headSplice
  | .serviceTableGrant | .storeCountsGrant => true
  | _ => false

/-- A turn passes, or is the command of a grant (R18). -/
theorem isTurn_cases {i : Instr} (h : Instr.isTurn i = true) : i = .serviceTurn ∨ ∃ r, i = grantCommand r := by
  cases i with
  | serviceTurn => exact .inl rfl
  | allocation => exact .inr ⟨.alloc .free .opened .none, rfl⟩
  | slotRead => exact .inr ⟨.read .free none, rfl⟩
  | slotWrite => exact .inr ⟨.write .free ⟨0, 0⟩ (.complete 0), rfl⟩
  | wholeListSplice => exact .inr ⟨.splice .free .free, rfl⟩
  | stampedSplice => exact .inr ⟨.stamped 0 .aborted none, rfl⟩
  | headSplice => exact .inr ⟨.headSplice .log 0, rfl⟩
  | serviceTableGrant => exact .inr ⟨.serviceTable [], rfl⟩
  | storeCountsGrant => exact .inr ⟨.storeCounts none, rfl⟩
  | _ => cases h

/-- The store takes no turn in a part that is held or without its main supply (R208). -/
theorem exec_turn_dead {i : Instr} {s t : State} (hi : Instr.isTurn i = true) (ha : s.alive = false)
    (h : exec i s = .next t) : t = s := by
  rcases isTurn_cases hi with rfl | ⟨r, rfl⟩
  · have hturn : s.turn = none := by
      unfold State.turn
      rw [ha]
      rfl
    rw [exec, execServiceTurn, hturn] at h
    exact (Host.Outcome.next.inj h).symm
  · rw [exec_not_due fun p q hg => by rw [(grant_some hg).1] at ha; cases ha] at h
    exact (Host.Outcome.next.inj h).symm

/-- A turn of the store. -/
theorem AtWork.turn {i : Instr} {s t : State} (a : AtWork s) (hi : Instr.isTurn i = true) (h : exec i s = .next t) :
    RecordsSound t := by
  cases i with
  | serviceTurn =>
    refine records_of_course ?_ (a.serviceTurn h)
    rcases serviceTurn_cases h with rfl | rfl
    · exact a.books
    · exact a.books.congr rfl rfl
  | allocation => exact records_of_course (a.allocation_books h) (a.allocation h)
  | slotRead =>
    refine records_of_course ?_ (a.slotRead h)
    rcases slotRead_cases h with ⟨rfl, _⟩ | ⟨_, _, _, _, ht⟩
    · exact a.books
    · exact a.books.congr ht.store ht.seqs
  | slotWrite => exact records_of_course (a.slotWrite_books h) (a.slotWrite h)
  | wholeListSplice => exact records_of_course (a.wholeListSplice_books h) (a.wholeListSplice h)
  | stampedSplice => exact records_of_course (a.stampedSplice_books h) (a.stampedSplice h)
  | headSplice => exact records_of_course (a.headSplice_books h) (a.headSplice h)
  | serviceTableGrant =>
    refine records_of_course ?_ (a.serviceTableGrant h)
    rcases serviceTableGrant_cases h with ⟨rfl, _⟩ | ⟨_, _, _, ht⟩
    · exact a.books
    · exact a.books.congr ht.store ht.seqs
  | storeCountsGrant =>
    refine records_of_course ?_ (a.storeCountsGrant h)
    rcases storeCountsGrant_cases h with ⟨rfl, _⟩ | ⟨_, _, _, ht⟩
    · exact a.books
    · exact a.books.congr ht.store ht.seqs
  | _ => cases hi

/-! ### Resets and supplies (R208) -/

theorem alive_of_rst {s : State} (h : s.rst = true) : s.alive = false := by
  unfold State.alive
  rw [h]
  simp

theorem alive_of_power {s : State} (h : s.power ≠ .main) : s.alive = false := by
  unfold State.alive
  simp [h]

theorem lineReset_records {s t : State} (b : Books s) (r : RecordsSound s) {cause : ResetCause} {straps : Straps}
    (h : exec (.lineReset cause straps) s = .next t) : RecordsSound t := by
  have reset : ∀ u : State, u.store = s.store → u.logs.seqs = s.logs.seqs → u.visits = s.visits →
      RecordsSound u.reset209 := fun u hs hn hv =>
    records_of_settling (Settling.reset209 (b.congr hs hn) fun v => by
      rw [State.visit_congr hv, hs]
      exact r.pending v)
  obtain rfl := Host.Outcome.next.inj h
  split
  · split
    · exact r
    · split
      · exact reset _ rfl rfl rfl
      · next hp => exact r.quiet (alive_of_power hp) rfl rfl rfl
  · split
    · exact r
    · split
      · next hr => exact r.quiet (alive_of_rst hr) rfl rfl rfl
      · exact reset _ rfl rfl rfl

theorem replySent_records {s t : State} (b : Books s) (r : RecordsSound s) {l : LinkNo}
    (h : exec (.replySent l) s = .next t) : RecordsSound t := by
  obtain rfl := Host.Outcome.next.inj h
  split
  · exact records_of_settling (Settling.reset209 b r.pending)
  · next ha _ =>
    exact records_of_course (b.congr rfl rfl) ((course_of_work r.pending (r.work ha)).setLine
      ((Link.putReplying_job _).trans (Link.wake_job l _)))
  · exact r

/-- A cold start with RST as it stands, or held for want of a supply. -/
theorem cold_records {b : BitRate} {cs : List Instr} {t : State} (hs : t.store = (State.cold b cs).store)
    (hn : t.logs.seqs = (State.cold b cs).logs.seqs) (hv : t.visits = (State.cold b cs).visits)
    (hl : t.links = (State.cold b cs).links) (hr : t.requests = (State.cold b cs).requests)
    (hd : t.dcu = (State.cold b cs).dcu) (hw : t.sweep = (State.cold b cs).sweep) : RecordsSound t :=
  have a := cold_settling b cs
  records_of_settling (a.congr hs hn hv (a.still.congr hl hr hd hw))

/-! ### Every command -/

theorem exec_records {i : Instr} {s t : State} (w : s.store.Whole) (kinds : KindsSound s)
    (sound : s.alive = true → QueueSound s ∧ LapsesSound s) (r : RecordsSound s) (h : exec i s = .next t) :
    RecordsSound t := by
  have b := books_of_records w kinds r
  cases hi : Instr.turnOrReset i with
  | false =>
    have hsteady := exec_steady hi h
    have hcourse := KeepsCourse.exec hi h
    cases ha : s.alive with
    | true =>
      exact records_of_course (b.congr hsteady.store hsteady.seqs)
        (hcourse.course ha (course_of_work r.pending (r.work ha)) (sound ha).1)
    | false =>
      rw [hcourse.quiet ha]
      exact r.quiet ha rfl rfl rfl
  | true =>
    cases hturn : Instr.isTurn i with
    | true =>
      cases ha : s.alive with
      | true =>
        exact AtWork.turn ⟨b, course_of_work r.pending (r.work ha), kinds, (sound ha).1, (sound ha).2⟩ hturn h
      | false =>
        rw [exec_turn_dead hturn ha h]
        exact r
    | false =>
      cases i with
      | replySent l => exact replySent_records b r h
      | rstAssert =>
        cases h
        exact r.quiet (alive_of_rst rfl) rfl rfl rfl
      | lineReset c x => exact lineReset_records b r h
      | coldStart x y =>
        cases h
        exact cold_records (b := BitRate.ofStraps x y) (cs := s.pending) rfl rfl rfl rfl rfl rfl rfl
      | mainSupplyLoss =>
        obtain rfl := Host.Outcome.next.inj h
        split
        · exact r.quiet (alive_of_power fun e => by cases e) rfl rfl rfl
        · exact r
      | backupSupplyLoss =>
        cases h
        exact cold_records (b := s.rate) (cs := s.pending) rfl rfl rfl rfl rfl rfl rfl
      | _ => simp_all [Instr.turnOrReset, Instr.isTurn]

/-- Settles O57: every command keeps the records, taken from the queue first (`exec_records`). -/
theorem recordsStaySound : Obligations.RecordsStaySound := by
  intro s t w kinds sound r h
  unfold step at h
  split at h
  · cases h
    exact r
  · next c cs _ =>
    have taken : RecordsSound { s with pending := cs } := ⟨r.pending, r.logs, r.once, r.left, fun ha =>
      work_of_course ((course_of_work r.pending (r.work ha)).of_rest rfl rfl rfl rfl rfl rfl)⟩
    refine exec_records (s := { s with pending := cs }) w ⟨kinds.slots, kinds.waiting, kinds.held⟩ (fun ha => ?_) taken h
    obtain ⟨q, l⟩ := sound ha
    exact ⟨⟨q.few, q.once, q.queued, q.checking⟩, ⟨l.once, l.lapsing, l.asked⟩⟩

end Sys2Proof.Machine
end

section
/-! PROOFS. What stands while a grant is served, and the grants of visits. -/

namespace Sys2Proof.Machine

/-! ### What stands while a grant is served -/

/-- The telegrams executing stand, and so does every visit that is not CHECKING; of a visit that is, the tag and what
ARRIVE gave it stand. -/
structure Undisturbed (s t : State) : Prop where
  executing : ∀ l, t.executing l = s.executing l
  visit     : ∀ v, (s.visit v).state ≠ .checking → t.visit v = s.visit v
  arrival   : ∀ v, (t.visit v).arrival = (s.visit v).arrival

namespace Undisturbed

variable {r s t : State}

theorem trans (a : Undisturbed r s) (b : Undisturbed s t) : Undisturbed r t :=
  ⟨fun l => (b.executing l).trans (a.executing l),
    fun v h => (b.visit v (by rwa [a.visit v h])).trans (a.visit v h), fun v => (b.arrival v).trans (a.arrival v)⟩

theorem of_eq (hl : t.links = s.links) (hv : t.visits = s.visits) : Undisturbed s t :=
  ⟨fun l => congrArg Link.executing (State.link_congr hl l), fun v _ => State.visit_congr hv v,
    fun v => congrArg Visit.arrival (State.visit_congr hv v)⟩

theorem setFlags (s : State) (l : LinkNo) (f : FlagWord) :
    Undisturbed s (s.setLink l { s.link l with flags := f }) := by
  refine ⟨fun m => ?_, fun _ _ => rfl, fun _ => rfl⟩
  show Link.executing (State.link _ m) = Link.executing (s.link m)
  by_cases e : l = m
  · subst e
    rw [State.link_setLink_self]
    rfl
  · rw [State.link_setLink_ne _ _ e]

theorem raise (s : State) (l : LinkNo) (f : Flag) : Undisturbed s (s.raise l f) := setFlags s l _

theorem follow (s : State) : Undisturbed s s.follow := by
  unfold State.follow
  have h := (setFlags s .office (putFlag (putFlag (putFlag (s.link .office).flags .storeLow s.storeLow) .logReady
    s.logReady) .excReady s.excReady)).trans (setFlags _ .audit (putFlag (s.link .audit).flags .logReady s.logReady))
  rwa [State.link_setLink_ne _ _ (by decide)] at h

theorem granted (s : State) (p : Requester) : Undisturbed s (s.granted p) := of_eq rfl rfl

theorem grantStore (s : State) (p : Requester) (st : Store) : Undisturbed s ((s.granted p).withStore st) :=
  trans (s := (s.granted p).setStore st) (of_eq rfl rfl) (follow _)

/-- A check that ends changes its own visit alone, and only where it is CHECKING. -/
theorem endCheck (s : State) (c : Check) (x : CheckRecord) (st : VisitState) (cl : Option Clearance) :
    Undisturbed s (s.endCheck c x st cl) := by
  refine trans ?_ (raise _ _ _)
  unfold State.changeVisit
  split
  · next hc =>
    refine ⟨fun _ => rfl, fun v hv => ?_, fun v => ?_⟩
    · refine State.visit_setVisit_ne s _ fun e => hv (e ▸ hc)
    · show ((s.setVisit _ _).visit v).arrival = _
      rw [State.visit_setVisit]
      split
      · next e => rw [← e]
      · rfl
  · exact of_eq rfl rfl

theorem report (s : State) (v : Option VisitNo) : Undisturbed s (s.report v) := by
  unfold State.report
  split
  · exact of_eq rfl rfl
  · split
    · split
      · exact of_eq rfl rfl
      · exact endCheck _ _ _ _ _
    · exact of_eq rfl rfl

theorem reportList (s : State) (l : ListId) : Undisturbed s (s.reportList l) := by
  unfold State.reportList
  split
  · exact report _ _
  · exact of_eq rfl rfl

theorem stamp (s : State) (v : VisitNo) (o : LogOutcome) (pass : Option Nat) : Undisturbed s (s.stamp v o pass).1 := by
  rcases stamp_cases s v o pass with ⟨_, e⟩ | ⟨_, _, e⟩ <;> rw [e] <;> exact of_eq rfl rfl

theorem job (a : Undisturbed s t) (l : LinkNo) : t.job l = s.job l := by
  unfold State.job
  rw [a.executing]

end Undisturbed

/-! ### Answers to the item in flight on a link -/

theorem finished_of_job {r : State} {l : LinkNo} {j : Job} (hj : r.job l = some j) (c : Code) (d : List Byte) :
    Finished r (r.answer l c d) l c d := by
  obtain ⟨e, k, he, hk, _⟩ := job_some hj
  exact State.finished_answer he hk c d

theorem continues_of_job {r : State} {l : LinkNo} {j : Job} (hj : r.job l = some j) (j' : Job) (q : Request) :
    Continues r (r.ask l j' q) l j' q := by
  obtain ⟨e, k, he, hk, _⟩ := job_some hj
  exact State.continues_ask he hk j' q

/-! ### The grants of a link's requester -/

theorem splice_granted {s : State} {l : LinkNo} {source target : ListId}
    (hg : s.grant = some (linkRequester l, .splice source target)) : exec .wholeListSplice s = .next
      ((((s.granted (linkRequester l)).withStore (s.store.splice source target)).reportList source).linkSpliced l
        source) := by
  show execWholeListSplice s = _
  unfold execWholeListSplice State.splicedBy
  simp only [hg, linkRequester_link]
  rfl

theorem stamp_granted {s : State} {l : LinkNo} {v : VisitNo} {o : LogOutcome} {pass : Option Nat}
    (hg : s.grant = some (linkRequester l, .stamped v o pass)) : exec .stampedSplice s = .next
      (((s.granted (linkRequester l)).stamp v o pass).1.follow.linkStamped l
        ((s.granted (linkRequester l)).stamp v o pass).2) := by
  show execStampedSplice s = _
  unfold execStampedSplice State.stampedBy
  simp only [hg, linkRequester_link]
  rfl

theorem allocation_refused {s : State} {l : LinkNo} {target : ListId} {cls : AllocClass} {record : Record}
    (hg : s.grant = some (linkRequester l, .alloc target cls record)) (hr : s.allocRefused target cls record = true) :
    exec .allocation s = .next ((s.granted (linkRequester l)).linkAllocated l none) := by
  show execAllocation s = _
  unfold execAllocation State.allocated
  simp only [hg, hr, linkRequester_link]
  rfl

theorem allocation_made {s : State} {l : LinkNo} {target : ListId} {cls : AllocClass} {record : Record} {st : Store}
    {ref : SlotRef} (hg : s.grant = some (linkRequester l, .alloc target cls record))
    (hr : s.allocRefused target cls record = false) (ha : s.store.allocate target record = some (st, ref)) :
    exec .allocation s = .next
      ((((s.granted (linkRequester l)).withStore st).reportList target).linkAllocated l (some ref)) := by
  show execAllocation s = _
  unfold execAllocation State.allocated
  simp only [hg, hr, ha, linkRequester_link]
  rfl

/-! ### Who takes an answer -/

section
variable {s : State} {l : LinkNo} {v : VisitNo}

theorem linkSpliced_release (hj : s.job l = some (.release v)) (source : ListId) :
    s.linkSpliced l source = s.releaseReturned l v source := by
  unfold State.linkSpliced
  rw [hj]

theorem linkSpliced_abort {seq : Option Nat} (hj : s.job l = some (.abort v seq)) (source : ListId) :
    s.linkSpliced l source = s.abortAnswered l v seq := by
  unfold State.linkSpliced
  rw [hj]

theorem linkSpliced_undo (hj : s.job l = some (.arriveUndo v)) (source : ListId) :
    s.linkSpliced l source = s.arrivalUndone l v := by
  unfold State.linkSpliced
  rw [hj]

theorem linkStamped_release (hj : s.job l = some (.release v)) (n : Option Nat) :
    s.linkStamped l n = s.endRelease l v n := by
  unfold State.linkStamped
  rw [hj]

theorem linkStamped_abort {seq : Option Nat} (hj : s.job l = some (.abort v seq)) (n : Option Nat) :
    s.linkStamped l n = s.abortAnswered l v (State.keepPresent seq n) := by
  unfold State.linkStamped
  rw [hj]

theorem linkAllocated_abort {seq : Option Nat} (hj : s.job l = some (.abort v seq)) (ref : Option SlotRef) :
    s.linkAllocated l ref = if ref.isSome then s.abortAnswered l v seq else s.abortUnrecorded l v := by
  unfold State.linkAllocated
  rw [hj]

theorem linkAllocated_arrive {w : ArriveWork} (hj : s.job l = some (.arrive v w)) (ref : Option SlotRef) :
    s.linkAllocated l ref = if ref.isSome then s.compartmentPlaced l v w else s.undoArrival l v := by
  unfold State.linkAllocated
  rw [hj]

/-- A report of a grant on a list that the DCU is told of (R16). -/
theorem reportList_watched {list : ListId} (hw : list.watched = some v) : s.reportList list = s.report (some v) := by
  unfold State.reportList
  rw [hw]

theorem freeFrom_of_state {st : VisitState} (h : (s.visit v).state = st) :
    s.freeFrom v st = s.setVisit v (Visit.freed (s.visit v).tag) := if_pos h

end

/-! ### Items that address a visit (R26) -/

theorem busy_iff {x : Visit} : x.busy = true ↔
    x.arrivalMark = true ∨ x.state = .releasing ∨ x.state = .lapsing ∨ x.state = .aborting := by
  simp [Visit.busy, or_assoc]

/-- Orders 1 to 3 of R26 at an item just taken, and after them what the item's own rule says. -/
theorem addressed_taken {s t : State} {h : Head} {i : Instr} (ht : Taken s h i) {visit vtag : Nat}
    {f : VisitNo → State} (he : t = (s.begin h i).addressed h.link true visit vtag f) {R : visit < 48 → Prop}
    (hR : ∀ hv : visit < 48, (s.visit ⟨visit, hv⟩).busy = false → t = f ⟨visit, hv⟩ → R hv) :
    if hv : visit < 48 then
      if (s.visit ⟨visit, hv⟩).tag.toNat ≠ vtag then Answered s t h i .staleVisit []
      else if (s.visit ⟨visit, hv⟩).arrivalMark = true ∨ (s.visit ⟨visit, hv⟩).state = .releasing ∨
          (s.visit ⟨visit, hv⟩).state = .lapsing ∨ (s.visit ⟨visit, hv⟩).state = .aborting then
        Answered s t h i .busy []
      else R hv
    else Answered s t h i .malformed [] := by
  obtain ⟨e, hex⟩ := taken_executing ht
  have refused := State.answered_begin (i := i) hex
  unfold State.addressed at he
  by_cases hv : visit < 48
  · simp only [fin?_lt hv, visit_begin, Bool.true_eq_false, if_false] at he
    rw [dif_pos hv]
    by_cases htag : (s.visit ⟨visit, hv⟩).tag.toNat ≠ vtag
    · rw [if_pos htag] at he ⊢
      exact he ▸ refused _ _
    · rw [if_neg htag] at he ⊢
      by_cases hb : (s.visit ⟨visit, hv⟩).busy = true
      · rw [if_pos hb] at he
        rw [if_pos (busy_iff.1 hb)]
        exact he ▸ refused _ _
      · rw [if_neg hb] at he
        rw [if_neg fun h => hb (busy_iff.2 h)]
        exact hR hv (Bool.eq_false_iff.2 hb) he
  · simp only [fin?_ge hv] at he
    rw [dif_neg hv]
    exact he ▸ refused _ _

end Sys2Proof.Machine
end

section
/-! PROOFS. Records and tables after a cold start. -/

namespace Sys2Proof.Machine

/-! ### Cold start (R44, R61, R74, R91, R102, R126, R153, R172) -/

theorem hasFlag_reset (l : LinkNo) (f : Flag) : hasFlag (Links.reset.get l).flags f = false := by
  rw [(carried_reset l).1]
  simp [hasFlag]

theorem count_cold {l : ListId} (h : l ≠ .free) : (Store.cold.desc l).count = 0 := by
  rw [cold_desc, if_neg h]
  rfl

/-- No band takes a code, since every upper limit is 0 (R64, R74). -/
theorem lookup_cold (code : Nat) : ClassTable.cold.lookup code = .unclassified := by
  have none_above : (List.finRange 16).find? (fun i => decide (code < (tget ClassTable.cold.bands i).upper)) = none :=
    List.find?_eq_none.2 fun i _ => by simp [ClassTable.cold]
  unfold ClassTable.lookup
  rw [none_above]

theorem marked_cold (g h : Nat) : ClassTable.cold.marked g h = false := by
  unfold ClassTable.marked
  split
  · exact tget_replicate _ _
  · rfl

/-- No slot holds a head, so none awaits its stamp (R23, R164). -/
theorem outstanding_cold : Store.cold.outstanding = 0 := by
  rw [Store.outstanding_eq_card]
  refine Finset.card_eq_zero.2 (Finset.filter_eq_empty_iff.2 fun i _ h => ?_)
  rw [(cold_slot i).1] at h
  simp [Record.isHead] at h

/-- A stamped splice draws the number after the last one drawn, or none (R14, R163). -/
theorem stamp_number {s : State} {v : VisitNo} {o : LogOutcome} {p : Option Nat} {n : Nat}
    (h : (s.stamp v o p).2 = some n) : n = s.logs.seqs + 1 := by
  rcases stamp_cases s v o p with ⟨_, e⟩ | ⟨_, _, e⟩
  · rw [e] at h
    cases h
  · rw [e] at h
    exact (Option.some.inj h).symm

/-- Every field of a visit after a cold start is clear, and its PAPER list is empty (R44, R91). -/
theorem clear_of_cold {x : Visit} (h : x = Visit.freed 0) :
    x.state = .free ∧ x.tag = 0 ∧ x.arrivalMark = false ∧ x.heldOrigin = false ∧ x.lapsed = false ∧
      x.declarationLow = false ∧ x.recheckFail = false ∧ x.paperState = .none ∧ x.accepted = 0 ∧ x.arrival = none ∧
      x.bay = none ∧ x.paper = none ∧ x.lastCheck = none ∧ x.clearance = none ∧ x.passMinute = none ∧
      x.abort = none := by
  subst h
  exact ⟨rfl, rfl, rfl, rfl, rfl, rfl, rfl, rfl, rfl, rfl, rfl, rfl, rfl, rfl, rfl, rfl⟩

/-- Settles O4: every table of a cold start repeats one value, and no list but FREE has a slot. -/
theorem coldStartRecordsAndTables : Obligations.ColdStartRecordsAndTables := by
  refine ⟨fun a b s => ⟨_, rfl, fun v => ?visits, fun i => (cold_slot i).1, fun w => tget_replicate _ w,
    fun e => tget_replicate _ e, rfl, rfl, rfl, rfl, rfl, hasFlag_reset .loading .mapMiss,
    hasFlag_reset .office .paperClosed, hasFlag_reset .gate .checkDone⟩,
    fun a b s => ⟨_, rfl, fun i => tget_replicate _ i, lookup_cold, rfl, marked_cold, rfl, rfl, rfl, rfl, rfl, rfl,
      rfl, rfl, rfl, rfl, rfl, rfl, rfl, rfl, rfl, count_cold (by simp), count_cold (by simp),
      fun v => count_cold (by simp), outstanding_cold, rfl, ?exceptions, hasFlag_reset .gate .clearanceLapsed,
      fun st v o p n hn => stamp_number hn⟩⟩
  case visits =>
    obtain ⟨h1, h2, h3, h4, h5, h6, h7, h8, h9, h10, h11, h12, h13, h14, h15, h16⟩ :=
      clear_of_cold (tget_replicate (Visit.freed 0) v)
    exact ⟨h1, h2, h3, h4, h5, h6, h7, h8, h9, h10, h11, h12, h13, h14, h15, h16, count_cold (by simp)⟩
  case exceptions =>
    show decide (0 < (Store.cold.desc .exception).count) = false
    rw [count_cold (by simp)]
    rfl

end Sys2Proof.Machine
end

section
/-! PROOFS. DISPATCH. -/

namespace Sys2Proof.Machine

/-! ### DISPATCH (R32, R128) -/

theorem placeIn_of_mem {v : VisitNo} {ws : List VisitNo} (h : v ∈ ws) : ws.idxOf v + 1 = State.placeIn v ws := by
  induction ws with
  | nil => cases h
  | cons w ws ih =>
    unfold State.placeIn
    by_cases e : w = v
    · rw [if_pos e, e, List.idxOf_cons_self]
    · rw [if_neg e, List.idxOf_cons_ne _ e, Nat.succ_eq_add_one, ih ((List.mem_cons.1 h).resolve_left (Ne.symm e))]

/-- A visit joins the queue beside its telegram. -/
theorem joinQueue_begin (s : State) (h : Head) (i : Instr) (v : VisitNo) (held : Bool) :
    (s.begin h i).joinQueue v held = (s.joinQueue v held).begin h i :=
  State.begin_update (f := fun s => s.joinQueue v held) (fun _ => rfl) rfl

/-- DISPATCH of a visit that its state may take to the check queue. -/
theorem dispatch_joins {s : State} {h : Head} {i : Instr} (ht : Taken s h i) (v : VisitNo) (held : Bool)
    (d : List Byte) : Answered
      { s with
        visits := tset s.visits v { s.visit v with state := .queued, heldOrigin := held, lapsed := false }
        dcu := { s.dcu with queue := s.dcu.queue ++ [v] } }
      (((s.begin h i).joinQueue v held).answer h.link .done d) h i .done d := by
  obtain ⟨e, he⟩ := taken_executing ht
  rw [joinQueue_begin]
  exact State.answered_begin (r := s.joinQueue v held) he _ _

/-- Settles O38: a LOADED or HELD visit joins where a place is left (`dispatch_joins`), a QUEUED one has its
place told, and every other is refused. -/
theorem dispatchJoinsTheQueue : Obligations.DispatchJoinsTheQueue := by
  intro h visit vtag s i ht
  obtain ⟨e, he⟩ := taken_executing ht
  have answered := State.answered_begin (i := i) he
  have queue : (s.begin h i).dcu = s.dcu := by rw [State.begin_eq]; rfl
  obtain ⟨t, hexec, hblock⟩ : ∃ t, exec i s = .next t ∧ t = (s.begin h i).onDispatch h.link visit vtag :=
    ⟨_, congrArg Host.Outcome.next (State.takeItem_taken _ ht), rfl⟩
  refine ⟨t, hexec, addressed_taken ht hblock fun hv _ ht' => ?_⟩
  simp only [visit_begin, queue] at ht'
  subst ht'
  cases hst : (s.visit ⟨visit, hv⟩).state
  case loaded | held =>
    by_cases hq : s.dcu.queue.length < 8
    · simp only [hq, if_true, Config.queuePlaces]
      exact dispatch_joins ht _ _ _
    · simp only [hq, if_false, Config.queuePlaces]
      exact answered _ _
  case queued => exact ⟨_, answered _ _, placeIn_of_mem⟩
  all_goals exact answered _ _

end Sys2Proof.Machine
end

section
/-! PROOFS. GATE_PASSED and the grants of a release. -/

namespace Sys2Proof.Machine

/-! ### Changes of the driver table beside the links -/

theorem changeLinked_setLinks (v : VisitNo) (f : Driver → Driver) (k : Links) (cs : List Nat) (s : State) :
    (s.setLinks k).changeLinked v f cs = (s.changeLinked v f cs).setLinks k := by
  induction cs generalizing s with
  | nil => rfl
  | cons c cs ih =>
    simp only [State.changeLinked]
    rw [← ih]
    congr 1
    have hentry : (s.setLinks k).entryOf c = s.entryOf c := rfl
    have hdriver : ∀ e, (s.setLinks k).driver e = s.driver e := fun _ => rfl
    rw [hentry]
    cases s.entryOf c with
    | none => rfl
    | some e =>
      simp only [hdriver]
      cases s.driver e with
      | none => rfl
      | some d =>
        simp only
        split <;> rfl

theorem releaseDrivers_setLinks (s : State) (k : Links) (v : VisitNo) :
    (s.setLinks k).releaseDrivers v = (s.releaseDrivers v).setLinks k := changeLinked_setLinks v _ k _ s

theorem commitTrip_setLinks (s : State) (k : Links) (v : VisitNo) :
    (s.setLinks k).commitTrip v = (s.commitTrip v).setLinks k := changeLinked_setLinks v _ k _ s

theorem commitTrip_eq (s : State) (v : VisitNo) : s.commitTrip v = { s with drivers := (s.commitTrip v).drivers } :=
  State.changeLinked_eq _ _ _ _

theorem releaseDrivers_eq (s : State) (v : VisitNo) :
    s.releaseDrivers v = { s with drivers := (s.releaseDrivers v).drivers } := State.changeLinked_eq _ _ _ _

/-! ### GATE_PASSED (R34, R157, R158) -/

theorem passAccepted_begin (s : State) (h : Head) (i : Instr) (v : VisitNo) :
    (s.begin h i).passAccepted v = (s.passAccepted v).begin h i := by
  refine State.begin_update (f := fun s => s.passAccepted v) (fun k => ?_) ?_
  · show ((s.setLinks k).commitTrip v).setVisit v _ = ((s.commitTrip v).setVisit v _).setLinks k
    rw [commitTrip_setLinks]
    rfl
  · show (s.commitTrip v).links = s.links
    rw [commitTrip_eq]

/-- Orders 3 to 7 of R157. -/
theorem passRefusal_eq (x : Visit) (code : Nat) : State.passRefusal x code =
    if x.arrivalMark = true ∨ x.state = .releasing ∨ x.state = .aborting then some .busy
    else if x.state = .lapsing ∨ (x.state = .loaded ∧ x.lapsed = true) then some .late
    else if x.state ≠ .cleared then some .state
    else if code = 0 ∨ x.clearance.map Clearance.code ≠ some code then some .badCode
    else none := by
  have hbusy : (x.arrivalMark || x.state == .releasing || x.state == .aborting) = true ↔
      x.arrivalMark = true ∨ x.state = .releasing ∨ x.state = .aborting := by simp [or_assoc]
  unfold State.passRefusal
  simp only [hbusy]
  congr 1
  by_cases hl : x.state = .lapsing
  · rw [if_pos hl, if_pos (.inl hl)]
  · rw [if_neg hl]
    congr 1
    simp [hl]

theorem passAccepted_waits {s : State} {h : Head} {i : Instr} (ht : Taken s h i) (v : VisitNo) (j : Job) (q : Request) :
    Waits ((s.commitTrip v).setVisit v { s.visit v with state := .releasing, passMinute := some s.time.minutes })
      (((s.begin h i).passAccepted v).ask h.link j q) h i j q := by
  obtain ⟨e, he⟩ := taken_executing ht
  have hex : (s.passAccepted v).executing h.link = some e := by
    show Link.executing (Links.get (s.commitTrip v).links h.link) = _
    rw [commitTrip_eq]
    exact he
  rw [passAccepted_begin]
  exact State.waits_begin hex j q

/-- The item of a release in flight while its grant is served, and its visit. -/
theorem release_served {s u : State} {l : LinkNo} {v : VisitNo} (hj : s.job l = some (.release v))
    (hst : (s.visit v).state = .releasing) (a : Undisturbed s u) :
    u.job l = some (.release v) ∧ u.visit v = s.visit v :=
  ⟨(a.job l).trans hj, a.visit v (by rw [hst]; decide)⟩

/-- The return of a list of a release is answered (R34). -/
theorem release_returned {s : State} {l : LinkNo} {v : VisitNo} {source : ListId} (hw : source.watched = some v)
    (hj : s.job l = some (.release v)) (hst : (s.visit v).state = .releasing)
    (hg : s.grant = some (linkRequester l, .splice source .free)) : ∃ t, exec .wholeListSplice s = .next t ∧
      Continues (((s.granted (linkRequester l)).withStore (s.store.splice source .free)).report (some v)) t l
        (.release v) (match source with
          | .comp _ => .splice (.paper v) .free
          | _ => .stamped v .released (s.visit v).passMinute) := by
  refine ⟨_, splice_granted hg, ?_⟩
  obtain ⟨hju, hv⟩ := release_served hj hst ((Undisturbed.grantStore s (linkRequester l)
    (s.store.splice source .free)).trans (.report _ (some v)))
  rw [reportList_watched hw, linkSpliced_release hju]
  cases source
  case comp => exact continues_of_job hju _ _
  all_goals
    simp only [State.releaseReturned, hv]
    exact continues_of_job hju _ _

/-- The stamped splice of a release is answered (R34, R158). -/
theorem release_stamped {s : State} {l : LinkNo} {v : VisitNo} {pass : Option Nat}
    (hj : s.job l = some (.release v)) (hst : (s.visit v).state = .releasing)
    (hg : s.grant = some (linkRequester l, .stamped v .released pass)) : ∃ t, exec .stampedSplice s = .next t ∧
      Finished (((s.granted (linkRequester l)).stamp v .released pass).1.follow.setVisit v
        (Visit.freed (s.visit v).tag)) t l .done
        (put32 (((s.granted (linkRequester l)).stamp v .released pass).2.getD 0) ++ put32 ((s.visit v).passMinute.getD 0)) := by
  refine ⟨_, stamp_granted hg, ?_⟩
  obtain ⟨hju, hv⟩ := release_served hj hst (((Undisturbed.granted s (linkRequester l)).trans
    (.stamp _ v .released pass)).trans (.follow _))
  have hfreed : (((s.granted (linkRequester l)).stamp v .released pass).1.follow.setVisit v
      (Visit.freed (s.visit v).tag)).job l = some (.release v) := hju
  rw [linkStamped_release hju, State.endRelease, freeFrom_of_state (by rw [hv, hst]), hv]
  exact finished_of_job hfreed _ _

/-- Settles O39: the refusals in the order of `passRefusal_eq`, an accepted pass (`passAccepted_waits`), and the
answers of a release's three grants. -/
theorem gatePassedReleasesTheVisit : Obligations.GatePassedReleasesTheVisit := by
  refine ⟨fun h visit vtag code s => ?taken, fun s v hj hst => ⟨?comp, ?paper, fun pass => ?stamp⟩⟩
  case taken =>
    intro i ht
    obtain ⟨e, he⟩ := taken_executing ht
    have refused := State.answered_begin (i := i) he
    refine ⟨_, congrArg Host.Outcome.next (State.takeItem_taken _ ht), ?_⟩
    unfold State.onGatePassed
    by_cases hv : visit < 48
    · simp only [dif_pos hv, fin?_lt hv, visit_begin, passRefusal_eq]
      split_ifs
      case neg => exact passAccepted_waits ht _ _ _
      all_goals exact refused _ _
    · simp only [dif_neg hv, fin?_ge hv]
      exact refused _ _
  case comp => exact fun hg => release_returned (l := .gate) rfl hj hst hg
  case paper => exact fun hg => release_returned (l := .gate) rfl hj hst hg
  case stamp => exact fun hg => release_stamped (l := .gate) hj hst hg

end Sys2Proof.Machine
end

section
/-! PROOFS. Lapses of clearances. -/

namespace Sys2Proof.Machine

/-! ### Tables -/

@[simp] theorem tset_tset {α : Type} {n : Nat} (t : Vector α n) (i : Fin n) (x y : α) :
    tset (tset t i x) i y = tset t i y :=
  Vector.set_set x i.isLt

theorem tset_tget {α : Type} {n : Nat} (t : Vector α n) (i : Fin n) : tset t i (tget t i) = t :=
  Vector.set_getElem_self _

/-! ### Minute events and lapses (R35, R160) -/

theorem lapses_iff {n : Nat} {x : Visit} :
    State.lapses n x = true ↔ x.state = .cleared ∧ ∃ c, x.clearance = some c ∧ c.deadline ≤ n := by
  unfold State.lapses
  cases x.clearance <;> simp

/-- EXPIRY asks for the lapse of the head of its list, where it asks for none yet (R160). -/
theorem expiryPresents_eq (s : State) : s.expiryPresents = s.setRequest .expiry
    (match s.request .expiry with
      | some q => some q
      | none => s.logs.lapses.head?.map fun v => .stamped v .lapsed none) := by
  have unchanged : s = s.setRequest .expiry (s.request .expiry) := by
    unfold State.setRequest State.request
    rw [tset_tget]
  unfold State.expiryPresents
  cases hr : s.request .expiry with
  | some q =>
    rw [hr] at unchanged
    cases s.logs.lapses <;> exact unchanged
  | none =>
    rw [hr] at unchanged
    cases s.logs.lapses with
    | nil => exact unchanged
    | cons v vs => rfl

theorem pairwise_finRange_filter {n : Nat} (p : Fin n → Bool) : ((List.finRange n).filter p).Pairwise (· < ·) :=
  (List.pairwise_lt_finRange n).filter p

/-- A stamped splice changes the store and the sequence counter alone (R14). -/
theorem stamp_eq (s : State) (v : VisitNo) (o : LogOutcome) (pass : Option Nat) : (s.stamp v o pass).1 =
    { s with store := (s.stamp v o pass).1.store, logs := { s.logs with seqs := (s.stamp v o pass).1.logs.seqs } } := by
  rcases stamp_cases s v o pass with ⟨_, e⟩ | ⟨_, _, e⟩
  · rw [e]
  · rw [e]
    rfl

section
variable (s : State) (v : VisitNo) (o : LogOutcome) (pass : Option Nat)

@[simp] theorem stamp_visits : (s.stamp v o pass).1.visits = s.visits := by rw [stamp_eq]

@[simp] theorem stamp_requests : (s.stamp v o pass).1.requests = s.requests := by rw [stamp_eq]

@[simp] theorem stamp_lapses : (s.stamp v o pass).1.logs.lapses = s.logs.lapses := by rw [stamp_eq]

end

/-- MINUTE_EVENT as it is taken. -/
theorem minuteEvent_due {s : State} {n : Nat} {events : List Nat} (ha : s.alive = true)
    (he : s.time.events = n :: events) :
    exec .minuteEvent s = .next ((s.setTime { s.time with events }).minuteEvent n) := by
  show execMinuteEvent s = _
  unfold execMinuteEvent
  rw [ha, he]
  rfl

/-- The stamped splice that EXPIRY asked for. -/
theorem lapse_granted {s : State} {v : VisitNo} {pass : Option Nat}
    (hg : s.grant = some (.expiry, .stamped v .lapsed pass)) :
    exec .stampedSplice s = .next (((s.granted .expiry).stamp v .lapsed pass).1.follow.lapsed v) := by
  show execStampedSplice s = _
  unfold execStampedSplice
  rw [hg]
  rfl

/-- The answer of a lapse's splice, where EXPIRY asks for nothing (R35, R160). -/
theorem lapsed_eq {s : State} {v : VisitNo} (hst : (s.visit v).state = .lapsing) (hr : s.request .expiry = none) :
    s.lapsed v = { s.raise .gate .clearanceLapsed with
      visits := tset s.visits v { s.visit v with state := .loaded, lapsed := true }
      logs := { s.logs with lapses := s.logs.lapses.tail }
      requests := tset s.requests Requester.expiry.ix
        (s.logs.lapses.tail.head?.map fun w => .stamped w .lapsed none) } := by
  have hr' : (((s.setVisit v { s.visit v with state := .loaded, lapsed := true }).setLogs
      { s.logs with lapses := s.logs.lapses.tail }).raise .gate .clearanceLapsed).request .expiry = none := hr
  unfold State.lapsed State.changeVisit
  rw [if_pos hst, expiryPresents_eq, hr']
  rfl

/-- Settles O18: what EXPIRY presents is the lapse of its list's head (`expiryPresents_eq`), at the minute event and
again at each grant. -/
theorem clearancesLapse : Obligations.ClearancesLapse := by
  refine ⟨fun s n events ha he => ⟨_, minuteEvent_due ha he, ?_⟩, fun s v vs hg hst hl => ⟨_, lapse_granted hg, ?_⟩⟩
  · unfold State.minuteEvent
    rw [expiryPresents_eq]
    refine ⟨rfl, fun v => ?visits, ⟨_, rfl, pairwise_finRange_filter _, fun v => ?lapses⟩,
      State.request_setRequest_self _ _ _, fun q hq => ?others⟩
    case visits =>
      have hv : ∀ u : State, u.visits = s.visits.map (State.lapseVisit n) →
          u.visit v = State.lapseVisit n (s.visit v) := by
        intro u hu
        unfold State.visit
        rw [hu, tget_map]
      refine ⟨fun hdue => ?_, fun hdue => ?_⟩
      · exact (hv _ rfl).trans (if_pos (lapses_iff.2 hdue))
      · exact (hv _ rfl).trans (if_neg fun h => hdue (lapses_iff.1 h))
    case lapses =>
      rw [List.mem_filter, lapses_iff]
      exact and_iff_right (List.mem_finRange v)
    case others => exact (State.request_setRequest _ _ _ _).trans (if_neg (Ne.symm hq))
  · have hv : ((s.granted .expiry).stamp v .lapsed none).1.follow.visits = s.visits := stamp_visits _ _ _ _
    have hq : ((s.granted .expiry).stamp v .lapsed none).1.follow.requests = (s.granted .expiry).requests :=
      stamp_requests _ _ _ _
    have hlapses : ((s.granted .expiry).stamp v .lapsed none).1.follow.logs.lapses = v :: vs :=
      (stamp_lapses _ _ _ _).trans hl
    have hnone : ((s.granted .expiry).stamp v .lapsed none).1.follow.request .expiry = none :=
      (State.request_congr hq _).trans (State.request_setRequest_self _ _ _)
    rw [lapsed_eq (by rw [State.visit_congr hv, hst]) hnone, State.visit_congr hv, hlapses, hv, hq]
    simp only [State.granted, State.setRequest_requests, tset_tset]
    rfl

end Sys2Proof.Machine
end

section
/-! PROOFS. The checks of ARRIVE and its claim. -/

namespace Sys2Proof.Machine

/-! ### The checks of ARRIVE (R27, R110) -/

theorem arriveFormed_false {tanker driver : Nat} {co : Option CoDriver} {capacities : List (Option Nat)} :
    State.arriveFormed tanker driver co capacities = false ↔
      capacities.length < 1 ∨ 8 < capacities.length ∨ tanker = 0 ∨ 0 ∈ State.arriveCards driver co ∨
        some 0 ∈ capacities := by
  have hco : co.map CoDriver.card = some 0 ↔ 0 ∈ (co.map CoDriver.card).toList := by simp
  have hcap : (capacities.all fun c => decide (c ≠ some 0)) = true ↔ some 0 ∉ capacities := by
    rw [List.all_eq_true]
    exact ⟨fun h hm => by simpa using h _ hm, fun h c hc => by simpa using fun e : c = some 0 => h (e ▸ hc)⟩
  rw [← Bool.not_eq_true]
  unfold State.arriveFormed State.arriveCards
  simp only [Bool.and_eq_true, decide_eq_true_eq, hcap, List.mem_cons, ← hco, eq_comm (a := 0) (b := driver), ne_eq,
    not_and_or, Nat.not_le, not_not, or_assoc]

/-- The lowest-numbered FREE context (R28). -/
theorem freeVisit_some {s : State} {v : VisitNo} (h : s.freeVisit = some v) :
    (s.visit v).state = .free ∧ ∀ w < v, (s.visit w).state ≠ .free := by
  obtain ⟨hv, i, hi, rfl, hbefore⟩ := List.find?_eq_some_iff_getElem.1 h
  refine ⟨of_decide_eq_true hv, fun w hw => ?_⟩
  simpa using hbefore w.val (by rwa [List.getElem_finRange] at hw)

theorem freeVisit_none {s : State} : s.freeVisit = none ↔ ∀ v, (s.visit v).state ≠ .free := by
  unfold State.freeVisit
  rw [List.find?_eq_none]
  exact ⟨fun h v hv => h v (List.mem_finRange v) (by simpa using hv), fun h v _ hv => h v (by simpa using hv)⟩

theorem onSite_eq (s : State) (card : Nat) :
    s.onSite card = ((s.entryOf card).bind s.driver).any fun d => d.activity != .absent := by
  unfold State.onSite
  cases (s.entryOf card).bind s.driver with
  | none => rfl
  | some d => cases h : d.activity <;> simp [h]

/-- An entry available to new cards (R110). -/
theorem availableEntry_eq (age n : Nat) (cards : List Nat) (d : Option Driver) :
    availableEntry age n cards d = d.all fun d => d.activity == .absent && !cards.contains d.card &&
      d.lastDeparture.any fun m => decide (age ≤ n - m) := by
  cases d with
  | none => rfl
  | some d =>
    have habsent : decide (d.activity = .absent) = (d.activity == .absent) := by cases d.activity <;> rfl
    show d.reclaimable age n cards = _
    unfold Driver.reclaimable
    rw [Option.all_some]
    cases d.lastDeparture with
    | none => simp
    | some m => simp [habsent, Bool.and_assoc, Bool.and_comm, Bool.and_left_comm]

theorem driversFit_false {s : State} {cards : List Nat} : s.driversFit cards = false ↔
    ((List.finRange 256).countP fun e => availableEntry s.rules.reclaim s.time.minutes cards (s.driver e)) <
      cards.countP fun c => (s.entryOf c).isNone := by
  unfold State.driversFit State.entriesWhere State.now
  rw [decide_eq_false_iff_not, Nat.not_le, List.countP_eq_length_filter, List.countP_eq_length_filter]

/-! ### ARRIVE as it is taken (R27, R28) -/

theorem arriveRefusal_begin (s : State) (h : Head) (i : Instr) (tanker driver : Nat) (co : Option CoDriver)
    (capacities : List (Option Nat)) :
    (s.begin h i).arriveRefusal tanker driver co capacities = s.arriveRefusal tanker driver co capacities := by
  rw [State.begin_eq]
  rfl

theorem claim_begin (s : State) (h : Head) (i : Instr) (v : VisitNo) (tanker driver : Nat) (co : Option Nat) (n : Nat) :
    (s.begin h i).claim v tanker driver co n = (s.claim v tanker driver co n).begin h i :=
  State.begin_update (f := fun s => s.claim v tanker driver co n) (fun _ => rfl) rfl

/-- The claim of a context and the first allocation (R28). -/
theorem arrive_waits {s : State} {h : Head} {i : Instr} (ht : Taken s h i) (v : VisitNo) (tanker driver : Nat)
    (co : Option Nat) (n : Nat) (w : ArriveWork) (capacity : Option Nat) :
    Waits (s.claim v tanker driver co n)
      (((s.begin h i).claim v tanker driver co n).placeCompartment h.link v w capacity) h i (.arrive v w)
      (.alloc (.comp v) .bounded (freshCompartment w.number capacity)) := by
  obtain ⟨e, he⟩ := taken_executing ht
  rw [claim_begin]
  exact State.waits_begin (r := s.claim v tanker driver co n) he _ _

/-- Settles O33: each check of `State.arriveRefusal` is the statement's, in its order, and a claim is of the lowest FREE
context (`freeVisit_some`). -/
theorem arriveClaimsAContext : Obligations.ArriveClaimsAContext := by
  intro h tanker driver figures co capacities s i cards onSite reclaimable ht
  obtain ⟨e, he⟩ := taken_executing ht
  have refused := State.answered_begin (i := i) he
  have hcards : State.arriveCards driver co = cards := rfl
  have hentry : ∀ d : Option Driver, availableEntry s.rules.reclaim s.time.minutes cards d = d.all reclaimable :=
    availableEntry_eq _ _ _
  have hsite : ∀ c, s.onSite c = onSite c := onSite_eq s
  have hvisit : (s.begin h i).freeVisit = s.freeVisit := by
    rw [State.begin_eq]
    rfl
  obtain ⟨t, hexec, hblock⟩ : ∃ t, exec i s = .next t ∧
      t = (s.begin h i).onArrive h.link tanker driver figures co capacities :=
    ⟨_, congrArg Host.Outcome.next (State.takeItem_taken _ ht), rfl⟩
  refine ⟨t, hexec, ?_⟩
  unfold State.onArrive at hblock
  rw [arriveRefusal_begin, hvisit] at hblock
  simp only [State.arriveRefusal, arriveFormed_false, freeVisit_none, List.any_eq_true, hsite, driversFit_false, hcards,
    hentry] at hblock
  split_ifs at hblock ⊢
  case neg hset hform hsame hfree honsite hfit hroom =>
    obtain ⟨v, hv⟩ := Option.ne_none_iff_exists'.1 fun hn => hfree (freeVisit_none.1 hn)
    obtain ⟨capacity, left, rfl⟩ := List.exists_cons_of_length_pos (l := capacities) (by omega)
    have hnow : (s.begin h i).now = s.time.minutes ∧ (s.begin h i).rules = s.rules := by
      rw [State.begin_eq]
      exact ⟨rfl, rfl⟩
    rw [hv, hnow.1, hnow.2] at hblock
    obtain ⟨hstate, hlowest⟩ := freeVisit_some hv
    exact ⟨v, hstate, hlowest, hblock ▸ arrive_waits ht v _ _ _ _ _ _⟩
  all_goals exact hblock ▸ refused _ _

end Sys2Proof.Machine
end

section
/-! PROOFS. The grants of an arrival. -/

namespace Sys2Proof.Machine

/-! ### The grants of an arrival (R28 to R30, R115) -/

theorem allocRefused_bounded {s : State} {target : ListId} {record : Record} (hh : record.isHead = false) :
    s.allocRefused target .bounded record = true ↔ s.store.freeCount ≤ s.reserve := by
  rw [allocRefused_iff]
  simp [hh, Store.freeCount]

theorem job_admitted {s t : State} (ht : t = { s with drivers := t.drivers }) (l : LinkNo) : t.job l = s.job l := by
  rw [ht]
  rfl

theorem admissionFloored_eq (k : Option (EntryNo × Admission)) :
    State.admissionFloored k = k.any fun k => k.2.floored := by cases k <;> rfl

theorem admissionClamped_eq (k : Option (EntryNo × Admission)) :
    State.admissionClamped k = ((k.any fun k => k.2.clamped) || k.any fun k => k.2.floored) := by cases k <;> rfl

/-- The completion of an arrival (R30, R115), told by what ARRIVE gave the visit. -/
theorem completeArrival_finished {u : State} {l : LinkNo} {v : VisitNo} {w : ArriveWork} {a : Arrival}
    (hj : u.job l = some (.arrive v w)) (ha : (u.visit v).arrival = some a) :
    let cards := a.driver :: a.coDriver.toList
    let one := u.admitDriver w cards v a.driver w.figures
    let two := one.1.admitCo w cards v
    let floored := (one.2.any fun k => k.2.floored) || two.2.any fun k => k.2.floored
    let clamped := (one.2.any fun k => k.2.clamped) || two.2.any fun k => k.2.clamped
    let x := two.1.visit v
    Finished (two.1.setVisit v { x with arrivalMark := false, declarationLow := x.declarationLow || floored })
      (u.completeArrival l v w) l (if clamped || floored then .doneClamped else .done)
      (put8 v.val ++ put16 x.tag.toNat ++ State.admissionBytes one.2 ++ putBit w.coDriver.isSome ++
        State.admissionBytes two.2) := by
  intro cards one two floored clamped x
  have hcards : u.cardsOf v = cards := by
    unfold State.cardsOf
    rw [ha]
  have hjob : two.1.job l = some (.arrive v w) := by
    have h1 : one.1.job l = u.job l := job_admitted (State.admitDriver_eq u w cards v a.driver w.figures) l
    have h2 : two.1.job l = one.1.job l := job_admitted (State.admitCo_eq one.1 w cards v) l
    rw [h2, h1, hj]
  have hfloored : (State.admissionFloored one.2 || State.admissionFloored two.2) = floored := by
    rw [admissionFloored_eq, admissionFloored_eq]
  have hclamped : (State.admissionClamped one.2 || State.admissionClamped two.2) = (clamped || floored) := by
    rw [admissionClamped_eq, admissionClamped_eq]
    simp only [clamped, floored]
    ac_rfl
  unfold State.completeArrival
  rw [hcards, ← hclamped, ← hfloored]
  exact finished_of_job (r := two.1.setVisit v _) hjob _ _

/-- Settles O34: an allocation is refused exactly where FREE is down to the reserve (`allocRefused_bounded`), and the last
one completes the arrival (`completeArrival_finished`). -/
theorem arrivalsCompleteOrAreUndone : Obligations.ArrivalsCompleteOrAreUndone := by
  intro s v w record a ha
  refine ⟨fun hg hh hj => ⟨fun hfull => ?full, fun st ref hroom hst => ?placed⟩, fun hg hj hst => ?undone⟩
  case full =>
    refine ⟨_, allocation_refused (l := .gate) hg ((allocRefused_bounded hh).2 hfull), ?_⟩
    have hju : (s.granted (linkRequester .gate)).job .gate = some (.arrive v w) := hj
    rw [linkAllocated_arrive hju]
    exact continues_of_job hju _ _
  case placed =>
    have hr : s.allocRefused (.comp v) .bounded record = false := by
      rw [Bool.eq_false_iff]
      exact fun h => absurd ((allocRefused_bounded hh).1 h) (by omega)
    have a' := (Undisturbed.grantStore s (linkRequester .gate) st).trans (.report _ (some v))
    have hju := (a'.job .gate).trans hj
    refine ⟨_, allocation_made (l := .gate) hg hr hst, ?_⟩
    rw [reportList_watched rfl, linkAllocated_arrive hju]
    have hplaced := completeArrival_finished hju ((a'.arrival v).trans ha)
    obtain ⟨figures, coDriver, left, number, minute, reclaim⟩ := w
    cases left with
    | cons capacity left => exact continues_of_job hju _ _
    | nil => cases coDriver <;> exact hplaced
  case undone =>
    have a' := (Undisturbed.grantStore s (linkRequester .gate) (s.store.splice (.comp v) .free)).trans
      (.report _ (some v))
    have hju := (a'.job .gate).trans hj
    have hv := a'.visit v (by rw [hst]; decide)
    refine ⟨_, splice_granted (l := .gate) hg, ?_⟩
    rw [reportList_watched rfl, linkSpliced_undo hju, State.arrivalUndone, freeFrom_of_state (by rw [hv, hst]), hv]
    exact finished_of_job (r := (State.report _ _).setVisit v _) hju _ _

end Sys2Proof.Machine
end

section
/-! PROOFS. The grants of an abort. -/

namespace Sys2Proof.Machine

/-! ### The grants of an abort (R40, R41) -/

section
variable {u : State} {l : LinkNo} {v : VisitNo} {x : Visit} {held seq : Option Nat} {cleared : Bool} {n : Nat}

/-- An answer to an abort that has a grant to come presents it (R25, R40, R41). -/
theorem abortAnswered_continues {r : Request} (hj : u.job l = some (.abort v held)) (hx : u.visit v = x)
    (hab : x.abort = some ⟨cleared, n⟩) (hr : (abortCourse v x cleared)[n + 1]? = some r) :
    Continues (u.setVisit v { x with abort := some ⟨cleared, n + 1⟩ }) (u.abortAnswered l v seq) l (.abort v seq)
      r := by
  have hnext : abortRequest v x ⟨cleared, n + 1⟩ = some r := (State.abortRequest_eq_course _ _ _).trans hr
  unfold State.abortAnswered
  simp only [hx, hab, hnext]
  exact continues_of_job (r := u.setVisit v _) hj _ _

/-- An answer to an abort that has none ends it (R40, R41). -/
theorem abortAnswered_finished (hj : u.job l = some (.abort v held)) (hx : u.visit v = x) (hst : x.state = .aborting)
    (hab : x.abort = some ⟨cleared, n⟩) (hr : (abortCourse v x cleared)[n + 1]? = none) :
    Finished (u.setVisit v (Visit.freed x.tag)) (u.abortAnswered l v seq) l .done (put32 (seq.getD 0)) := by
  have hnext : abortRequest v x ⟨cleared, n + 1⟩ = none := (State.abortRequest_eq_course _ _ _).trans hr
  unfold State.abortAnswered
  simp only [hx, hab, hnext]
  rw [State.endAbort, freeFrom_of_state (by rw [hx, hst]), hx]
  exact finished_of_job (r := u.setVisit v _) hj _ _

end

/-- Settles O41: whatever the grant was, its answer is counted and the abort goes on or ends (`abortAnswered_continues`,
`abortAnswered_finished`), but where an allocation is refused. -/
theorem abortsCarryOutTheirCourse : Obligations.AbortsCarryOutTheirCourse := by
  intro s l v seq cleared n q x course goesOn hj hst hab hg _
  have answered : ∀ (u : State) (seq' : Option Nat), Undisturbed s u → goesOn u (u.abortAnswered l v seq') seq' := by
    intro u seq' a
    have hju := (a.job l).trans hj
    have hv := a.visit v (by rw [hst]; decide)
    simp only [goesOn]
    cases hr : course[n + 1]? with
    | some r => exact abortAnswered_continues hju hv hab hr
    | none => exact abortAnswered_finished hju hv hst hab hr
  refine ⟨?spliced, ?stamped, ?allocated⟩
  case spliced =>
    rintro source target rfl
    have a := (Undisturbed.grantStore s (linkRequester l) (s.store.splice source target)).trans (.reportList _ source)
    refine ⟨_, splice_granted hg, ?_⟩
    rw [linkSpliced_abort ((a.job l).trans hj)]
    exact answered _ _ a
  case stamped =>
    rintro o pass rfl
    have a := ((Undisturbed.granted s (linkRequester l)).trans (.stamp _ v o pass)).trans (.follow _)
    refine ⟨_, stamp_granted hg, ?_⟩
    rw [linkStamped_abort ((a.job l).trans hj)]
    exact answered _ _ a
  case allocated =>
    rintro target cls record rfl
    refine ⟨fun hr => ⟨_, allocation_refused hg hr, ?_⟩, fun st ref hr hst' => ⟨_, allocation_made hg hr hst', ?_⟩⟩
    · have hju : (s.granted (linkRequester l)).job l = some (.abort v seq) := hj
      have hfreedJob : ((s.granted (linkRequester l)).setVisit v (Visit.freed x.tag)).job l = some (.abort v seq) := hj
      have hfreed : (s.granted (linkRequester l)).freeFrom v .aborting = _ := freeFrom_of_state hst
      rw [linkAllocated_abort hju, Option.isSome_none, if_neg Bool.false_ne_true, State.abortUnrecorded, hfreed]
      exact finished_of_job (((Undisturbed.raise _ .office .unrecorded).job l).trans hfreedJob) _ _
    · have a := (Undisturbed.grantStore s (linkRequester l) st).trans (.reportList _ target)
      rw [linkAllocated_abort ((a.job l).trans hj)]
      exact answered _ _ a

end Sys2Proof.Machine
end

section
/-! PROOFS. The acceptance of VISIT_ABORT. -/

namespace Sys2Proof.Machine

/-! ### The acceptance of an abort (R38, R39, R124, R147) -/

/-- A VISIT_ABORT is taken on OFFICE or on GATE (R194). -/
theorem visitAbort_link {s : State} {h : Head} {visit vtag : Nat} (ht : Taken s h (.visitAbort h visit vtag)) :
    h.link = .office ∨ h.link = .gate := by
  obtain ⟨e, he⟩ := taken_executing ht
  have hmay : mayUse h.link (Instr.kind (.visitAbort h visit vtag)) = true := by
    by_contra hno
    have hr := ht.2
    unfold State.slRefusal at hr
    rw [he] at hr
    simp only [Bool.eq_false_iff.2 hno, if_true] at hr
    split at hr <;> cases hr
  cases hl : h.link with
  | office => exact .inl rfl
  | gate => exact .inr rfl
  | loading =>
    rw [hl] at hmay
    cases hmay
  | audit =>
    rw [hl] at hmay
    cases hmay

/-- What is left of the check in flight once the check of a visit is to be abandoned (R147). -/
def checkLeft (s : State) (v : VisitNo) : Option Check :=
  s.dcu.check.bind fun c =>
    if c.visit = v then
      if s.checkWaits c then some { c with phase := .abandon, abandon := true } else none
    else some c

theorem checkLeft_waits {s : State} {v : VisitNo} {c : Check} (hc : s.dcu.check = some c) (hv : c.visit = v)
    (hw : s.checkWaits c = true) : checkLeft s v = some { c with phase := .abandon, abandon := true } := by
  simp [checkLeft, hc, hv, hw]

theorem checkLeft_rests {s : State} {v : VisitNo} {c : Check} (hc : s.dcu.check = some c) (hv : c.visit = v)
    (hw : s.checkWaits c = false) : checkLeft s v = none := by simp [checkLeft, hc, hv, hw]

theorem checkLeft_other {s : State} {v : VisitNo} (h : ∀ c, s.dcu.check = some c → c.visit ≠ v) :
    checkLeft s v = s.dcu.check := by
  unfold checkLeft
  cases hc : s.dcu.check with
  | none => rfl
  | some c => simp [h c hc]

theorem checkHeld_false_iff {s : State} {v : VisitNo} :
    s.checkHeld v = false ↔ ∀ c, s.dcu.check = some c → c.visit ≠ v := by
  unfold State.checkHeld
  cases s.dcu.check <;> simp

theorem abandonCheck_dcu (s : State) (v : VisitNo) :
    s.abandonCheck v = s.setDcu { s.dcu with check := checkLeft s v } := by
  unfold State.abandonCheck
  cases hc : s.dcu.check with
  | none =>
    rw [checkLeft_other (by simp [hc])]
    rfl
  | some c =>
    by_cases hv : c.visit = v
    · cases hw : s.checkWaits c with
      | true =>
        rw [checkLeft_waits hc hv hw]
        simp only [hv, hw, if_true]
        rfl
      | false =>
        rw [checkLeft_rests hc hv hw]
        simp only [hv, hw, if_true]
        rfl
    · rw [checkLeft_other (by simpa [hc] using hv)]
      simp only [hv, if_false]
      rfl

/-- The state that an accepted abort leaves, before any grant (R38). -/
theorem abortAccepted_eq (s : State) (v : VisitNo) : s.abortAccepted v =
    { s with
      visits := tset s.visits v { s.visit v with
        state := .aborting, clearance := none, abort := some ⟨decide ((s.visit v).state = .cleared), 0⟩ }
      windows := s.windows.map fun w => w.filter fun w => w.visit != v
      drivers := (s.releaseDrivers v).drivers
      dcu := ⟨s.dcu.queue.filter (fun w => w != v), checkLeft s v⟩ } := by
  unfold State.abortAccepted
  simp only
  rw [abandonCheck_dcu, releaseDrivers_eq]
  rfl

theorem abortAccepted_begin (s : State) (h : Head) (i : Instr) (v : VisitNo) :
    (s.begin h i).abortAccepted v = (s.abortAccepted v).begin h i := by
  refine State.begin_update (f := fun s => s.abortAccepted v) (fun k => ?_) ?_
  · simp only [abortAccepted_eq, releaseDrivers_setLinks]
    rfl
  · simp only [abortAccepted_eq]

/-- An item just taken takes on its course (R190). -/
theorem begin_setJob {r : State} {h : Head} {i : Instr} {e : Execution} (he : r.executing h.link = some e) (j : Job) :
    (r.begin h i).setJob h.link j = r.putExecuting h.link
      (.executing { e with left := e.left.tail, cur := some ⟨i.kind, h.tag, j⟩ }) := by
  unfold State.setJob
  rw [State.executing_begin he]
  simp only [State.begin, he, State.putExecuting_putExecuting he]

/-- A VISIT_ABORT accepted and begun, before its first grant. -/
def abortTaken (s : State) (h : Head) (i : Instr) (e : Execution) (v : VisitNo) : State :=
  (s.abortAccepted v).putExecuting h.link
    (.executing { e with left := e.left.tail, cur := some ⟨i.kind, h.tag, .abort v none⟩ })

section
variable {s : State} {h : Head} {i : Instr} {e : Execution} {v : VisitNo}

theorem executing_abortAccepted (l : LinkNo) : (s.abortAccepted v).executing l = s.executing l := by
  rw [abortAccepted_eq]
  rfl

theorem abortTaken_eq : abortTaken s h i e v = { s.abortAccepted v with links := (abortTaken s h i e v).links } := rfl

/-- VISIT_ABORT as it is accepted. -/
theorem onVisitAbort_accepted (he : s.executing h.link = some e) :
    (((s.begin h i).abortAccepted v).setJob h.link (.abort v none)).startAbort v =
      (abortTaken s h i e v).startAbort v := by
  rw [abortAccepted_begin, begin_setJob ((executing_abortAccepted _).trans he)]
  rfl

theorem abortTaken_becomes : Becomes s (abortTaken s h i e v) h.link
    (.executing { e with left := e.left.tail, cur := some ⟨i.kind, h.tag, .abort v none⟩ }) := by
  have hlink : (s.abortAccepted v).link = s.link := by rw [abortAccepted_eq]; rfl
  obtain ⟨here, elsewhere⟩ := State.becomes_putExecuting (s.abortAccepted v) h.link
    (.executing { e with left := e.left.tail, cur := some ⟨i.kind, h.tag, .abort v none⟩ })
  refine ⟨by rw [← hlink]; exact here, fun m hm => ?_⟩
  unfold SameLine
  rw [← hlink]
  exact elsewhere m hm

theorem abortTaken_flags : FlagsKept s (abortTaken s h i e v) := by
  have hlink : (s.abortAccepted v).link = s.link := by rw [abortAccepted_eq]; rfl
  have hflags := State.flagsKept_putExecuting (s.abortAccepted v) h.link
    (.executing { e with left := e.left.tail, cur := some ⟨i.kind, h.tag, .abort v none⟩ })
  unfold FlagsKept at hflags
  rwa [hlink] at hflags

theorem abortTaken_job_self (he : s.executing h.link = some e) :
    (abortTaken s h i e v).job h.link = some (.abort v none) :=
  State.job_putExecuting_self ((executing_abortAccepted _).trans he) _

theorem abortTaken_job_other {m : LinkNo} (hm : m ≠ h.link) : (abortTaken s h i e v).job m = s.job m := by
  have h1 := (SameBut.putExecuting h.link (s.abortAccepted v)
    (.executing { e with left := e.left.tail, cur := some ⟨i.kind, h.tag, .abort v none⟩ })).job hm
  exact h1.trans (State.job_abortAccepted s v m)

theorem abortTaken_requests : (abortTaken s h i e v).requests = s.requests := by
  rw [abortTaken_eq, abortAccepted_eq]

theorem abortTaken_visit : (abortTaken s h i e v).visit v = { s.visit v with
    state := .aborting, clearance := none, abort := some ⟨decide ((s.visit v).state = .cleared), 0⟩ } :=
  State.visit_abortAccepted_self s v

theorem abortTaken_check : (abortTaken s h i e v).dcu.check = checkLeft s v := by
  rw [abortTaken_eq, abortAccepted_eq]

theorem abortTaken_checkHeld {b : Bool} (hc : ∀ c, s.dcu.check = some c → c.visit = v → s.checkWaits c = true)
    (hb : s.checkHeld v = b) : (abortTaken s h i e v).checkHeld v = b := by
  subst hb
  unfold State.checkHeld
  rw [abortTaken_check]
  cases hcheck : s.dcu.check with
  | none => rw [checkLeft_other (by simp [hcheck]), hcheck]
  | some c =>
    by_cases hv : c.visit = v
    · rw [checkLeft_waits hcheck hv (hc c hcheck hv)]
    · rw [checkLeft_other (by simpa [hcheck] using hv), hcheck]

end

theorem abortTaken_paperItemHeld {s : State} {h : Head} {i : Instr} {e : Execution} {v w : VisitNo}
    (hl : h.link = .gate) : (abortTaken s h i e v).paperItemHeld w = s.paperItemHeld w := by
  unfold State.paperItemHeld
  rw [abortTaken_job_other (by rw [hl]; decide)]

theorem abortTaken_aborts {s : State} {h : Head} {i : Instr} {e : Execution} {v w : VisitNo}
    (hl : h.link = .gate) : (abortTaken s h i e v).aborts w .office = s.aborts w .office := by
  unfold State.aborts
  rw [abortTaken_job_other (by rw [hl]; decide)]

/-- The first grant of an abort whose visit has neither a paper item nor a check in flight (R39). -/
theorem abort_presents {s : State} {h : Head} {i : Instr} {e : Execution} {v : VisitNo}
    (he : s.executing h.link = some e) (hlink : h.link = .office ∨ h.link = .gate) (hcheck : s.checkHeld v = false)
    (hpaper : s.paperItemHeld v = false ∨ h.link = .office) (hother : s.aborts v .office = false) :
    Requests s ((abortTaken s h i e v).startAbort v) (linkRequester h.link)
      (some (if (s.visit v).state = .cleared then .stamped v .aborted none else .splice (.comp v) .free)) := by
  have hself := abortTaken_job_self (i := i) (v := v) he
  have haborts : (abortTaken s h i e v).aborts v h.link = true := by
    unfold State.aborts
    rw [hself]
    exact beq_self_eq_true v
  have hfree : (abortTaken s h i e v).checkHeld v = false := by
    refine abortTaken_checkHeld (fun c hc hv => ?_) hcheck
    exact absurd hv (checkHeld_false_iff.1 hcheck c hc)
  have hitem : (abortTaken s h i e v).paperItemHeld v = false := by
    rcases hlink with hl | hl
    · unfold State.paperItemHeld
      rw [← hl, hself]
    · rw [abortTaken_paperItemHeld hl]
      exact hpaper.resolve_right (by rw [hl]; decide)
  have hlinks : h.link = .office ∨ (h.link = .gate ∧ (abortTaken s h i e v).aborts v .office = false) :=
    hlink.imp_right fun hl => ⟨hl, (abortTaken_aborts hl).trans hother⟩
  obtain ⟨hhead, hrest⟩ := (State.startAbort_begins (abortTaken s h i e v) v).asks hitem hfree h.link hlinks haborts
    (decide ((s.visit v).state = .cleared)) (by rw [abortTaken_visit])
  refine ⟨hhead.trans ?_, fun q hq => (hrest q hq).trans (State.request_congr abortTaken_requests q)⟩
  by_cases hst : (s.visit v).state = .cleared <;> simp [abortCourse, hst]

/-- Settles O40: an accepted abort is `abortTaken`, whose parts its lemmas give, with the first grant presented unless the
visit still waits (`abort_presents`). -/
theorem visitAbortTearsDown : Obligations.VisitAbortTearsDown := by
  intro h visit vtag s i ht
  obtain ⟨e, he⟩ := taken_executing ht
  obtain ⟨t, hexec, hblock⟩ : ∃ t, exec i s = .next t ∧ t = (s.begin h i).onVisitAbort h.link visit vtag :=
    ⟨_, congrArg Host.Outcome.next (State.takeItem_taken _ ht), rfl⟩
  refine ⟨t, hexec, addressed_taken ht hblock fun hv _ ht' => ?_⟩
  rw [visit_begin] at ht'
  split
  · next hfree =>
    rw [if_pos hfree] at ht'
    exact ht' ▸ State.answered_begin he _ _
  · next hfree =>
    rw [if_neg hfree, onVisitAbort_accepted he] at ht'
    have begins := State.startAbort_begins (abortTaken s h i e ⟨visit, hv⟩) ⟨visit, hv⟩
    rw [← ht'] at begins
    have hlinks : t.links = (abortTaken s h i e ⟨visit, hv⟩).links := by rw [begins.rest]
    have hwindows : t.windows = s.windows.map fun w => w.filter fun w => w.visit != ⟨visit, hv⟩ := by
      rw [begins.rest, abortTaken_eq, abortAccepted_eq]
    have hdrivers : t.drivers = (s.releaseDrivers ⟨visit, hv⟩).drivers := by
      rw [begins.rest, abortTaken_eq, abortAccepted_eq]
    have hdcu : t.dcu = ⟨s.dcu.queue.filter (fun w => w != ⟨visit, hv⟩), checkLeft s ⟨visit, hv⟩⟩ := by
      rw [begins.rest, abortTaken_eq, abortAccepted_eq]
    have hkept : (abortTaken s h i e ⟨visit, hv⟩).requests = s.requests := abortTaken_requests
    have hcheck : t.dcu.check = checkLeft s ⟨visit, hv⟩ := by rw [hdcu]
    refine ⟨?rest, ?flags, hdrivers, fun b => ?windows, by rw [hdcu], ⟨e, he, ?line⟩,
      fun c hc hcv => ⟨fun hw => ⟨hcheck.trans (checkLeft_waits hc hcv hw), ?abandons⟩,
        fun hw => hcheck.trans (checkLeft_rests hc hcv hw)⟩,
      fun hno => hcheck.trans (checkLeft_other hno), fun hl hno hpaper => ?held, fun hno hpaper hother => ?asks⟩
    case rest => rw [begins.rest, abortTaken_eq, abortAccepted_eq]
    case flags =>
      intro l
      rw [State.link_congr hlinks]
      exact abortTaken_flags l
    case windows =>
      unfold State.window
      rw [hwindows, tget_map]
    case line =>
      obtain ⟨here, elsewhere⟩ := abortTaken_becomes (s := s) (i := i) (e := e) (v := ⟨visit, hv⟩)
      rw [← State.link_congr hlinks] at here
      refine ⟨here, fun m hm => ?_⟩
      have hm' := elsewhere m hm
      unfold SameLine at hm' ⊢
      rwa [State.link_congr hlinks]
    case abandons =>
      refine (begins.waits (.inr (abortTaken_checkHeld (fun c' hc' _ => ?_) ?_))).trans hkept
      · cases hc.symm.trans hc'
        exact hw
      · rw [State.checkHeld, hc]
        exact beq_iff_eq.2 hcv
    case held => exact (begins.waits (.inl ((abortTaken_paperItemHeld hl).trans hpaper))).trans hkept
    case asks => exact ht' ▸ abort_presents he (visitAbort_link ht) hno hpaper hother

end Sys2Proof.Machine
end

section
/-! PROOFS. Grants served outside the service table. -/

namespace Sys2Proof.Machine

/-! ### Grants served outside the service table (R24) -/

/-- Two states of one store and one sequence counter, with one reserve: what a grant served in the reset work reads. -/
structure SameStore (a u : State) : Prop where
  store   : a.store = u.store
  seqs    : a.logs.seqs = u.logs.seqs
  reserve : a.reserve = u.reserve

theorem serve_alloc (s : State) (target : ListId) (cls : AllocClass) (record : Record) :
    s.serve (.alloc target cls record) = if s.allocRefused target cls record then none
      else (s.store.allocate target record).map fun a => s.setStore a.1 := rfl

theorem serveAll_refused {s : State} {q : Request} (h : s.serve q = none) (rs : List Request) :
    s.serveAll (q :: rs) = (s, true) := by
  unfold State.serveAll
  rw [h]

theorem serveAll_served {s t : State} {q : Request} (h : s.serve q = some t) (rs : List Request) :
    s.serveAll (q :: rs) = t.serveAll rs := by
  rw [State.serveAll, h]

namespace SameStore

variable {a u : State}

/-- A stamped splice reads the store and the sequence counter alone (R14). -/
theorem stamp (h : SameStore a u) (v : VisitNo) (o : LogOutcome) (pass : Option Nat) :
    SameStore (a.stamp v o pass).1 (u.stamp v o pass).1 := by
  unfold State.stamp
  rw [h.store, h.seqs]
  cases (u.store.desc (.pend v)).head with
  | none => exact h
  | some i => exact ⟨rfl, rfl, h.reserve⟩

theorem allocRefused (h : SameStore a u) (target : ListId) (cls : AllocClass) (record : Record) :
    a.allocRefused target cls record = u.allocRefused target cls record := by
  unfold State.allocRefused
  rw [h.store, h.seqs, h.reserve]

/-- A grant served in one of the two is served in the other, with the same effect. -/
theorem serve (h : SameStore a u) (q : Request) :
    (a.serve q = none ∧ u.serve q = none) ∨ ∃ b t, a.serve q = some b ∧ u.serve q = some t ∧ SameStore b t := by
  cases q with
  | splice source target =>
    exact .inr ⟨_, _, rfl, rfl, congrArg (fun st => st.splice source target) h.store, h.seqs, h.reserve⟩
  | stamped v o pass => exact .inr ⟨_, _, rfl, rfl, h.stamp v o pass⟩
  | alloc target cls record =>
    rw [serve_alloc, serve_alloc, h.allocRefused, h.store]
    split
    · exact .inl ⟨rfl, rfl⟩
    · cases u.store.allocate target record with
      | none => exact .inl ⟨rfl, rfl⟩
      | some st => exact .inr ⟨_, _, rfl, rfl, rfl, h.seqs, h.reserve⟩
  | _ => exact .inr ⟨_, _, rfl, rfl, h⟩

theorem serveAll (rs : List Request) : ∀ {a u : State}, SameStore a u →
    SameStore (a.serveAll rs).1 (u.serveAll rs).1 ∧ (a.serveAll rs).2 = (u.serveAll rs).2 := by
  induction rs with
  | nil => exact fun h => ⟨h, rfl⟩
  | cons q rs ih =>
    intro a u h
    rcases h.serve q with ⟨ha, hu⟩ | ⟨b, t, ha, hu, h'⟩
    · rw [serveAll_refused ha, serveAll_refused hu]
      exact ⟨h, rfl⟩
    · rw [serveAll_served ha, serveAll_served hu]
      exact ih h'

end SameStore

/-- A grant served in the reset work changes the store and the sequence counter alone. -/
theorem serve_eq {s t : State} {q : Request} (h : s.serve q = some t) :
    t = { s with store := t.store, logs := { s.logs with seqs := t.logs.seqs } } := by
  cases q with
  | stamped v o pass =>
    cases h
    exact stamp_eq s v o pass
  | alloc target cls record =>
    rw [serve_alloc] at h
    split at h
    · cases h
    · obtain ⟨st, _, rfl⟩ := Option.map_eq_some_iff.1 h
      rfl
  | _ =>
    cases h
    rfl

theorem serveAll_eq (rs : List Request) : ∀ s : State, (s.serveAll rs).1 =
    { s with store := (s.serveAll rs).1.store, logs := { s.logs with seqs := (s.serveAll rs).1.logs.seqs } } := by
  induction rs with
  | nil => exact fun s => rfl
  | cons q rs ih =>
    intro s
    cases h : s.serve q with
    | none =>
      rw [serveAll_refused h]
    | some t =>
      rw [serveAll_served h]
      have ht := serve_eq h
      have hall := ih t
      rw [ht] at hall
      rw [ht]
      exact hall

/-- Serving a grant commutes with a change of a visit's context. -/
theorem serve_setVisit (s : State) (v : VisitNo) (x : Visit) (q : Request) :
    (s.setVisit v x).serve q = (s.serve q).map fun t => t.setVisit v x := by
  cases q with
  | stamped w o pass =>
    show some ((s.setVisit v x).stamp w o pass).1 = some ((s.stamp w o pass).1.setVisit v x)
    unfold State.stamp
    rw [State.setVisit_store]
    cases (s.store.desc (.pend w)).head <;> rfl
  | alloc target cls record =>
    have hr : (s.setVisit v x).allocRefused target cls record = s.allocRefused target cls record := rfl
    rw [serve_alloc, serve_alloc, hr, State.setVisit_store]
    split
    · rfl
    · cases s.store.allocate target record <;> rfl
  | _ => rfl

theorem serveAll_setVisit (v : VisitNo) (x : Visit) (rs : List Request) : ∀ s : State,
    (s.setVisit v x).serveAll rs = ((s.serveAll rs).1.setVisit v x, (s.serveAll rs).2) := by
  induction rs with
  | nil => exact fun s => rfl
  | cons q rs ih =>
    intro s
    have hx := serve_setVisit s v x q
    cases h : s.serve q with
    | none =>
      rw [h] at hx
      rw [serveAll_refused h, serveAll_refused hx]
    | some t =>
      rw [h] at hx
      rw [serveAll_served h, serveAll_served hx]
      exact ih t

theorem serveAll_append (ps qs : List Request) : ∀ {s : State}, (s.serveAll ps).2 = false →
    s.serveAll (ps ++ qs) = (s.serveAll ps).1.serveAll qs := by
  induction ps with
  | nil => exact fun _ => rfl
  | cons p ps ih =>
    intro s h
    cases hp : s.serve p with
    | none =>
      rw [serveAll_refused hp] at h
      cases h
    | some t =>
      rw [serveAll_served hp] at h ⊢
      exact (serveAll_served hp _).trans (ih h)

end Sys2Proof.Machine
end

section
/-! PROOFS. The reset work of one visit. -/

namespace Sys2Proof.Machine

/-! ### The reset work of one visit (R45, R46, R92) -/

/-- The state after the reset work of a visit: what its grants left, UNRECORDED where an allocation was refused, and
the visit's context. -/
def settledBy (r : State × Bool) (v : VisitNo) (x : Visit) : State :=
  (if r.2 then r.1.raise .office .unrecorded else r.1).setVisit v x

/-- The context of a visit after the reset work, by the one before it (R45, R46). -/
def Visit.settled (x : Visit) : Visit :=
  match x.state with
  | .queued | .checking => { x with state := if x.heldOrigin then .held else .loaded, heldOrigin := false }
  | .cleared | .lapsing => { x with state := .loaded, lapsed := true, clearance := none }
  | .releasing | .aborting => Visit.freed x.tag
  | .arrived => if x.arrivalMark then Visit.freed x.tag else x
  | .free | .assigned | .loading | .loaded | .held => x

theorem setVisit_setVisit (s : State) (v : VisitNo) (x y : Visit) : (s.setVisit v x).setVisit v y = s.setVisit v y := by
  unfold State.setVisit
  simp only [tset_tset]

theorem setVisit_visit (s : State) (v : VisitNo) : s.setVisit v (s.visit v) = s := by
  unfold State.setVisit State.visit
  rw [tset_tget]

theorem settledBy_setVisit (r : State × Bool) (v : VisitNo) (x y : Visit) :
    settledBy (r.1.setVisit v x, r.2) v y = settledBy r v y := by
  unfold settledBy
  cases r.2 with
  | false => exact setVisit_setVisit _ _ _ _
  | true => exact setVisit_setVisit (r.1.raise .office .unrecorded) v x y

/-- One grant of an abort in the reset work, by what serving it does (R46). -/
theorem settleAbort_step {s : State} {v : VisitNo} {c : AbortCourse} {q : Request} (fuel : Nat)
    (hab : (s.visit v).abort = some c) (hq : abortRequest v (s.visit v) c = some q) :
    State.settleAbort v (fuel + 1) s =
      (s.serve q).elim (s.settledUnrecorded v) fun t => State.settleAbort v fuel (t.countAbort v c) := by
  rw [State.settleAbort]
  simp only [hab, hq]
  rcases abortRequest_cases hq with ⟨rfl, _⟩ | rfl | rfl | rfl | ⟨rfl, _⟩
  case inl => rfl
  case inr.inr.inr.inr =>
    simp only [serve_alloc]
    split
    · rfl
    · cases s.store.allocate (.pend v) (abortHead v (s.visit v)) <;> rfl
  all_goals rfl

/-- The grants of an abort not yet answered are served one after another (R46). -/
theorem settleAbort_eq (v : VisitNo) (fuel : Nat) : ∀ {s : State} {c : AbortCourse}, (s.visit v).abort = some c →
    5 ≤ c.answered + fuel → State.settleAbort v fuel s =
      settledBy (s.serveAll ((abortCourse v (s.visit v) c.fromClearance).drop c.answered)) v
        (Visit.freed (s.visit v).tag) := by
  have short : ∀ (x : Visit) (b : Bool), (abortCourse v x b).length ≤ 5 := fun x b => by cases b <;> simp [abortCourse]
  induction fuel with
  | zero =>
    intro s c _ hn
    rw [List.drop_eq_nil_of_le ((short _ _).trans (show 5 ≤ c.answered from hn))]
    rfl
  | succ fuel ih =>
    intro s c hab hn
    have hcourse := State.abortRequest_eq_course v (s.visit v) c
    cases hq : abortRequest v (s.visit v) c with
    | none =>
      rw [hq] at hcourse
      rw [List.drop_eq_nil_of_le (List.getElem?_eq_none_iff.1 hcourse.symm), State.settleAbort]
      simp only [hab, hq]
      rfl
    | some q =>
      rw [hq] at hcourse
      obtain ⟨hlt, hget⟩ := List.getElem?_eq_some_iff.1 hcourse.symm
      rw [settleAbort_step fuel hab hq, List.drop_eq_getElem_cons hlt, hget]
      cases hs : s.serve q with
      | none =>
        rw [serveAll_refused hs]
        rfl
      | some t =>
        have hv : t.visit v = s.visit v := by rw [serve_eq hs]; rfl
        have hcount : t.countAbort v c =
            t.setVisit v { s.visit v with abort := some { c with answered := c.answered + 1 } } := by
          unfold State.countAbort
          rw [hv]
        rw [serveAll_served hs, Option.elim_some, hcount, ih (c := { c with answered := c.answered + 1 })
          (by rw [State.visit_setVisit_self]) (by show 5 ≤ c.answered + 1 + fuel; omega), State.visit_setVisit_self,
          serveAll_setVisit, settledBy_setVisit]
        rfl

/-- The return that a paper opened and without a line owes (R92). -/
def owedReturn (v : VisitNo) (x : Visit) : List Request :=
  if x.paperState = .opened ∧ x.accepted = 0 then [.splice (.paper v) .free] else []

/-- A list with no slot has none to move. -/
theorem splice_empty {st : Store} {source target : ListId} (h : (st.desc source).count = 0) :
    st.splice source target = st := by
  unfold Store.splice Store.move
  rw [h]
  rfl

theorem settlePaper_eq (s : State) (v : VisitNo) : s.settlePaper v = (s.serveAll (owedReturn v (s.visit v))).1 ∧
    (s.serveAll (owedReturn v (s.visit v))).2 = false := by
  unfold State.settlePaper owedReturn
  by_cases ho : (s.visit v).paperState = .opened ∧ (s.visit v).accepted = 0
  · rw [if_pos ho]
    refine ⟨?_, rfl⟩
    by_cases hn : (s.store.desc (.paper v)).count = 0
    · rw [if_neg fun h => h.2.2 hn]
      show s = s.setStore (s.store.splice (.paper v) .free)
      rw [splice_empty hn]
      rfl
    · rw [if_pos ⟨ho.1, ho.2, hn⟩]
      rfl
  · rw [if_neg ho, if_neg fun h => ho ⟨h.1, h.2.1⟩]
    exact ⟨rfl, rfl⟩

/-- A context that is freed owes no return. -/
theorem settlePaper_freed (r : State × Bool) (v : VisitNo) (tag : Tag) :
    (settledBy r v (Visit.freed tag)).settlePaper v = settledBy r v (Visit.freed tag) := by
  obtain ⟨h, _⟩ := settlePaper_eq (settledBy r v (Visit.freed tag)) v
  unfold settledBy at h ⊢
  rw [State.visit_setVisit_self] at h
  exact h

theorem serveAll_visit (s : State) (rs : List Request) (v : VisitNo) : (s.serveAll rs).1.visit v = s.visit v := by
  rw [serveAll_eq rs s]
  rfl

theorem settledBy_granted {r : State × Bool} (h : r.2 = false) (v : VisitNo) (x : Visit) :
    settledBy r v x = r.1.setVisit v x := by
  unfold settledBy
  rw [h]
  rfl

theorem freeUp_serveAll {s : State} {rs : List Request} (h : (s.serveAll rs).2 = false) (v : VisitNo) :
    (s.serveAll rs).1.freeUp v = settledBy (s.serveAll rs) v (Visit.freed (s.visit v).tag) := by
  rw [settledBy_granted h, State.freeUp, serveAll_visit]

/-- A visit at rest has the return of R92 as its reset work alone. -/
theorem settlePaper_atRest (s : State) (v : VisitNo) :
    s.settlePaper v = settledBy (s.serveAll (owedReturn v (s.visit v))) v (s.visit v) := by
  obtain ⟨h, granted⟩ := settlePaper_eq s v
  rw [settledBy_granted granted, h]
  have hx := setVisit_visit (s.serveAll (owedReturn v (s.visit v))).1 v
  rw [serveAll_visit] at hx
  exact hx.symm

/-- A context kept with its paper after grants that are not refused, and then the return of R92. -/
theorem settlePaper_kept {s : State} {v : VisitNo} {y : Visit} {rs : List Request} (h : (s.serveAll rs).2 = false)
    (hp : y.paperState = (s.visit v).paperState) (ha : y.accepted = (s.visit v).accepted) :
    ((s.serveAll rs).1.setVisit v y).settlePaper v =
      settledBy (s.serveAll (rs ++ owedReturn v (s.visit v))) v y := by
  have howed : owedReturn v y = owedReturn v (s.visit v) := by
    unfold owedReturn
    rw [hp, ha]
  obtain ⟨hpaper, granted⟩ := settlePaper_eq ((s.serveAll rs).1.setVisit v y) v
  rw [State.visit_setVisit_self, howed, serveAll_setVisit] at hpaper granted
  rw [serveAll_append rs _ h]
  exact hpaper.trans (settledBy_granted (r := (s.serveAll rs).1.serveAll _) granted v y).symm

theorem settleState_aborting {s : State} {v : VisitNo} (h : (s.visit v).state = .aborting) :
    s.settleState v = settledBy (s.serveAll (resetWork v (s.visit v))) v (Visit.freed (s.visit v).tag) := by
  simp only [State.settleState, resetWork, h]
  cases hab : (s.visit v).abort with
  | none =>
    rw [State.settleAbort, hab]
    rfl
  | some c => exact settleAbort_eq v 5 hab (Nat.le_add_left 5 c.answered)

/-- The reset work of one visit is what its grants do, and the context that R45 and R46 give. -/
theorem settle_eq (s : State) (v : VisitNo) :
    (s.settleState v).settlePaper v = settledBy (s.serveAll (resetWork v (s.visit v))) v (s.visit v).settled := by
  have served (rs : List Request) (h : (s.serveAll rs).2 = false) : ((s.serveAll rs).1.freeUp v).settlePaper v =
      settledBy (s.serveAll rs) v (Visit.freed (s.visit v).tag) := by
    rw [freeUp_serveAll h, settlePaper_freed]
  cases hst : (s.visit v).state
  case aborting =>
    rw [settleState_aborting hst, settlePaper_freed]
    simp only [Visit.settled, hst]
  all_goals simp only [State.settleState, resetWork, Visit.settled, hst]
  case releasing =>
    exact served [.splice (.comp v) .free, .splice (.paper v) .free, .stamped v .released (s.visit v).passMinute] rfl
  case arrived =>
    cases (s.visit v).arrivalMark with
    | true => exact served [.splice (.comp v) .free] rfl
    | false => exact settlePaper_atRest s v
  case queued => exact settlePaper_kept (rs := []) rfl rfl rfl
  case checking => exact settlePaper_kept (rs := [.splice (.pend v) .free]) rfl rfl rfl
  case cleared => exact settlePaper_kept (rs := [.stamped v .resetLapsed none]) rfl rfl rfl
  case lapsing => exact settlePaper_kept (rs := [.stamped v .resetLapsed none]) rfl rfl rfl
  all_goals exact settlePaper_atRest s v

end Sys2Proof.Machine
end

section
/-! PROOFS. The visits, the store and UNRECORDED after the reset work. -/

namespace Sys2Proof.Machine

/-! ### The reset work of the visits one after another (R24) -/

theorem settledBy_visit (r : State × Bool) (v w : VisitNo) (x : Visit) :
    (settledBy r v x).visit w = if v = w then x else r.1.visit w := by
  unfold settledBy
  rw [State.visit_setVisit]
  cases r.2 <;> rfl

theorem settle_visit (s : State) (v w : VisitNo) :
    ((s.settleState v).settlePaper v).visit w = if v = w then (s.visit v).settled else s.visit w := by
  rw [settle_eq, settledBy_visit, serveAll_visit]

/-- Every visit worked on is settled from what it was at the beginning, since the work of one changes no other. -/
theorem settleAll_visit (w : VisitNo) (vs : List VisitNo) : ∀ s : State, vs.Nodup →
    (State.settleAll vs s).visit w = if w ∈ vs then (s.visit w).settled else s.visit w := by
  induction vs with
  | nil => exact fun s _ => rfl
  | cons v vs ih =>
    intro s once
    obtain ⟨hv, hvs⟩ := List.nodup_cons.1 once
    rw [State.settleAll, ih _ hvs, settle_visit]
    by_cases hw : v = w
    · subst hw
      simp [hv]
    · simp [hw, Ne.symm hw]

/-- The grants of one visit's reset work, served after those of the visits before it; the mark says that an allocation
was refused. -/
def serveWork (s : State) (r : State × Bool) (v : VisitNo) : State × Bool :=
  let q := r.1.serveAll (resetWork v (s.visit v))
  (q.1, r.2 || q.2)

/-- A state of the reset work against the grants served alone: one store and one counter, and UNRECORDED stands where
an allocation was refused. -/
structure Settles (r : State × Bool) (u : State) : Prop where
  same       : SameStore r.1 u
  unrecorded : hasFlag (u.link .office).flags .unrecorded = r.2

theorem serveAll_link (s : State) (rs : List Request) (l : LinkNo) : (s.serveAll rs).1.link l = s.link l := by
  rw [serveAll_eq rs s]
  rfl

theorem Settles.step {s u : State} {r : State × Bool} {v : VisitNo} (h : Settles r u) (hv : u.visit v = s.visit v) :
    Settles (serveWork s r v) ((u.settleState v).settlePaper v) := by
  obtain ⟨same, refused⟩ := h.same.serveAll (resetWork v (s.visit v))
  have kept := serveAll_link u (resetWork v (s.visit v)) .office
  rw [settle_eq, hv]
  unfold serveWork settledBy
  simp only [refused]
  cases (u.serveAll (resetWork v (s.visit v))).2 with
  | false =>
    refine ⟨⟨same.store, same.seqs, same.reserve⟩, ?_⟩
    show hasFlag ((u.serveAll (resetWork v (s.visit v))).1.link .office).flags .unrecorded = (r.2 || false)
    rw [kept, h.unrecorded, Bool.or_false]
  | true =>
    refine ⟨⟨same.store, same.seqs, same.reserve⟩, ?_⟩
    rw [Bool.or_true]
    exact (hasFlag_putFlag _ .unrecorded .unrecorded true).trans (if_pos rfl)

theorem Settles.all {s : State} (vs : List VisitNo) : ∀ {u : State} {r : State × Bool}, vs.Nodup →
    (∀ w ∈ vs, u.visit w = s.visit w) → Settles r u →
    Settles (vs.foldl (serveWork s) r) (State.settleAll vs u) := by
  induction vs with
  | nil => exact fun _ _ h => h
  | cons v vs ih =>
    intro u r once untouched h
    obtain ⟨hv, hvs⟩ := List.nodup_cons.1 once
    refine ih hvs (fun w hw => ?_) (h.step (untouched v List.mem_cons_self))
    rw [settle_visit, if_neg fun (e : v = w) => hv (e ▸ hw)]
    exact untouched w (List.mem_cons_of_mem _ hw)

/-! ### The reset work within a line reset (R209) -/

/-- The flags that follow a condition are not UNRECORDED, so it stands as it was (R196). -/
theorem follow_unrecorded (s : State) :
    hasFlag (s.follow.link .office).flags .unrecorded = hasFlag (s.link .office).flags .unrecorded := by
  show hasFlag (putFlag (putFlag (putFlag (s.link .office).flags .storeLow s.storeLow) .logReady s.logReady)
    .excReady s.excReady) .unrecorded = _
  simp [hasFlag_putFlag]

/-- The conditions are evaluated and the control register is set after the reset work; neither touches what the grants
changed. -/
theorem Settles.closed {r : State × Bool} {u : State} (h : Settles r u) (x : Control) :
    Settles r (u.follow.setCc x) :=
  ⟨⟨h.same.store, h.same.seqs, h.same.reserve⟩, (follow_unrecorded u).trans h.unrecorded⟩

/-- The state in which the reset work begins: what is discarded, and the configuration (R209). -/
def resetBegun (s : State) : State :=
  let u := if s.keeps then s.discarded else s.discarded.defaulted
  u.setCc { u.cc with keep := false }

theorem reset209_eq (s : State) : ∃ x, s.reset209 =
    (State.settleAll (List.finRange 48) (resetBegun s)).follow.setCc x := by
  unfold State.reset209 resetBegun
  exact ⟨_, rfl⟩

theorem resetBegun_visit (s : State) (v : VisitNo) : (resetBegun s).visit v = s.visit v := by
  unfold resetBegun
  cases s.keeps <;> rfl

theorem resetBegun_settles (s : State) :
    Settles ({ s with reserve := if s.cc.keep || s.cc.locked then s.reserve else 64 }, false) (resetBegun s) := by
  unfold resetBegun State.keeps
  cases s.cc.keep || s.cc.locked with
  | true => exact ⟨⟨rfl, rfl, rfl⟩, hasFlag_reset .office .unrecorded⟩
  | false => exact ⟨⟨rfl, rfl, rfl⟩, hasFlag_reset .office .unrecorded⟩

theorem reset209_visit (s : State) (v : VisitNo) : s.reset209.visit v = (s.visit v).settled := by
  have settled := settleAll_visit v _ (resetBegun s) (List.nodup_finRange 48)
  rw [if_pos (List.mem_finRange v), resetBegun_visit] at settled
  obtain ⟨x, h⟩ := reset209_eq s
  have last (u : State) : (u.follow.setCc x).visit v = u.visit v := rfl
  rw [h, last]
  exact settled

/-- R209 leaves the store, the counter and UNRECORDED as the grants of the visits' reset work do. -/
theorem reset209_settles {s u : State} {begun : State × Bool} (visits : ∀ v, u.visit v = s.visit v)
    (h : Settles begun (resetBegun u)) : Settles ((List.finRange 48).foldl (serveWork s) begun) u.reset209 := by
  obtain ⟨x, hx⟩ := reset209_eq u
  rw [hx]
  exact (Settles.all _ (List.nodup_finRange 48) (fun w _ => (resetBegun_visit u w).trans (visits w)) h).closed _

/-- A line reset that begins works as R209 says, on what the supplies, RST and the straps do not hold (R186, R208). -/
theorem lineReset_begins {cause : ResetCause} {p : Straps} {s : State} (h : ResetBegins cause s) :
    ∃ power rst rate, exec (.lineReset cause p) s =
      .next (State.reset209 { s with power := power, rst := rst, rate := rate }) := by
  cases cause with
  | rstReleased =>
    obtain ⟨hpower, hrst⟩ := h
    refine ⟨s.power, false, BitRate.ofStraps p.rate1 p.rate0, ?_⟩
    show Host.Outcome.next (if s.rst = false then _ else if s.power = .main then _ else _) = _
    rw [if_neg (by simp [hrst]), if_pos hpower]
    rfl
  | mainReturns =>
    obtain ⟨hpower, hrst⟩ := h
    refine ⟨.main, s.rst, BitRate.ofStraps p.rate1 p.rate0, ?_⟩
    show Host.Outcome.next (if s.power ≠ .backup then _ else if s.rst = true then _ else _) = _
    rw [if_neg (not_not.2 hpower), if_neg (by simp [hrst])]
    rfl

/-- Settles O7: each visit's reset work is its grants served one after another (`settle_eq`), and the work of the
visits in their order is those grants in that order (`Settles.all`). -/
theorem lineResetSettlesVisits : Obligations.LineResetSettlesVisits := by
  intro cause p s begins
  obtain ⟨power, rst, rate, h⟩ := lineReset_begins (p := p) begins
  generalize hu : ({ s with power := power, rst := rst, rate := rate } : State) = u at h
  have visits : ∀ v, u.visit v = s.visit v := fun v => by rw [← hu]; rfl
  have begun : Settles ({ s with reserve := if s.cc.keep || s.cc.locked then s.reserve else 64 }, false)
      (resetBegun u) := by
    obtain ⟨⟨store, seqs, reserve⟩, unrecorded⟩ := resetBegun_settles u
    subst hu
    exact ⟨⟨store, seqs, reserve⟩, unrecorded⟩
  obtain ⟨⟨store, seqs, _⟩, unrecorded⟩ := reset209_settles visits begun
  have settled : ∀ v, u.reset209.visit v = (s.visit v).settled := fun v => by rw [reset209_visit, visits]
  exact ⟨_, h, settled, store.symm, seqs.symm, unrecorded⟩

end Sys2Proof.Machine
end

section
/-! PROOFS. The items that bind a bay window to a visit and unbind it (O30). -/

namespace Sys2Proof.Machine

/-! ### Bay numbers and windows (R47) -/

theorem bay?_some {bay : Nat} (h : 1 ≤ bay ∧ bay ≤ 16) : bay? bay = some ⟨bay - 1, by omega⟩ := by
  unfold bay?
  rw [if_neg (by omega), fin?_lt]

theorem bay?_none {bay : Nat} (h : ¬ (1 ≤ bay ∧ bay ≤ 16)) : bay? bay = none := by
  unfold bay?
  by_cases h0 : bay = 0
  · rw [if_pos h0]
  · rw [if_neg h0, fin?_ge (by omega)]

theorem window_begin (s : State) (h : Head) (i : Instr) (b : BayIx) : (s.begin h i).window b = s.window b := by
  rw [State.begin_eq]
  rfl

/-! ### BAY_ASSIGN, BAY_RELEASE and LOAD_END as they are taken (R48, R49, R51, R52) -/

theorem bindBay_begin (s : State) (h : Head) (i : Instr) (b : BayIx) (v : VisitNo) :
    (s.begin h i).bindBay b v = (s.bindBay b v).begin h i :=
  State.begin_update (f := fun s => s.bindBay b v) (fun _ => rfl) rfl

theorem leaveBay_begin (s : State) (h : Head) (i : Instr) (b : BayIx) (v : VisitNo) (st : VisitState) :
    (s.begin h i).leaveBay b v st = (s.leaveBay b v st).begin h i :=
  State.begin_update (f := fun s => s.leaveBay b v st) (fun _ => rfl) rfl

/-- A window and its visit bound in one step (R49). -/
theorem bindBay_eq (s : State) (b : BayIx) (v : VisitNo) : s.bindBay b v =
    { s with
      windows := tset s.windows b (some
        { visit := v, tag := (s.visit v).tag, span := ((s.visit v).arrival.map Arrival.compCount).getD 0
          access := .read, map := [] })
      visits := tset s.visits v
        { s.visit v with state := .assigned, bay := some b, heldOrigin := decide ((s.visit v).state = .held) } } := by
  have held : ((s.visit v).state == .held) = decide ((s.visit v).state = .held) := by
    cases (s.visit v).state <;> rfl
  rw [← held]
  rfl

/-- An item that ends a session at a bay: its form, the window, the visit's state, and the leave (R51, R52). -/
theorem leaveBay_taken {s t : State} {h : Head} {i : Instr} (ht : Taken s h i) {bay : Nat} {due : VisitState}
    {left : Visit → VisitState}
    (hblock : t = (s.begin h i).atBay h.link bay fun b w =>
      if ((s.begin h i).visit w.visit).state = due then
        ((s.begin h i).leaveBay b w.visit (left ((s.begin h i).visit w.visit))).answer h.link .done []
      else (s.begin h i).refuse h.link .state) :
    if hb : 1 ≤ bay ∧ bay ≤ 16 then
      match s.window ⟨bay - 1, by omega⟩ with
      | none => Answered s t h i .notMapped []
      | some w =>
          if (s.visit w.visit).state = due then
            Answered { s with
              windows := tset s.windows ⟨bay - 1, by omega⟩ none
              visits := tset s.visits w.visit
                { s.visit w.visit with state := left (s.visit w.visit), heldOrigin := false } } t h i .done []
          else Answered s t h i .state []
    else Answered s t h i .malformed [] := by
  obtain ⟨e, he⟩ := taken_executing ht
  have refused := State.answered_begin (i := i) he
  simp only [visit_begin, leaveBay_begin] at hblock
  unfold State.atBay at hblock
  by_cases hb : 1 ≤ bay ∧ bay ≤ 16
  · simp only [bay?_some hb, window_begin] at hblock
    rw [dif_pos hb]
    cases hw : s.window ⟨bay - 1, by omega⟩ with
    | none =>
      rw [hw] at hblock
      exact hblock ▸ refused _ _
    | some w =>
      rw [hw] at hblock
      simp only at hblock ⊢
      split_ifs at hblock ⊢
      · exact hblock ▸ State.answered_begin (r := s.leaveBay _ _ _) he _ _
      · exact hblock ▸ refused _ _
  · simp only [bay?_none hb] at hblock
    rw [dif_neg hb]
    exact hblock ▸ refused _ _

/-- R48 after R26, in its order, and then the binding. -/
theorem bayAssign_checked {s t : State} {h : Head} {i : Instr} (ht : Taken s h i) (b : BayIx) (v : VisitNo)
    (hblock : t = if (s.visit v).state ≠ .arrived ∧ (s.visit v).state ≠ .held then (s.begin h i).refuse h.link .state
      else if (s.window b).isSome then (s.begin h i).refuse h.link .bayBusy
      else ((s.begin h i).bindBay b v).ask h.link (.bayRead b v (s.visit v).tag) (.read (.comp v) none)) :
    if (s.visit v).state ≠ .arrived ∧ (s.visit v).state ≠ .held then Answered s t h i .state []
    else if s.window b ≠ none then Answered s t h i .bayBusy []
    else Waits (s.bindBay b v) t h i (.bayRead b v (s.visit v).tag) (.read (.comp v) none) := by
  obtain ⟨e, he⟩ := taken_executing ht
  have refused := State.answered_begin (i := i) he
  simp only [Option.isSome_iff_ne_none, bindBay_begin] at hblock
  split_ifs at hblock ⊢
  · exact hblock ▸ refused _ _
  · exact hblock ▸ refused _ _
  · exact hblock ▸ State.waits_begin (r := s.bindBay b v) he _ _

/-- Order 1 of R26: an item whose form is wrong names no visit. -/
theorem addressed_malformed (s : State) (l : LinkNo) (visit vtag : Nat) (f : VisitNo → State) :
    s.addressed l false visit vtag f = s.refuse l .malformed := by
  unfold State.addressed
  cases fin? 48 visit <;> rfl

/-- Settles O30: an assignment passes R26 (`addressed_taken`) and R48 (`bayAssign_checked`), and the two items that end a
session are one rule (`leaveBay_taken`). -/
theorem bayItemsBindAndUnbind : Obligations.BayItemsBindAndUnbind := by
  refine ⟨fun h visit vtag bay s => ?assign, fun h bay s => ⟨fun ht => ?release, fun ht => ?loadEnd⟩⟩
  case release =>
    exact ⟨_, congrArg Host.Outcome.next (State.takeItem_taken _ ht),
      leaveBay_taken ht (due := .assigned) (left := fun x => if x.heldOrigin then .held else .arrived) rfl⟩
  case loadEnd =>
    exact ⟨_, congrArg Host.Outcome.next (State.takeItem_taken _ ht),
      leaveBay_taken ht (due := .loading) (left := fun _ => .loaded) rfl⟩
  case assign =>
    intro i ht
    obtain ⟨t, hexec, hblock⟩ : ∃ t, exec i s = .next t ∧ t = (s.begin h i).onBayAssign h.link visit vtag bay :=
      ⟨_, congrArg Host.Outcome.next (State.takeItem_taken _ ht), rfl⟩
    refine ⟨t, hexec, ?_⟩
    unfold State.onBayAssign at hblock
    by_cases hb : 1 ≤ bay ∧ bay ≤ 16
    · simp only [bay?_some hb, Option.isSome_some, visit_begin, window_begin] at hblock
      have addressed := addressed_taken ht hblock fun hv _ ht' => bayAssign_checked ht _ ⟨visit, hv⟩ ht'
      by_cases hv : visit < 48
      · rw [dif_pos hv, bindBay_eq] at addressed
        rw [dif_pos ⟨hv, hb⟩]
        exact addressed
      · rw [dif_neg hv] at addressed
        rw [dif_neg fun hc => hv hc.1]
        exact addressed
    · obtain ⟨e, he⟩ := taken_executing ht
      rw [bay?_none hb, Option.isSome_none, addressed_malformed] at hblock
      rw [dif_neg fun hc => hb hc.2]
      exact hblock ▸ State.answered_begin he _ _

end Sys2Proof.Machine
end

section
/-! PROOFS. The grants of a bay preparation (O31). -/

namespace Sys2Proof.Machine

/-! ### Reads and writes of a link's requester (R11, R12) -/

theorem read_granted {s : State} {l : LinkNo} {list : ListId} {i : Option SlotRef}
    (hg : s.grant = some (linkRequester l, .read list i)) :
    exec .slotRead s = .next ((s.granted (linkRequester l)).linkRead l (s.store.read list i)) := by
  have hp : linkRequester l ≠ .check := by cases l <;> simp [linkRequester]
  show execSlotRead s = _
  unfold execSlotRead State.readBy
  simp only [hg, hp, false_and, if_false, linkRequester_link]
  rfl

theorem write_made {s : State} {l : LinkNo} {list : ListId} {ref : SlotRef} {f : WriteFields} {st : Store}
    (hg : s.grant = some (linkRequester l, .write list ref f)) (hw : s.store.write s.now list ref f = some st) :
    exec .slotWrite s =
      .next ((((s.granted (linkRequester l)).setStore st).reportList list).linkWritten l true) := by
  show execSlotWrite s = _
  unfold execSlotWrite State.writtenBy
  simp only [hg, hw, linkRequester_link]
  rfl

theorem write_moved {s : State} {l : LinkNo} {list : ListId} {ref : SlotRef} {f : WriteFields}
    (hg : s.grant = some (linkRequester l, .write list ref f)) (hw : s.store.write s.now list ref f = none) :
    exec .slotWrite s = .next ((s.granted (linkRequester l)).linkWritten l false) := by
  show execSlotWrite s = _
  unfold execSlotWrite State.writtenBy
  simp only [hg, hw, linkRequester_link]
  rfl

/-- A write of a link, whose report to the DCU (R16) leaves the telegrams executing. -/
theorem undisturbed_write (s : State) (l : LinkNo) (st : Store) (v : Option VisitNo) :
    Undisturbed s (((s.granted (linkRequester l)).setStore st).report v) :=
  Undisturbed.trans (s := (s.granted (linkRequester l)).setStore st) (.of_eq rfl rfl) (.report _ v)

/-- A report reaches no window (R144). -/
theorem report_window (s : State) (v : Option VisitNo) (b : BayIx) : (s.report v).window b = s.window b := by
  unfold State.report
  split
  · rfl
  · split
    · split
      · rfl
      · unfold State.endRetry State.endCheck State.changeVisit
        split <;> rfl
    · rfl

/-! ### The answers of a preparation (R49, R50) -/

theorem windowHolds_iff {s : State} {b : BayIx} {v : VisitNo} {tag : Tag} :
    s.windowHolds b v tag = true ↔ ∃ w, s.window b = some w ∧ w.visit = v ∧ w.tag = tag := by
  unfold State.windowHolds
  cases s.window b <;> simp

theorem windowHolds_none {s : State} {b : BayIx} {v : VisitNo} {tag : Tag} (h : s.window b = none) :
    s.windowHolds b v tag = false := by
  unfold State.windowHolds
  rw [h]

theorem setWindow_setWindow (s : State) (b : BayIx) (w x : Option Window) :
    (s.setWindow b w).setWindow b x = s.setWindow b x := by
  simp [State.setWindow]

theorem changeWindow_some {s : State} {b : BayIx} {w : Window} (h : s.window b = some w) (f : Window → Window) :
    s.changeWindow b f = s.setWindow b (some (f w)) := by
  unfold State.changeWindow
  rw [h]
  rfl

section
variable {s : State} {l : LinkNo} {b : BayIx} {v : VisitNo} {tag : Tag} {w : Window}

theorem linkRead_bay (hj : s.job l = some (.bayRead b v tag)) (a : ReadAnswer) :
    s.linkRead l a = s.bayRead l b v tag a := by
  unfold State.linkRead
  rw [hj]

theorem linkWritten_bay {n : Nat} {ref : SlotRef} {next : Option SlotRef}
    (hj : s.job l = some (.bayWrite b v tag n ref next)) (written : Bool) :
    s.linkWritten l written = s.bayWritten l b v tag n ref next written := by
  unfold State.linkWritten
  rw [hj]

/-- The window takes FILL access, and the reply names the bay and the span (R49). -/
theorem bayReady_finished {j : Job} (hj : s.job l = some j) (hw : s.window b = some w) :
    Finished (s.setWindow b (some { w with access := .fill })) (s.bayReady l b) l .done
      (put8 (b.val + 1) ++ put8 w.span) := by
  unfold State.bayReady
  rw [changeWindow_some hw, hw]
  exact finished_of_job (r := s.setWindow b _) hj _ _

theorem bayRead_continues {ref : SlotRef} {c : Compartment} {next : Option SlotRef} {j : Job}
    (hj : s.job l = some j) (hh : s.windowHolds b v tag = true) :
    Continues s (s.bayRead l b v tag (.slot ref (.compartment c) next)) l (.bayWrite b v tag c.number ref next)
      (.write (.comp v) ref (.prepare c.net)) := by
  unfold State.bayRead
  rw [if_pos hh]
  exact continues_of_job hj _ _

theorem bayRead_finished {a : ReadAnswer} {j : Job} (hj : s.job l = some j) (hh : s.windowHolds b v tag = false) :
    Finished s (s.bayRead l b v tag a) l .busy [] := by
  unfold State.bayRead
  rw [if_neg (by simp [hh])]
  exact finished_of_job hj _ _

/-- A slot written enters the map; with none left to read the preparation is complete (R49). -/
theorem bayWritten_mapped {n : Nat} {ref : SlotRef} {next : Option SlotRef} {j : Job} (hj : s.job l = some j)
    (hw : s.window b = some w) (hv : w.visit = v) (ht : w.tag = tag) :
    match next with
    | some r =>
        Continues (s.setWindow b (some { w with map := w.map ++ [⟨n, ref⟩] }))
          (s.bayWritten l b v tag n ref next true) l (.bayRead b v tag) (.read (.comp v) (some r))
    | none =>
        Finished (s.setWindow b (some { w with map := w.map ++ [⟨n, ref⟩], access := .fill }))
          (s.bayWritten l b v tag n ref next true) l .done (put8 (b.val + 1) ++ put8 w.span) := by
  unfold State.bayWritten
  rw [if_pos (by rw [windowHolds_iff.2 ⟨w, hw, hv, ht⟩]; rfl), changeWindow_some hw]
  cases next with
  | some r => exact continues_of_job (r := s.setWindow b _) hj _ _
  | none =>
    have ready := bayReady_finished (s := s.setWindow b (some { w with map := w.map ++ [⟨n, ref⟩] })) hj
      (State.window_setWindow_self s b _)
    rwa [setWindow_setWindow] at ready

theorem bayWritten_finished {n : Nat} {ref : SlotRef} {next : Option SlotRef} {written : Bool} {j : Job}
    (hj : s.job l = some j) (hh : s.windowHolds b v tag = false) :
    Finished s (s.bayWritten l b v tag n ref next written) l .busy [] := by
  unfold State.bayWritten
  rw [if_neg (by simp [hh])]
  exact finished_of_job hj _ _

end

/-- Settles O31: the answers of a preparation's read (`bayRead_continues`, `bayRead_finished`) and of its write
(`bayWritten_mapped`, `bayWritten_finished`), whose grants leave the windows. -/
theorem bayPreparationsWriteEverySlot : Obligations.BayPreparationsWriteEverySlot := by
  intro s b v tag w
  refine ⟨fun at_ ref c next hg hj hread => ?read, fun number ref next base st hg hj hwrite => ?write⟩
  case read =>
    have hju : (s.granted (linkRequester .loading)).job .loading = some (.bayRead b v tag) := hj
    refine ⟨_, read_granted (l := .loading) hg, ?_⟩
    rw [linkRead_bay hju, hread]
    exact ⟨fun hw hv ht => bayRead_continues hju (windowHolds_iff.2 ⟨w, hw, hv, ht⟩),
      fun hw => bayRead_finished hju (windowHolds_none hw)⟩
  case write =>
    have hju := ((undisturbed_write s .loading st (some v)).job .loading).trans hj
    have hwindow := report_window ((s.granted (linkRequester .loading)).setStore st) (some v) b
    refine ⟨_, write_made (l := .loading) hg hwrite, ?_⟩
    rw [reportList_watched rfl, linkWritten_bay hju]
    exact ⟨fun hw hv ht => bayWritten_mapped hju (hwindow.trans hw) hv ht,
      fun hw => bayWritten_finished hju (windowHolds_none (hwindow.trans hw))⟩

end Sys2Proof.Machine
end

section
/-! PROOFS. FILL and its grants (O32). -/

namespace Sys2Proof.Machine

/-! ### Flags beside the telegrams (R196) -/

theorem Links.put_comm (k : Links) {l m : LinkNo} (x y : Link) (h : l ≠ m) :
    (k.put l x).put m y = (k.put m y).put l x := by
  cases l <;> cases m <;> simp [Links.put] at h ⊢

theorem Link.putExecuting_setFlags (k : Link) (f : FlagWord) (b : Buffer) :
    { k with flags := f }.putExecuting b = { k.putExecuting b with flags := f } := by
  unfold Link.putExecuting
  simp only
  split <;> rfl

/-- A flag raised and a telegram put do not touch each other. -/
theorem raise_putExecuting (s : State) (l m : LinkNo) (f : Flag) (b : Buffer) :
    (s.putExecuting l b).raise m f = (s.raise m f).putExecuting l b := by
  unfold State.raise State.putExecuting
  by_cases h : l = m
  · subst h
    simp only [State.link_setLink_self, Link.putExecuting_setFlags, Link.putExecuting_flags]
    simp [State.setLink, State.setLinks]
  · rw [State.link_setLink_ne _ _ h, State.link_setLink_ne _ _ (Ne.symm h)]
    exact congrArg s.setLinks (Links.put_comm _ _ _ h)

theorem raise_begin (s : State) (h : Head) (i : Instr) (m : LinkNo) (f : Flag) :
    (s.begin h i).raise m f = (s.raise m f).begin h i := by
  unfold State.begin
  rw [(Undisturbed.raise s m f).executing]
  split
  · exact raise_putExecuting _ _ _ _ _
  · rfl

/-! ### A FILL refused NOT_MAPPED (R53 to R55) -/

theorem notMapped_answered {s : State} {h : Head} {i : Instr} (ht : Taken s h i) :
    Answered (s.raise .loading .mapMiss) ((s.begin h i).notMapped h.link) h i .notMapped [] := by
  obtain ⟨e, he⟩ := taken_executing ht
  unfold State.notMapped
  rw [raise_begin]
  exact State.answered_begin (((Undisturbed.raise s _ _).executing _).trans he) _ _

theorem notMapped_finished {s : State} {l : LinkNo} {j : Job} (hj : s.job l = some j) :
    Finished (s.raise .loading .mapMiss) (s.notMapped l) l .notMapped [] :=
  finished_of_job (((Undisturbed.raise s _ _).job l).trans hj) _ _

/-! ### FILL as it is taken (R53) -/

theorem resolve_begin (s : State) (h : Head) (i : Instr) (b : BayIx) (comp : Nat) :
    (s.begin h i).resolve b comp = s.resolve b comp := by
  unfold State.resolve
  rw [window_begin]

theorem resolve_some {s : State} {b : BayIx} {comp : Nat} {w : Window} {m : MapEntry} (hw : s.window b = some w)
    (ha : w.access = .fill) (hlow : 1 ≤ comp) (hhigh : comp ≤ w.span)
    (hm : (w.map.find? fun m => m.comp == comp) = some m) : s.resolve b comp = some (w, m.slot) := by
  unfold State.resolve
  simp only [hw]
  rw [if_pos ⟨ha, hlow, hhigh⟩, hm]
  rfl

theorem resolve_none {s : State} {b : BayIx} {comp : Nat}
    (h : ∀ w, s.window b = some w → w.access = .read ∨ comp < 1 ∨ w.span < comp) : s.resolve b comp = none := by
  unfold State.resolve
  cases hw : s.window b with
  | none => rfl
  | some w =>
    refine if_neg fun ⟨ha, hlow, hhigh⟩ => ?_
    rcases h w hw with hread | hout
    · rw [ha] at hread
      cases hread
    · omega

theorem onFill_unresolved {s : State} {l : LinkNo} {bay comp product figure : Nat} (hb : 1 ≤ bay ∧ bay ≤ 16)
    (hp : product ≤ 9999) (h : s.resolve ⟨bay - 1, by omega⟩ comp = none) :
    s.onFill l bay comp product figure = s.notMapped l := by
  unfold State.onFill
  simp only [bay?_some hb, if_neg (Nat.not_lt.2 hp), h]

theorem onFill_resolved {s : State} {l : LinkNo} {bay comp product figure : Nat} {w : Window} {slot : SlotRef}
    (hb : 1 ≤ bay ∧ bay ≤ 16) (hp : product ≤ 9999) (h : s.resolve ⟨bay - 1, by omega⟩ comp = some (w, slot)) :
    s.onFill l bay comp product figure = s.ask l
      (.fillRead ⟨bay - 1, by omega⟩ w.visit w.tag slot product figure) (.read (.comp w.visit) (some slot)) := by
  unfold State.onFill
  simp only [bay?_some hb, if_neg (Nat.not_lt.2 hp), h]

theorem onFill_malformed {s : State} {l : LinkNo} {bay comp product figure : Nat}
    (h : ¬ (1 ≤ bay ∧ bay ≤ 16 ∧ product ≤ 9999)) :
    s.onFill l bay comp product figure = s.refuse l .malformed := by
  unfold State.onFill
  by_cases hb : 1 ≤ bay ∧ bay ≤ 16
  · rw [bay?_some hb]
    exact if_pos (by omega)
  · rw [bay?_none hb]

/-! ### The read of a FILL (R54 to R57) -/

theorem mixed_iff {c : Compartment} {product : Nat} :
    State.mixed c product = true ↔ 0 < c.net ∧ c.product ≠ none ∧ c.product ≠ some product := by
  unfold State.mixed
  cases c.product <;> simp [and_comm]

theorem fillOver_eq (c : Compartment) (net : Nat) : State.fillOver c net = decide (∃ k ∈ c.capacity, k < net) := by
  unfold State.fillOver
  cases c.capacity <;> simp

theorem fillAmended_eq (c : Compartment) (figure : Nat) :
    State.fillAmended c figure = (c.amended || decide (∃ f ∈ c.figure, figure < f)) := by
  unfold State.fillAmended
  cases c.figure <;> simp

section
variable {s : State} {l : LinkNo} {b : BayIx} {v : VisitNo} {tag : Tag} {slot : SlotRef} {product figure : Nat}

theorem linkRead_fill (hj : s.job l = some (.fillRead b v tag slot product figure)) (a : ReadAnswer) :
    s.linkRead l a = s.fillRead l b v tag slot product figure a := by
  unfold State.linkRead
  rw [hj]

/-- The answer of a FILL's read where the window no longer holds the visit (log 13). -/
theorem fillRead_gone {j : Job} (hj : s.job l = some j) (hh : s.windowHolds b v tag = false) (a : ReadAnswer) :
    Finished (s.raise .loading .mapMiss) (s.fillRead l b v tag slot product figure a) l .notMapped [] := by
  unfold State.fillRead
  split
  · rw [if_pos hh]
    exact notMapped_finished hj
  · exact notMapped_finished hj

/-- The answer of a FILL's read where the window holds the visit. -/
theorem fillRead_held {j : Job} (hj : s.job l = some j) (hh : s.windowHolds b v tag = true) (ref : SlotRef)
    (c : Compartment) (next : Option SlotRef) :
    let net := min (c.base + figure) 65535
    let overfull := decide (∃ k ∈ c.capacity, k < net)
    let amended := c.amended || decide (∃ f ∈ c.figure, figure < f)
    if 0 < c.net ∧ c.product ≠ none ∧ c.product ≠ some product then
      Finished s (s.fillRead l b v tag slot product figure (.slot ref (.compartment c) next)) l .mixedProduct []
    else
      Continues s (s.fillRead l b v tag slot product figure (.slot ref (.compartment c) next)) l
        (.fillWrite v net overfull amended)
        (.write (.comp v) slot (.fill net product (min (c.fills + 1) 65535) figure overfull amended)) := by
  unfold State.fillRead
  simp only [hh, mixed_iff, fillOver_eq, fillAmended_eq, Bool.true_eq_false, if_false]
  split_ifs
  · exact finished_of_job hj _ _
  · exact continues_of_job hj _ _

end

/-! ### The write of a FILL (R55, R58) -/

/-- A report ends no visit's ASSIGNED state and gives it to none (R146). -/
theorem report_assigned (s : State) (w : Option VisitNo) (v : VisitNo) :
    ((s.report w).visit v).state = .assigned ↔ (s.visit v).state = .assigned := by
  have retried : ∀ c, ((s.endRetry c).visit v).state = .assigned ↔ (s.visit v).state = .assigned := by
    intro c
    show ((s.changeVisit c.visit .checking _).visit v).state = _ ↔ _
    unfold State.changeVisit
    split
    · next hc =>
      rw [State.visit_setVisit]
      split
      · next e => simp [← e, hc]
      · rfl
    · rfl
  unfold State.report
  split
  · rfl
  · split
    · split
      · rfl
      · exact retried _
    · rfl

section
variable {s : State} {l : LinkNo} {v : VisitNo} {net : Nat} {overfull amended : Bool} {list : ListId} {ref : SlotRef}
  {f : WriteFields}

theorem linkWritten_fill (hj : s.job l = some (.fillWrite v net overfull amended)) (written : Bool) :
    s.linkWritten l written = s.fillWritten l v net overfull amended written := by
  unfold State.linkWritten
  rw [hj]

/-- The write of a FILL that finds its slot: the report to the DCU, then the visit's LOADING and the reply. -/
theorem fillWrite_made {st : Store} (hg : s.grant = some (linkRequester l, .write (.comp v) ref f))
    (hj : s.job l = some (.fillWrite v net overfull amended)) (hw : s.store.write s.now (.comp v) ref f = some st) :
    ∃ t, exec .slotWrite s = .next t ∧
      let u := ((s.granted (linkRequester l)).setStore st).report (some v)
      Finished (if (s.visit v).state = .assigned then u.setVisit v { u.visit v with state := .loading } else u) t l
        .done (put16 net ++ putBit overfull ++ putBit amended) := by
  have hju := ((undisturbed_write s l st (some v)).job l).trans hj
  have hassigned : _ ↔ (s.visit v).state = .assigned :=
    report_assigned ((s.granted (linkRequester l)).setStore st) (some v) v
  refine ⟨_, write_made hg hw, ?_⟩
  rw [reportList_watched rfl, linkWritten_fill hju]
  unfold State.fillWritten State.changeVisit
  simp only [if_true, hassigned]
  split_ifs
  · exact finished_of_job (r := (State.report _ _).setVisit v _) hju _ _
  · exact finished_of_job hju _ _

/-- The write of a FILL that finds no slot. -/
theorem fillWrite_lost (hg : s.grant = some (linkRequester l, .write list ref f))
    (hj : s.job l = some (.fillWrite v net overfull amended)) (hw : s.store.write s.now list ref f = none) :
    ∃ t, exec .slotWrite s = .next t ∧
      Finished ((s.granted (linkRequester l)).raise .loading .mapMiss) t l .notMapped [] := by
  have hju : (s.granted (linkRequester l)).job l = some (.fillWrite v net overfull amended) := hj
  refine ⟨_, write_moved hg hw, ?_⟩
  rw [linkWritten_fill hju]
  exact notMapped_finished hju

end

/-- Settles O32: FILL resolves or is refused (`resolve_some`, `resolve_none`), its read is answered with the window gone
or held (`fillRead_gone`, `fillRead_held`), and its write finds its slot or not (`fillWrite_made`, `fillWrite_lost`). -/
theorem fillsResolveAndWriteTheRecord : Obligations.FillsResolveAndWriteTheRecord := by
  refine ⟨fun h bay comp product figure s => ?taken, fun s b v tag slot product figure hg hj => ?read,
    fun s v slot net product fills figure overfull amended c hg hj => ?write⟩
  case taken =>
    intro i ht
    obtain ⟨e, he⟩ := taken_executing ht
    refine ⟨_, congrArg Host.Outcome.next (State.takeItem_taken _ ht), ?_⟩
    by_cases hform : 1 ≤ bay ∧ bay ≤ 16 ∧ product ≤ 9999
    · obtain ⟨hlow, hhigh, hp⟩ := hform
      rw [dif_pos ⟨hlow, hhigh, hp⟩]
      refine ⟨fun w m hw ha hone hspan hm => ?_, fun hno => ?_⟩
      · rw [onFill_resolved ⟨hlow, hhigh⟩ hp ((resolve_begin ..).trans (resolve_some hw ha hone hspan hm))]
        exact State.waits_begin he _ _
      · rw [onFill_unresolved ⟨hlow, hhigh⟩ hp ((resolve_begin ..).trans (resolve_none hno))]
        exact notMapped_answered ht
    · rw [dif_neg hform, onFill_malformed hform]
      exact State.answered_begin he _ _
  case read =>
    have hju : (s.granted (linkRequester .loading)).job .loading = some (.fillRead b v tag slot product figure) := hj
    refine ⟨_, read_granted (l := .loading) hg, ?_⟩
    rw [linkRead_fill hju]
    refine ⟨fun hmoved => ?_, fun ref c next hslot => ⟨fun hw => ?_, fun w hw hv ht => ?_⟩⟩
    · rw [hmoved]
      exact notMapped_finished hju
    · exact fillRead_gone hju (windowHolds_none hw) _
    · rw [hslot]
      exact fillRead_held hju (windowHolds_iff.2 ⟨w, hw, hv, ht⟩) ref c next
  case write =>
    obtain ⟨t, hexec⟩ : ∃ t, exec .slotWrite s = .next t := ⟨_, rfl⟩
    refine ⟨t, hexec, fun hlost => ?_, fun howner halloc hrecord => ?_⟩
    · have hfound : s.store.found (.comp v) slot = false := by
        rw [Bool.eq_false_iff, ne_eq, Store.found_iff, not_and_or]
        exact hlost
      obtain ⟨_, ht, finished⟩ := fillWrite_lost (l := .loading) hg hj (Store.write_none (.inr hfound))
      cases hexec.symm.trans ht
      exact finished
    · obtain ⟨_, ht, finished⟩ := fillWrite_made (l := .loading) hg hj
        (Store.write_found rfl (Store.found_iff.2 ⟨howner, halloc⟩) (by rw [hrecord]; rfl))
      cases hexec.symm.trans ht
      exact finished

end Sys2Proof.Machine
end

section
/-! PROOFS. What a band table answers (O22). -/

namespace Sys2Proof.Machine

/-- `maxOf` is the greatest of the list with 0 put before it. -/
theorem maxOf_mem_and_ge (ns : List Nat) : maxOf ns ∈ 0 :: ns ∧ ∀ n ∈ 0 :: ns, n ≤ maxOf ns :=
  List.max?_eq_some_iff.1 List.max?_cons'

theorem maxOf_eq_zero_or_mem (ns : List Nat) : maxOf ns = 0 ∨ maxOf ns ∈ ns :=
  List.mem_cons.1 (maxOf_mem_and_ge ns).1

theorem maxOf_le_iff {ns : List Nat} {m : Nat} : maxOf ns ≤ m ↔ ∀ n ∈ ns, n ≤ m := by
  obtain ⟨_, hge⟩ := maxOf_mem_and_ge ns
  refine ⟨fun hm n hn => (hge n (.tail _ hn)).trans hm, fun hall => ?_⟩
  rcases maxOf_eq_zero_or_mem ns with hzero | hmem
  · omega
  · exact hall _ hmem

namespace ClassTable

variable (t : ClassTable)

theorem mem_limits_take {i x : Nat} :
    x ∈ t.limits.take i ↔ ∃ j : Fin 16, j.val < i ∧ (tget t.bands j).upper = x := by
  rw [List.mem_take_iff_getElem]
  simp only [limits, List.length_map, Vector.length_toList, List.getElem_map, Vector.getElem_toList, lt_min_iff]
  exact ⟨fun ⟨j, hj, hx⟩ => ⟨⟨j, hj.2⟩, hj.1, hx⟩, fun ⟨j, hj, hx⟩ => ⟨j, ⟨hj, j.isLt⟩, hx⟩⟩

theorem mem_limits {x : Nat} : x ∈ t.limits ↔ ∃ j : Fin 16, (tget t.bands j).upper = x := by
  have hlen : t.limits.length = 16 := by simp [limits]
  rw [← List.take_of_length_le hlen.le, mem_limits_take]
  simp

/-- A floor is at most a code exactly where every band before it lies wholly at or below the code (R64). -/
theorem floor_le_iff {i : Fin 16} {code : Nat} :
    t.floor i.val ≤ code ↔ ∀ j < i, (tget t.bands j).upper ≤ code := by
  simp [floor, maxOf_le_iff, mem_limits_take]

theorem floor_eq_zero_or_upper (i : Fin 16) :
    t.floor i.val = 0 ∨ ∃ j < i, t.floor i.val = (tget t.bands j).upper := by
  refine (maxOf_eq_zero_or_mem _).imp_right fun hmem => ?_
  obtain ⟨j, hj, hx⟩ := (mem_limits_take t).1 hmem
  exact ⟨j, hj, hx.symm⟩

theorem lookup_unclassified {code : Nat} :
    t.lookup code = .unclassified ↔ ∀ i : Fin 16, (tget t.bands i).upper ≤ code := by
  unfold lookup
  split
  · next i hfind =>
    refine ⟨nofun, fun hall => ?_⟩
    have hcode : code < (tget t.bands i).upper := by simpa using List.find?_some hfind
    exact absurd (hall i) (by omega)
  · next hfind => simpa using hfind

/-- The first band whose limit is above a code is the one whose run holds the code (R64). -/
theorem find?_upper_above {code : Nat} {i : Fin 16} :
    ((List.finRange 16).find? fun i => decide (code < (tget t.bands i).upper)) = some i ↔
      t.floor i.val ≤ code ∧ code < (tget t.bands i).upper := by
  rw [floor_le_iff, List.find?_eq_some_iff_getElem]
  simp only [decide_eq_true_eq, Bool.not_eq_true', decide_eq_false_iff_not, not_lt, List.length_finRange,
    List.getElem_finRange]
  constructor
  · rintro ⟨hcode, _, _, rfl, before⟩
    exact ⟨fun j hj => before j.val hj, hcode⟩
  · rintro ⟨before, hcode⟩
    exact ⟨hcode, i.val, i.isLt, rfl, fun j hj => before ⟨j, hj.trans i.isLt⟩ hj⟩

/-- A lookup answers with the band whose run holds the code, and with no other (R64). -/
theorem lookup_band {code n : Nat} {b : Band} :
    t.lookup code = .band n b ↔
      ∃ i : Fin 16, n = i.val ∧ b = tget t.bands i ∧ t.floor i.val ≤ code ∧ code < b.upper := by
  unfold lookup
  split
  · next i hfind =>
    obtain ⟨hfloor, hupper⟩ := (find?_upper_above t).1 hfind
    constructor
    · rintro ⟨⟩
      exact ⟨i, rfl, rfl, hfloor, hupper⟩
    · rintro ⟨j, rfl, rfl, hj⟩
      cases hfind.symm.trans ((find?_upper_above t).2 hj)
      rfl
  · next hfind =>
    refine ⟨nofun, ?_⟩
    rintro ⟨j, rfl, rfl, hj⟩
    cases hfind.symm.trans ((find?_upper_above t).2 hj)

/-- A band is the answer for exactly the codes from its floor up to its limit. -/
theorem lookup_band_self {i : Fin 16} {code : Nat} :
    t.lookup code = .band i.val (tget t.bands i) ↔ t.floor i.val ≤ code ∧ code < (tget t.bands i).upper := by
  rw [lookup_band]
  constructor
  · rintro ⟨j, hij, -, hrun⟩
    obtain rfl := Fin.ext hij
    exact hrun
  · exact fun hrun => ⟨i, rfl, rfl, hrun⟩

theorem coverage_some {i : Fin 16} {lo hi : Nat} :
    t.coverage i = some (lo, hi) ↔
      t.floor i.val < (tget t.bands i).upper ∧ t.floor i.val = lo ∧ (tget t.bands i).upper - 1 = hi := by
  simp [coverage]

/-- The codes within a band's coverage are those that a lookup answers with the band (R64). -/
theorem coverage_iff_lookup {i : Fin 16} {code : Nat} :
    (∃ lo hi, t.coverage i = some (lo, hi) ∧ lo ≤ code ∧ code ≤ hi) ↔
      t.lookup code = .band i.val (tget t.bands i) := by
  simp only [lookup_band_self, coverage_some]
  constructor
  · rintro ⟨lo, hi, ⟨hlt, rfl, rfl⟩, hlo, hhi⟩
    omega
  · rintro ⟨hlo, hhi⟩
    exact ⟨_, _, ⟨by omega, rfl, rfl⟩, hlo, by omega⟩

theorem covers_iff_upper : t.covers = true ↔ ∃ i : Fin 16, 1 ≤ (tget t.bands i).upper := by
  unfold covers
  rw [decide_eq_true_iff, ← not_lt, Nat.lt_one_iff, ← Nat.le_zero, maxOf_le_iff]
  simp [mem_limits, Nat.one_le_iff_ne_zero]

/-- A table with a limit of 1 or more classifies the code 0, and one without classifies none (R64). -/
theorem covers_iff_lookup : t.covers = true ↔ ∃ code, t.lookup code ≠ .unclassified := by
  simp only [covers_iff_upper, ne_eq, lookup_unclassified, not_forall, not_le]
  exact ⟨fun ⟨i, hi⟩ => ⟨0, i, hi⟩, fun ⟨code, i, hi⟩ => ⟨i, by omega⟩⟩

end ClassTable

open ClassTable in
/-- Settles O22: a floor is the greatest limit before its band (`floor_le_iff`), a lookup answers with the one band
whose run holds the code (`lookup_band`, `coverage_iff_lookup`), and so no two runs share a code. -/
theorem bandsCoverTheirRuns : Obligations.BandsCoverTheirRuns := by
  intro t
  refine ⟨fun i => ⟨(floor_le_iff t).1 le_rfl, floor_eq_zero_or_upper t i⟩, fun _ => lookup_unclassified t,
    fun _ _ _ => lookup_band t, fun _ _ => coverage_iff_lookup t, ?disjoint,
    fun hzero _ => (lookup_unclassified t).2 fun i => by simp [hzero i], covers_iff_lookup t, covers_iff_upper t⟩
  intro i j lo hi lo' hi' code hi_cov hj_cov hlo hhi hlo' hhi'
  have answers_i := (coverage_iff_lookup t).1 ⟨lo, hi, hi_cov, hlo, hhi⟩
  have answers_j := (coverage_iff_lookup t).1 ⟨lo', hi', hj_cov, hlo', hhi'⟩
  exact Fin.ext (ClassAnswer.band.inj (answers_i.symm.trans answers_j)).1

end Sys2Proof.Machine
end

section
/-! PROOFS. The answers of the Class Table to the check and to the sweep (O50). -/

namespace Sys2Proof.Machine

/-- What a judging becomes by the Class Table's answer to a question; a verdict is not asked of it (R65, R69). -/
def ClassTable.answer (t : ClassTable) (j : Judge) : Ask → Option (Judge × Option Ask)
  | .lookup code => some (j.takeLookup (t.lookup code))
  | .pair g h => some (j.takePair (t.marked g h))
  | .verdict => none

/-- The command by which the Class Table answers a question (R65, R69). -/
def Ask.command (who : Asker) : Ask → Instr
  | .lookup _ => .classLookup who
  | _ => .pairTest who

theorem ClassTable.marked_eq (t : ClassTable) (g h : Nat) :
    t.marked g h =
      if hg : g < 16 ∧ h < 16 then tget t.matrix (ClassTable.cell ⟨g, hg.1⟩ ⟨h, hg.2⟩) else false := by
  by_cases hg : g < 16
  · by_cases hh : h < 16
    · rw [dif_pos ⟨hg, hh⟩, marked, fin?_lt hg, fin?_lt hh]
    · rw [dif_neg fun hgh => hh hgh.2, marked, fin?_lt hg, fin?_ge hh]
  · rw [dif_neg fun hgh => hg hgh.1, marked, fin?_ge hg]

section check
variable {s : State} {c : Check} {a : Ask}

theorem checkAsk_eq (ha : s.alive = true) (hc : s.dcu.check = some c) (hask : c.ask = some a) :
    s.checkAsk = some a := by
  simp [State.checkAsk, ha, hc, hask]

theorem checkAnswered_eq (hc : s.dcu.check = some c) :
    s.checkAnswered = s.setCheck (some { c with ask := none }) := by
  unfold State.checkAnswered
  rw [hc]

/-- The answer to a question of the check reaches the judging through `State.checkJudges`. -/
theorem exec_command_check {k : Judge × Option Ask} (ha : s.alive = true) (hc : s.dcu.check = some c)
    (hask : c.ask = some a) (hk : s.classes.answer c.judge a = some k) :
    exec (a.command .check) s = .next ((s.setCheck (some { c with ask := none })).checkJudges fun c' =>
      (s.setCheck (some { c with ask := none })).judgeGoesOn c' k) := by
  cases a with
  | lookup code =>
    cases hk
    show execClassLookup .check s = _
    simp only [execClassLookup, checkAsk_eq ha hc hask, checkAnswered_eq hc]
    rfl
  | pair g h =>
    cases hk
    show execPairTest .check s = _
    simp only [execPairTest, checkAsk_eq ha hc hask, checkAnswered_eq hc]
    rfl
  | verdict => cases hk

theorem checkJudges_abandon {f : Check → State} (hc : s.dcu.check = some c) (hp : c.phase = .abandon) :
    s.checkJudges f = s.abandoned c := by
  simp [State.checkJudges, State.checkTakes, hc, hp]

theorem checkJudges_inFlight {f : Check → State} (hc : s.dcu.check = some c) (hp : c.phase ≠ .abandon) :
    s.checkJudges f = if c.stale then s.endRetry c else f c := by
  simp [State.checkJudges, State.checkTakes, hc, hp]

/-- The end of a check whose visit is CHECKING: the visit takes its outcome, the DCU becomes IDLE, and CHECK_DONE is
raised; no other field changes (R33, R152). -/
theorem endCheck_checking (h : (s.visit c.visit).state = .checking) (r : CheckRecord) (st : VisitState)
    (cl : Option Clearance) :
    s.endCheck c r st cl =
      { s with
        visits := tset s.visits c.visit
          { s.visit c.visit with state := st, heldOrigin := false, clearance := cl, lastCheck := some r }
        dcu := ⟨s.dcu.queue, none⟩
        links := (s.raise .gate .checkDone).links } := by
  unfold State.endCheck State.changeVisit
  rw [if_pos h]
  rfl

end check

/-- The answer to a question of the sweep goes to the judging that asked it. -/
theorem exec_command_sweep {s : State} {v : VisitNo} {tag : Tag} {j : Judge} {a : Ask} {k : Judge × Option Ask}
    (ha : s.alive = true) (hw : s.sweep.work = .judging v tag j a) (hk : s.classes.answer j a = some k) :
    exec (a.command .sweep) s = .next (s.recheckGoesOn v tag k) := by
  have hask : s.sweepAsk = some (v, tag, j, a) := by simp [State.sweepAsk, ha, hw]
  cases a with
  | lookup code =>
    cases hk
    show execClassLookup .sweep s = _
    simp only [execClassLookup, hask]
    rfl
  | pair g h =>
    cases hk
    show execPairTest .sweep s = _
    simp only [execPairTest, hask]
    rfl
  | verdict => cases hk

/-- A check in JUDGE goes on to its next question, to the hours step of its paper, or without one to its decision with
the margin 0 (R138, R143). -/
theorem judgeGoesOn_judge (s : State) {c : Check} (hp : c.phase = .judge) (ha : c.ask = none) (j : Judge)
    (ask : Option Ask) :
    s.judgeGoesOn c (j, ask) =
      match ask with
      | some a => { s with dcu := ⟨s.dcu.queue, some { c with judge := j, ask := some a }⟩ }
      | none =>
          if c.paperState ≠ .none then
            { s with dcu := ⟨s.dcu.queue, some { c with judge := j, ask := some .verdict }⟩ }
          else s.decideOutcome { c with judge := j, margin := some 0 } := by
  cases c
  cases hp
  cases ha
  cases ask with
  | some a => rfl
  | none =>
    simp only [State.judgeGoesOn, ne_eq, ite_not]
    rfl

/-- A check of a visit without a paper that has failed ends FAIL with the margin 0 (R138, R143, R152). -/
theorem judgeGoesOn_paperless_fails {s : State} {c : Check} (hp : c.phase = .judge) (ha : c.ask = none)
    (hpaper : c.paperState = .none) {j : Judge} (hfail : 0 < j.count) :
    s.judgeGoesOn c (j, none) =
      s.endCheck { c with judge := j, margin := some 0 } ⟨.fail, j.reason, j.item, j.count, 0⟩ .held none := by
  rw [judgeGoesOn_judge s hp ha]
  simp only [hpaper, ne_eq, not_true_eq_false, if_false]
  exact if_pos hfail

/-- Settles O50: the command of a question hands the Class Table's answer to the check (`exec_command_check`) or to the
sweep (`exec_command_sweep`), and the check goes on with it (`judgeGoesOn_judge`), ends RETRY
(`endCheck_checking`) or is abandoned (`checkJudges_abandon`). -/
theorem classAnswersAreTaken : Obligations.ClassAnswersAreTaken := by
  intro s halive answers command ended
  have hanswers : ∀ j a, answers j a = s.classes.answer j a := fun j a => by
    cases a with
    | lookup code => rfl
    | pair g h => exact congrArg (fun m => some (j.takePair m)) (s.classes.marked_eq g h).symm
    | verdict => rfl
  have hcommand : ∀ a who, command a who = a.command who := fun a who => by cases a <;> rfl
  refine ⟨fun c a k hc hask hp hk => ?taken, fun c a k hc hask hp hk => ?abandoned,
    fun c j ask hp hask _ => judgeGoesOn_judge s hp hask j ask, fun c j hp hask _ hpaper hfail hv => ?paperless,
    fun v tag j a k hw hk => ?sweep⟩
  case taken =>
    have hexec : exec (command a .check) s =
        .next (if c.stale then (s.setCheck (some { c with ask := none })).endRetry { c with ask := none }
          else (s.setCheck (some { c with ask := none })).judgeGoesOn { c with ask := none } k) := by
      rw [hcommand, exec_command_check halive hc hask ((hanswers _ _).symm.trans hk)]
      exact congrArg Host.Outcome.next (checkJudges_inFlight (c := { c with ask := none }) rfl hp)
    refine ⟨fun hstale hv => ?_, hexec⟩
    rw [hexec, if_pos hstale]
    exact congrArg Host.Outcome.next
      (endCheck_checking (s := s.setCheck (some { c with ask := none })) (c := { c with ask := none }) hv _ _ _)
  case abandoned =>
    refine ⟨_, ?_, State.startAbort_begins { s with dcu := ⟨s.dcu.queue, none⟩ } c.visit⟩
    rw [hcommand, exec_command_check halive hc hask ((hanswers _ _).symm.trans hk)]
    exact congrArg Host.Outcome.next (checkJudges_abandon (c := { c with ask := none }) rfl hp)
  case paperless =>
    rw [judgeGoesOn_paperless_fails hp hask hpaper hfail]
    exact endCheck_checking (c := { c with judge := j, margin := some 0 }) hv _ _ _
  case sweep =>
    refine ⟨_, by rw [hcommand, exec_command_sweep halive hw ((hanswers _ _).symm.trans hk)], ?_⟩
    obtain ⟨j', ask⟩ := k
    cases ask with
    | some b => rfl
    | none =>
      show if (s.visit v).tag = tag ∧ (s.visit v).state ≠ .free then _ else _
      split
      · next hheld => exact if_pos hheld
      · next hgone => exact if_neg hgone

end Sys2Proof.Machine
end

section
/-! PROOFS. A report to the DCU beside an item just taken, and what it leaves of a visit. -/

namespace Sys2Proof.Machine

/-! ### A report beside the telegram (R144, R146) -/

section
variable (s : State) (h : Head) (i : Instr)

theorem dcu_begin : (s.begin h i).dcu = s.dcu := by
  rw [State.begin_eq]
  rfl

theorem request_begin (p : Requester) : (s.begin h i).request p = s.request p := by
  rw [State.begin_eq]
  rfl

theorem setVisit_begin (v : VisitNo) (x : Visit) : (s.begin h i).setVisit v x = (s.setVisit v x).begin h i :=
  State.begin_update (f := fun s => s.setVisit v x) (fun _ => rfl) rfl

theorem setCheck_begin (c : Option Check) : (s.begin h i).setCheck c = (s.setCheck c).begin h i :=
  State.begin_update (f := fun s => s.setCheck c) (fun _ => rfl) rfl

theorem endCheck_begin (c : Check) (r : CheckRecord) (st : VisitState) (cl : Option Clearance) :
    (s.begin h i).endCheck c r st cl = (s.endCheck c r st cl).begin h i := by
  unfold State.endCheck State.changeVisit
  rw [visit_begin]
  split <;> simp only [setVisit_begin, setCheck_begin, raise_begin]

/-- A report to the DCU and the telegram of the item that makes it do not touch each other. -/
theorem report_begin (v : Option VisitNo) : (s.begin h i).report v = (s.report v).begin h i := by
  have waits : ∀ c, (s.begin h i).checkWaits c = s.checkWaits c := fun c => by
    unfold State.checkWaits
    rw [request_begin]
  unfold State.report
  rw [dcu_begin]
  split
  · rfl
  · next c _ =>
    rw [waits]
    split_ifs
    · exact setCheck_begin s h i _
    · exact endCheck_begin s h i c _ _ _
    · rfl

end

/-! ### What a report leaves of a visit (R146) -/

/-- What a report leaves of a visit: it moves at most from CHECKING to LOADED, with RETRY in its check record. -/
inductive Reported (x : Visit) : Visit → Prop
  | same : Reported x x
  | retried (hst : x.state = .checking) (r : CheckRecord) :
      Reported x { x with state := .loaded, heldOrigin := false, lastCheck := some r, clearance := none }

theorem reported_endRetry (s : State) (c : Check) (v : VisitNo) :
    Reported (s.visit v) ((s.endRetry c).visit v) := by
  show Reported (s.visit v) ((s.changeVisit c.visit .checking _).visit v)
  unfold State.changeVisit
  split
  · next hst =>
    rw [State.visit_setVisit]
    split
    · next e => subst e; exact .retried hst _
    · exact .same
  · exact .same

theorem reported (s : State) (w : Option VisitNo) (v : VisitNo) : Reported (s.visit v) ((s.report w).visit v) := by
  unfold State.report
  split
  · exact .same
  · split_ifs
    · exact .same
    · exact reported_endRetry s _ v
    · exact .same

namespace Reported

variable {x y : Visit}

theorem tag (r : Reported x y) : y.tag = x.tag := by cases r <;> rfl

theorem paper (r : Reported x y) : y.paper = x.paper := by cases r <;> rfl

theorem aborting (r : Reported x y) : y.state = .aborting ↔ x.state = .aborting := by
  cases r with
  | same => rfl
  | retried hst => simp [hst]

end Reported

/-- A grant on a list of a visit, with its report, leaves of the visit what a report leaves of it (R16). -/
theorem reported_grant (s : State) (p : Requester) (st : Store) (w : Option VisitNo) (v : VisitNo) :
    Reported (s.visit v) (((((s.granted p).withStore st)).report w).visit v) :=
  reported ((s.granted p).withStore st) w v

theorem job_grant (s : State) (p : Requester) (st : Store) (w : Option VisitNo) (l : LinkNo) :
    (((s.granted p).withStore st).report w).job l = s.job l :=
  ((Undisturbed.grantStore s p st).trans (.report _ w)).job l

end Sys2Proof.Machine
end

section
/-! PROOFS. PAPER_OPEN and PAPER_LINES as they are taken (O27, O28). -/

namespace Sys2Proof.Machine

/-! ### What a paper item finds (R77, R80) -/

theorem paperRefused_iff {x : Visit} : State.paperRefused x = true ↔ x.state = .free ∨ x.state = .cleared := by
  simp [State.paperRefused]

theorem decided_begin (s : State) (h : Head) (i : Instr) (v : VisitNo) : (s.begin h i).decided v = s.decided v := by
  unfold State.decided
  rw [dcu_begin]

/-! ### PAPER_OPEN (R77 to R79) -/

theorem openPaper_begin (s : State) (h : Head) (i : Instr) (v : VisitNo) (x : Paper) :
    (s.begin h i).openPaper v x = (s.openPaper v x).begin h i := by
  unfold State.openPaper
  rw [visit_begin, setVisit_begin, report_begin]

theorem executing_openPaper (s : State) (v : VisitNo) (x : Paper) (l : LinkNo) :
    (s.openPaper v x).executing l = s.executing l :=
  (Undisturbed.report (s.setVisit v _) (some v)).executing l

/-- Orders 4 to 6 of R77, and then the paper as it is stored (R78, R79). -/
theorem paperOpen_checked {s t : State} {h : Head} {i : Instr} (ht : Taken s h i) (v : VisitNo) (replace : Bool)
    (stored : Paper) (clamped : Bool)
    (hblock : t =
      if State.paperRefused (s.visit v) then (s.begin h i).refuse h.link .state
      else if (s.visit v).paperState ≠ .none ∧ replace = false then (s.begin h i).refuse h.link .paperPresent
      else if (s.visit v).state = .checking ∧ s.decided v = true then (s.begin h i).refuse h.link .busy
      else if (s.visit v).paperState = .none then
        ((s.begin h i).openPaper v stored).answer h.link (State.doneOr clamped) (State.paperBytes v (some stored))
      else ((s.begin h i).openPaper v stored).ask h.link (.paperOpen v (s.visit v).tag clamped)
        (.splice (.paper v) .free)) :
    if (s.visit v).state = .free ∨ (s.visit v).state = .cleared then Answered s t h i .state []
    else if (s.visit v).paperState ≠ .none ∧ replace = false then Answered s t h i .paperPresent []
    else if (s.visit v).state = .checking ∧ s.decided v = true then Answered s t h i .busy []
    else if (s.visit v).paperState = .none then
      Answered (s.openPaper v stored) t h i (State.doneOr clamped) (State.paperBytes v (some stored))
    else Waits (s.openPaper v stored) t h i (.paperOpen v (s.visit v).tag clamped) (.splice (.paper v) .free) := by
  obtain ⟨e, he⟩ := taken_executing ht
  have refused := State.answered_begin (i := i) he
  have stands := (executing_openPaper s v stored h.link).trans he
  simp only [paperRefused_iff, openPaper_begin] at hblock
  split_ifs at hblock ⊢
  · exact hblock ▸ refused _ _
  · exact hblock ▸ refused _ _
  · exact hblock ▸ refused _ _
  · exact hblock ▸ State.answered_begin stands _ _
  · exact hblock ▸ State.waits_begin stands _ _

/-- Settles O27: PAPER_OPEN passes R26 (`addressed_taken`) and then R77 (`paperOpen_checked`). -/
theorem paperOpenStoresTheHead : Obligations.PaperOpenStoresTheHead := by
  intro h visit vtag number p q expected replace s i ht
  obtain ⟨t, hexec, hblock⟩ : ∃ t, exec i s = .next t ∧
      t = (s.begin h i).onPaperOpen h.link visit vtag number p q expected replace :=
    ⟨_, congrArg Host.Outcome.next (State.takeItem_taken _ ht), rfl⟩
  refine ⟨t, hexec, addressed_taken ht hblock fun hv _ ht' => ?_⟩
  simp only [visit_begin, decided_begin] at ht'
  exact paperOpen_checked ht _ replace _ _ ht'

end Sys2Proof.Machine
end

section
/-! PROOFS. The paper state after a chunk, and PAPER_LINES as it is taken (O28). -/

namespace Sys2Proof.Machine

/-! ### The paper state after a chunk (R83, R85, R88) -/

/-- A paper takes its state, with the report to the DCU (R83, R88). -/
def markPaper (s : State) (v : VisitNo) (p : PaperState) : State :=
  (s.setVisit v { s.visit v with paperState := p }).report (some v)

section
variable {s : State} {v : VisitNo} {dropped : Nat} {short : Bool}

theorem decidePaper_stays (h : State.paperAfter (s.visit v) dropped short = .opened) :
    s.decidePaper v dropped short = markPaper s v .opened := by
  unfold State.decidePaper
  rw [h]
  rfl

theorem decidePaper_closes {p : PaperState} (h : State.paperAfter (s.visit v) dropped short = p) (hp : p ≠ .opened) :
    s.decidePaper v dropped short = (markPaper s v p).raise .office .paperClosed := by
  unfold State.decidePaper
  rw [h]
  exact if_neg hp

theorem executing_markPaper (p : PaperState) (l : LinkNo) : (markPaper s v p).executing l = s.executing l :=
  (Undisturbed.report (s.setVisit v _) (some v)).executing l

theorem executing_decidePaper (l : LinkNo) : (s.decidePaper v dropped short).executing l = s.executing l := by
  by_cases hp : State.paperAfter (s.visit v) dropped short = .opened
  · rw [decidePaper_stays hp, executing_markPaper]
  · rw [decidePaper_closes rfl hp, (Undisturbed.raise _ _ _).executing, executing_markPaper]

theorem markPaper_begin (h : Head) (i : Instr) (p : PaperState) :
    markPaper (s.begin h i) v p = (markPaper s v p).begin h i := by
  unfold markPaper
  rw [visit_begin, setVisit_begin, report_begin]

theorem decidePaper_begin (h : Head) (i : Instr) :
    (s.begin h i).decidePaper v dropped short = (s.decidePaper v dropped short).begin h i := by
  have hvisit := congrArg (State.paperAfter · dropped short) (visit_begin s h i v)
  by_cases hp : State.paperAfter (s.visit v) dropped short = .opened
  · rw [decidePaper_stays hp, decidePaper_stays (hvisit.trans hp), markPaper_begin]
  · rw [decidePaper_closes rfl hp, decidePaper_closes hvisit hp, markPaper_begin, raise_begin]

end

/-! ### PAPER_LINES as it is taken (R80 to R84) -/

/-- Orders 1 to 3 of R26 at an item just taken whose form the item's own rule names. -/
theorem addressed_formed {s t : State} {h : Head} {i : Instr} (ht : Taken s h i) {visit vtag : Nat} {formed : Bool}
    {form : Prop} [Decidable form] (hform : formed = true ↔ form) {f : VisitNo → State}
    (he : t = (s.begin h i).addressed h.link formed visit vtag f) {R : visit < 48 ∧ form → Prop}
    (hR : ∀ hv : visit < 48 ∧ form, t = f ⟨visit, hv.1⟩ → R hv) :
    if hv : visit < 48 ∧ form then
      if (s.visit ⟨visit, hv.1⟩).tag.toNat ≠ vtag then Answered s t h i .staleVisit []
      else if (s.visit ⟨visit, hv.1⟩).arrivalMark = true ∨ (s.visit ⟨visit, hv.1⟩).state = .releasing ∨
          (s.visit ⟨visit, hv.1⟩).state = .lapsing ∨ (s.visit ⟨visit, hv.1⟩).state = .aborting then
        Answered s t h i .busy []
      else R hv
    else Answered s t h i .malformed [] := by
  by_cases hf : form
  · rw [hform.2 hf] at he
    have taken := addressed_taken (R := fun hv => R ⟨hv, hf⟩) ht he fun hv _ => hR ⟨hv, hf⟩
    by_cases hv : visit < 48
    · rw [dif_pos hv] at taken
      rw [dif_pos ⟨hv, hf⟩]
      exact taken
    · rw [dif_neg hv] at taken
      rw [dif_neg fun hc => hv hc.1]
      exact taken
  · obtain ⟨e, hex⟩ := taken_executing ht
    rw [Bool.eq_false_iff.2 fun hc => hf (hform.1 hc), addressed_malformed] at he
    rw [dif_neg fun hc => hf hc.2]
    exact he ▸ State.answered_begin hex _ _

/-- Orders 4 and 5 of R80, and then what the lines come to. -/
theorem paperLines_checked {s t block : State} {h : Head} {i : Instr} (ht : Taken s h i) (v : VisitNo) (n : Nat)
    {R : Prop}
    (hblock : t =
      if State.paperRefused (s.visit v) then (s.begin h i).refuse h.link .state
      else if (s.visit v).paperState ≠ .opened then (s.begin h i).refuse h.link .state
      else if s.classes.chunk < n then (s.begin h i).refuse h.link .malformed
      else block)
    (hR : t = block → R) :
    if (s.visit v).state = .free ∨ (s.visit v).state = .cleared ∨ (s.visit v).paperState ≠ .opened then
      Answered s t h i .state []
    else if s.classes.chunk < n then Answered s t h i .malformed []
    else R := by
  obtain ⟨e, he⟩ := taken_executing ht
  have refused := State.answered_begin (i := i) he
  simp only [paperRefused_iff, ← ite_or, or_assoc] at hblock
  split_ifs at hblock ⊢
  · exact hblock ▸ refused _ _
  · exact hblock ▸ refused _ _
  · exact hR hblock

/-- The lines of a chunk are all dropped: the paper state is decided at once (R81, R83, R84). -/
theorem endLines_answered {s : State} {h : Head} {i : Instr} (ht : Taken s h i) (v : VisitNo) (n : Nat) (short : Bool) :
    Answered (s.decidePaper v n short) ((s.begin h i).endLines h.link v 0 n short) h i
      (if n = 0 then .done else .donePartial)
      (State.linesBytes 0 n ((s.decidePaper v n short).visit v).accepted
        ((s.decidePaper v n short).visit v).paperState) := by
  obtain ⟨e, he⟩ := taken_executing ht
  have hcode : (if n = 0 then Code.done else .donePartial) = if 0 < n then .donePartial else .done := by
    simp only [Nat.pos_iff_ne_zero, ne_eq, ite_not]
  unfold State.endLines
  simp only [decidePaper_begin, visit_begin, hcode]
  exact State.answered_begin ((executing_decidePaper _).trans he) _ _

/-- Settles O28: PAPER_LINES passes its form and R26 (`addressed_formed`), then R80 (`paperLines_checked`), and its lines
are all dropped (`endLines_answered`) or the first is asked for. -/
theorem paperLinesPlaceWithinTheLimit : Obligations.PaperLinesPlaceWithinTheLimit := by
  intro h visit vtag lines s i ht
  obtain ⟨e, he⟩ := taken_executing ht
  obtain ⟨t, hexec, hblock⟩ : ∃ t, exec i s = .next t ∧ t = (s.begin h i).onPaperLines h.link visit vtag lines :=
    ⟨_, congrArg Host.Outcome.next (State.takeItem_taken _ ht), rfl⟩
  have classes : (s.begin h i).classes = s.classes := by rw [State.begin_eq]; rfl
  have form : (decide (lines.length ≤ 8) && lines.all fun x => decide (x.product ≤ 9999)) = true ↔
      lines.length ≤ 8 ∧ ∀ x ∈ lines, x.product ≤ 9999 := by simp
  refine ⟨t, hexec, addressed_formed ht form hblock fun hv ht' => ?_⟩
  simp only [visit_begin, classes] at ht'
  refine paperLines_checked ht _ _ ht' fun hplaced => ?_
  have limited : ∀ k, lines.take (min lines.length k) = lines.take k := fun k => by
    rw [min_comm, ← List.take_eq_take_min]
  have length : ∀ k, min lines.length k = (lines.take k).length := fun k => by rw [List.length_take, min_comm]
  unfold State.paperLimit Config.paperLines at hplaced
  simp only [limited]
  rw [length]
  split
  · next hnone =>
    rw [hnone] at hplaced
    exact hplaced ▸ endLines_answered ht _ _ _
  · next line left hsome =>
    rw [hsome] at hplaced ⊢
    exact hplaced ▸ State.waits_begin he _ _

end Sys2Proof.Machine
end

section
/-! PROOFS. The grants of the paper items, and how a paper closes (O29). -/

namespace Sys2Proof.Machine

/-! ### The table of the paper state (R83, R85) -/

section
variable {x : Visit} {dropped n : Nat} {short : Bool}

theorem paperAfter_dropped (h : 0 < dropped) : State.paperAfter x dropped short = .truncated := if_pos h

theorem paperAfter_reached (h : x.paper.bind Paper.expected = some x.accepted) :
    State.paperAfter x 0 short = .complete := if_pos h

theorem paperAfter_missed (h : x.paper.bind Paper.expected = some n) (hn : n ≠ x.accepted) :
    State.paperAfter x 0 true = .short := by
  simp [State.paperAfter, h, hn]

theorem paperAfter_uncounted (h : x.paper.bind Paper.expected = none) : State.paperAfter x 0 true = .complete := by
  simp [State.paperAfter, h]

theorem paperAfter_goesOn (h : x.paper.bind Paper.expected ≠ some x.accepted) :
    State.paperAfter x 0 false = .opened := by
  simp [State.paperAfter, h]

end

/-! ### Who takes the grants of the paper items -/

section
variable {s : State} {v : VisitNo} {tag : Tag} {line : PaperLine} {left : List PaperLine} {placed dropped : Nat}
  {short clamped : Bool}

theorem linkAllocated_paperLines {l : LinkNo} (hj : s.job l = some (.paperLines v tag left placed dropped short))
    (ref : Option SlotRef) : s.linkAllocated l ref =
      if ref.isSome then s.linePlaced l v tag left placed dropped short else s.lineRefused l v tag placed := by
  unfold State.linkAllocated
  rw [hj]

theorem linkSpliced_paperOpen {l : LinkNo} (hj : s.job l = some (.paperOpen v tag clamped)) (source : ListId) :
    s.linkSpliced l source = s.paperReturned l v tag clamped := by
  unfold State.linkSpliced
  rw [hj]

/-- An allocation of PAPER_LINES that is refused (R10, R82). -/
theorem paperLines_refused (hg : s.grant = some (.p0, .alloc (.paper v) .bounded (.paperLine line)))
    (hj : s.job .office = some (.paperLines v tag left placed dropped short))
    (hfull : s.store.freeCount ≤ s.reserve) :
    exec .allocation s = .next ((s.granted .p0).lineRefused .office v tag placed) := by
  have hju : (s.granted .p0).job .office = some (.paperLines v tag left placed dropped short) := hj
  exact (allocation_refused (l := .office) hg ((allocRefused_bounded rfl).2 hfull)).trans
    (congrArg Host.Outcome.next (linkAllocated_paperLines hju none))

/-- An allocation of PAPER_LINES that is made (R9, R81). -/
theorem paperLines_made (hg : s.grant = some (.p0, .alloc (.paper v) .bounded (.paperLine line)))
    (hj : s.job .office = some (.paperLines v tag left placed dropped short)) {st : Store} {ref : SlotRef}
    (hroom : s.reserve < s.store.freeCount) (ha : s.store.allocate (.paper v) (.paperLine line) = some (st, ref)) :
    exec .allocation s = .next
      ((((s.granted .p0).withStore st).report (some v)).linePlaced .office v tag left placed dropped short) := by
  have hr : s.allocRefused (.paper v) .bounded (.paperLine line) = false :=
    Bool.eq_false_iff.2 fun hc => Nat.not_le.2 hroom ((allocRefused_bounded rfl).1 hc)
  have hju := (job_grant s .p0 st (some v) .office).trans hj
  exact (allocation_made (l := .office) hg hr ha).trans
    (congrArg Host.Outcome.next (linkAllocated_paperLines hju (some ref)))

/-- The return of a PAPER_OPEN with REPLACE (R13, R79). -/
theorem paperOpen_returned (hg : s.grant = some (.p0, .splice (.paper v) .free))
    (hj : s.job .office = some (.paperOpen v tag clamped)) :
    exec .wholeListSplice s = .next
      ((((s.granted .p0).withStore (s.store.splice (.paper v) .free)).report (some v)).paperReturned .office v tag
        clamped) := by
  have hju := (job_grant s .p0 (s.store.splice (.paper v) .free) (some v) .office).trans hj
  exact (splice_granted (l := .office) hg).trans (congrArg Host.Outcome.next (linkSpliced_paperOpen hju _))

/-! ### Items that stand, and items cut short (R89) -/

theorem paperStands_iff : s.paperStands v tag = true ↔ (s.visit v).tag = tag ∧ (s.visit v).state ≠ .aborting := by
  simp [State.paperStands]

theorem paperStands_false (h : (s.visit v).tag ≠ tag ∨ (s.visit v).state = .aborting) :
    s.paperStands v tag = false := by
  rw [Bool.eq_false_iff, Ne, paperStands_iff, not_and_or, not_not]
  exact h

/-- A report to the DCU cuts no paper item short. -/
theorem Reported.paperStands {u : State} (r : Reported (s.visit v) (u.visit v)) :
    u.paperStands v tag = s.paperStands v tag := by
  rw [Bool.eq_iff_iff, paperStands_iff, paperStands_iff, r.tag, Ne, r.aborting]

end

section
variable {s : State} {l : LinkNo} {v : VisitNo} {tag : Tag} {left : List PaperLine} {placed dropped : Nat}
  {short clamped : Bool} {j : Job}

/-- A paper item cut short is answered BUSY, and then the abort begins its grants (R89). -/
theorem endPaperItem_cut (hj : s.job l = some j) (v : VisitNo) (data : List Byte) :
    ∃ u, Finished s u l .busy data ∧ AbortBegins u (s.endPaperItem l v data) v :=
  ⟨_, finished_of_job hj _ _, State.startAbort_begins _ v⟩

theorem linePlaced_cut (h : s.paperStands v tag = false) :
    s.linePlaced l v tag left placed dropped short = s.endPaperItem l v (put8 (placed + 1)) := by
  unfold State.linePlaced
  rw [if_neg (Bool.eq_false_iff.1 h)]

theorem lineRefused_cut (h : s.paperStands v tag = false) :
    s.lineRefused l v tag placed = s.endPaperItem l v (put8 placed) := by
  unfold State.lineRefused
  rw [if_neg (Bool.eq_false_iff.1 h)]

theorem paperReturned_cut (h : s.paperStands v tag = false) :
    s.paperReturned l v tag clamped = s.endPaperItem l v [] := by
  unfold State.paperReturned
  rw [if_neg (Bool.eq_false_iff.1 h)]

/-- A line placed is counted, with the report to the DCU (R81, R88). -/
def countLine (s : State) (v : VisitNo) : State :=
  (s.setVisit v { s.visit v with accepted := (s.visit v).accepted + 1 }).report (some v)

theorem job_countLine : (countLine s v).job l = s.job l :=
  (Undisturbed.report (s.setVisit v _) (some v)).job l

/-- A line placed with more to come (R81). -/
theorem linePlaced_continues {next : PaperLine} (hj : s.job l = some j) (h : s.paperStands v tag = true) :
    Continues (countLine s v) (s.linePlaced l v tag (next :: left) placed dropped short) l
      (.paperLines v tag left (placed + 1) dropped short) (.alloc (.paper v) .bounded (.paperLine next)) := by
  unfold State.linePlaced
  rw [if_pos h]
  exact continues_of_job (job_countLine.trans hj) _ _

/-- The last line placed (R83, R84). -/
theorem linePlaced_finished (hj : s.job l = some j) (h : s.paperStands v tag = true) :
    let r := (countLine s v).decidePaper v dropped short
    Finished r (s.linePlaced l v tag [] placed dropped short) l (if 0 < dropped then .donePartial else .done)
      (State.linesBytes (placed + 1) dropped (r.visit v).accepted (r.visit v).paperState) := by
  have hjr : ((countLine s v).decidePaper v dropped short).job l = some j := by
    unfold State.job
    rw [executing_decidePaper]
    exact job_countLine.trans hj
  unfold State.linePlaced
  rw [if_pos h]
  exact finished_of_job hjr _ _

theorem lineRefused_finished (hj : s.job l = some j) (h : s.paperStands v tag = true) :
    Finished s (s.lineRefused l v tag placed) l .storeFull
      (State.linesBytes placed 0 (s.visit v).accepted .opened) := by
  unfold State.lineRefused
  rw [if_pos h]
  exact finished_of_job hj _ _

theorem paperReturned_finished (hj : s.job l = some j) (h : s.paperStands v tag = true) :
    Finished s (s.paperReturned l v tag clamped) l (State.doneOr clamped) (State.paperBytes v (s.visit v).paper) := by
  unfold State.paperReturned
  rw [if_pos h]
  exact finished_of_job hj _ _

end

/-- Settles O29: the table of the paper state (`decidePaper_closes`, `decidePaper_stays`), and each of the three grants
with the item cut short (`endPaperItem_cut`) or standing, which its report to the DCU leaves as it is (`reported_grant`). -/
theorem paperGrantsPlaceLinesAndClosePapers : Obligations.PaperGrantsPlaceLinesAndClosePapers := by
  refine ⟨fun s v dropped short => ⟨?truncated, ?complete, ?short, ?uncounted, ?goesOn⟩,
    fun s v tag hcut => ⟨fun line left placed dropped short hg hj => ⟨fun hfull => ?cutRefused, ?cutPlaced⟩,
      fun clamped hg hj => ?cutReturned⟩,
    fun s v tag htag hst => ⟨fun line left placed dropped short hg hj => ⟨fun hfull => ?refused, ?placed⟩,
      fun clamped hg hj => ?returned⟩⟩
  case truncated => exact fun hd => decidePaper_closes (paperAfter_dropped hd) nofun
  case complete =>
    rintro rfl hx
    exact decidePaper_closes (paperAfter_reached hx) nofun
  case short =>
    rintro n rfl hx hn rfl
    exact decidePaper_closes (paperAfter_missed hx hn) nofun
  case uncounted =>
    rintro rfl hx rfl
    exact decidePaper_closes (paperAfter_uncounted hx) nofun
  case goesOn =>
    rintro rfl hx rfl
    exact decidePaper_stays (paperAfter_goesOn hx)
  case cutRefused =>
    have hju : (s.granted .p0).job .office = some (.paperLines v tag left placed dropped short) := hj
    have falls : (s.granted .p0).paperStands v tag = false := paperStands_false hcut
    refine ⟨_, paperLines_refused hg hj hfull, ?_⟩
    rw [lineRefused_cut falls]
    exact endPaperItem_cut hju v _
  case cutPlaced =>
    intro st ref hroom ha
    refine ⟨_, paperLines_made hg hj hroom ha, ?_⟩
    rw [linePlaced_cut ((reported_grant s .p0 st (some v) v).paperStands.trans (paperStands_false hcut))]
    exact endPaperItem_cut ((job_grant s .p0 st (some v) .office).trans hj) v _
  case cutReturned =>
    refine ⟨_, paperOpen_returned hg hj, ?_⟩
    rw [paperReturned_cut ((reported_grant s .p0 _ (some v) v).paperStands.trans (paperStands_false hcut))]
    exact endPaperItem_cut ((job_grant s .p0 _ (some v) .office).trans hj) v _
  case refused =>
    have hju : (s.granted .p0).job .office = some (.paperLines v tag left placed dropped short) := hj
    exact ⟨_, paperLines_refused hg hj hfull, lineRefused_finished hju (paperStands_iff.2 ⟨htag, hst⟩)⟩
  case placed =>
    intro st ref hroom ha
    have hju := (job_grant s .p0 st (some v) .office).trans hj
    have stands := (reported_grant s .p0 st (some v) v).paperStands.trans (paperStands_iff.2 ⟨htag, hst⟩)
    refine ⟨_, paperLines_made hg hj hroom ha, ?_⟩
    cases left with
    | nil => exact linePlaced_finished hju stands
    | cons next rest => exact linePlaced_continues hju stands
  case returned =>
    have r := reported_grant s .p0 (s.store.splice (.paper v) .free) (some v) v
    have hju := (job_grant s .p0 (s.store.splice (.paper v) .free) (some v) .office).trans hj
    have finished := paperReturned_finished (clamped := clamped) hju
      (r.paperStands.trans (paperStands_iff.2 ⟨htag, hst⟩))
    rw [r.paper] at finished
    exact ⟨_, paperOpen_returned hg hj, finished⟩

end Sys2Proof.Machine
end

section
/-! PROOFS. The Time Base (chapter 6): SET_TIME and ADJUST_TIME (O15), what a pulse and a minute end do (O16), and how
many pulses a minute has (R98). -/

namespace Sys2Proof.Machine

/-! ### SET_TIME and ADJUST_TIME (R97, R98) -/

theorem setTime_taken {s : State} {h : Head} {minute seconds : Nat} (ht : Taken s h (.setTime h minute seconds)) :
    exec (.setTime h minute seconds) s =
      .next ((s.begin h (.setTime h minute seconds)).onSetTime h.link minute seconds) :=
  congrArg Host.Outcome.next (State.takeItem_taken _ ht)

theorem adjustTime_taken {s : State} {h : Head} {offset : Int} (ht : Taken s h (.adjustTime h offset)) :
    exec (.adjustTime h offset) s = .next ((s.begin h (.adjustTime h offset)).onAdjustTime h.link offset) :=
  congrArg Host.Outcome.next (State.takeItem_taken _ ht)

/-- Taking an item leaves the Time Base. -/
@[simp] theorem State.begin_time (s : State) (h : Head) (i : Instr) : (s.begin h i).time = s.time := by
  rw [State.begin_eq]; rfl

/-- An item that sets the registers of the Time Base is answered on the state with these registers. -/
theorem answered_setTime {s : State} {h : Head} {i : Instr} (ht : Taken s h i) (x : TimeBase) (c : Code)
    (d : List Byte) : Answered { s with time := x } (((s.begin h i).setTime x).answer h.link c d) h i c d := by
  obtain ⟨e, he⟩ := taken_executing ht
  rw [State.begin_update (f := fun u => u.setTime x) (fun _ => rfl) rfl]
  exact State.answered_begin (r := s.setTime x) he c d

/-- An item that changes nothing but its line. -/
theorem answered_unchanged {s : State} {h : Head} {i : Instr} (ht : Taken s h i) (c : Code) (d : List Byte) :
    Answered s ((s.begin h i).answer h.link c d) h i c d := by
  obtain ⟨e, he⟩ := taken_executing ht
  exact State.answered_begin he c d

/-- The slew stored is the offset exactly where the offset lies in its range (R98). -/
theorem slew_clamped_iff (offset : Int) :
    clampInt (-Config.maxSlew) Config.maxSlew offset ≠ offset ↔ offset < -300 ∨ 300 < offset := by
  simp only [clampInt, Config.maxSlew]; omega

/-- Settles O15: SET_TIME by its form and whether the clock is SET, ADJUST_TIME by whether it is SET; the registers
stored are those answered (`answered_setTime`). -/
theorem setAndAdjustTime : Obligations.SetAndAdjustTime := by
  refine ⟨fun h minute seconds s ht => ⟨_, setTime_taken ht, ?_⟩, fun h offset s ht => ⟨_, adjustTime_taken ht, ?_⟩⟩
  · unfold State.onSetTime
    rw [State.begin_time]
    split
    · exact answered_unchanged ht _ _
    · split
      · exact answered_unchanged ht _ _
      · exact answered_setTime ht _ _ _
  · unfold State.onAdjustTime
    rw [State.begin_time]
    split
    · simp only [State.doneOr, decide_eq_true_eq, slew_clamped_iff]
      exact answered_setTime ht _ _ _
    · exact answered_unchanged ht _ _

/-! ### Pulses and minute ends (R93, R94, R98) -/

theorem TimeBase.atEnd_iff (t : TimeBase) :
    t.atEnd = true ↔ t.set = true ∧ t.hold = false ∧ 59 ≤ t.seconds := by
  simp [TimeBase.atEnd, and_assoc]

theorem State.timeAlive_iff (s : State) : s.timeAlive = true ↔ s.power ≠ .lost := by
  simp [State.timeAlive]

/-- The registers after a minute end (R94, R98), and the minute event where the Visit Controller is there to take it. -/
def TimeBase.ended (t : TimeBase) (alive : Bool) : TimeBase :=
  { t with
    minutes := if t.minutes < 4294967295 then t.minutes + 1 else t.minutes
    seconds := if 0 < t.slew then 1 else 0
    hold := decide (t.slew < 0)
    slew := if 0 < t.slew then t.slew - 1 else if t.slew < 0 then t.slew + 1 else 0
    events := if alive = true ∧ t.minutes < 4294967295 then t.events ++ [t.minutes + 1] else t.events }

theorem TimeBase.counted_eq (t : TimeBase) :
    t.counted = { t with minutes := if t.minutes < 4294967295 then t.minutes + 1 else t.minutes } := by
  show (if t.minutes < 4294967295 then _ else _) = _
  split <;> rfl

theorem TimeBase.shaped_eq (t : TimeBase) :
    t.shaped = { t with
      seconds := if 0 < t.slew then 1 else 0
      hold := decide (t.slew < 0)
      slew := if 0 < t.slew then t.slew - 1 else if t.slew < 0 then t.slew + 1 else 0 } := by
  unfold shaped
  rcases lt_trichotomy t.slew 0 with h | h | h
  · simp [h, h.not_gt, h.ne]
  · simp [h]
  · simp [h, h.not_gt]

theorem State.minuteEnds_eq (s : State) : s.minuteEnds = s.setTime (s.time.ended s.alive) := by
  unfold State.minuteEnds TimeBase.ended
  simp only [TimeBase.shaped_eq, TimeBase.counted_eq, Bool.and_eq_true, Config.maxWord]
  by_cases hm : s.time.minutes < 4294967295 <;> simp [hm]

theorem State.pulse_unset {s : State} (h : s.time.set = false) : s.pulse = s := by
  simp [State.pulse, h]

theorem State.pulse_hold {s : State} (hp : s.power ≠ .lost) (hs : s.time.set = true) (hh : s.time.hold = true) :
    s.pulse = s.setTime { s.time with hold := false } := by
  simp [State.pulse, TimeBase.atEnd, TimeBase.counts, s.timeAlive_iff.2 hp, hs, hh]

theorem State.pulse_second {s : State} (hp : s.power ≠ .lost) (hs : s.time.set = true) (hh : s.time.hold = false)
    (hn : s.time.seconds < 59) : s.pulse = s.setTime { s.time with seconds := s.time.seconds + 1 } := by
  have he : s.time.atEnd = false := by simp [TimeBase.atEnd, hn]
  simp [State.pulse, TimeBase.counts, s.timeAlive_iff.2 hp, hs, hh, he]

theorem State.pulse_atEnd {s : State} (hp : s.power ≠ .lost) (he : s.time.atEnd = true) :
    s.pulse = s.setTime (s.time.ended s.alive) := by
  have hs := ((TimeBase.atEnd_iff _).1 he).1
  simp [State.pulse, s.timeAlive_iff.2 hp, hs, he, s.minuteEnds_eq]

/-- MINUTE_END carries out the minute end where it is due (log 11), and nothing anywhere else (log 1). -/
theorem exec_minuteEnd_atEnd {s : State} (hp : s.power ≠ .lost) (he : s.time.atEnd = true) :
    exec .minuteEnd s = .next (s.setTime (s.time.ended s.alive)) := by
  show done _ = _
  simp [s.timeAlive_iff.2 hp, he, s.minuteEnds_eq, done]

theorem exec_minuteEnd_other {s : State} (he : s.time.atEnd = false) : exec .minuteEnd s = .next s := by
  show done _ = _
  simp [he, done]

/-- Settles O16: the four cases of a pulse, and MINUTE_END, which is the pulse at the minute's end. -/
theorem pulsesCountAndEndMinutes : Obligations.PulsesCountAndEndMinutes := by
  intro s hp
  refine ⟨fun hs => ⟨?_, ?_⟩, fun hs hh => ?_, fun hs hh hn => ?_, fun hs hh hn => ?_⟩
  · exact congrArg Host.Outcome.next (State.pulse_unset hs)
  · exact exec_minuteEnd_other (by simp [TimeBase.atEnd, hs])
  · exact congrArg Host.Outcome.next (State.pulse_hold hp hs hh)
  · exact congrArg Host.Outcome.next (State.pulse_second hp hs hh hn)
  · have he : s.time.atEnd = true := (TimeBase.atEnd_iff _).2 ⟨hs, hh, hn.ge⟩
    exact ⟨congrArg Host.Outcome.next (State.pulse_atEnd hp he), exec_minuteEnd_atEnd hp he⟩

/-! ### The length of a minute (R98) -/

/-- Pulses that do not pass 59 count seconds. -/
theorem State.pulses_count {s : State} (hp : s.power ≠ .lost) (hs : s.time.set = true) (hh : s.time.hold = false)
    (n : Nat) (hn : s.time.seconds + n ≤ 59) :
    State.pulse^[n] s = s.setTime { s.time with seconds := s.time.seconds + n } := by
  induction n with
  | zero => rfl
  | succ n ih =>
    rw [Function.iterate_succ_apply', ih (by omega)]
    exact State.pulse_second (s := s.setTime { s.time with seconds := s.time.seconds + n }) hp hs hh
      (show s.time.seconds + n < 59 by omega)

/-- The pulses to the end of a minute that no hold mark lengthens. -/
theorem State.minute_unheld {s : State} (hp : s.power ≠ .lost) (hs : s.time.set = true) (hh : s.time.hold = false)
    (hn : s.time.seconds ≤ 59) (hm : s.time.minutes < 4294967295) :
    (∀ n < 60 - s.time.seconds, (State.pulse^[n] s).time.minutes = s.time.minutes) ∧
      (State.pulse^[60 - s.time.seconds] s).time.minutes = s.time.minutes + 1 := by
  refine ⟨fun n hlt => by rw [State.pulses_count hp hs hh n (by omega)]; rfl, ?_⟩
  obtain ⟨k, hk⟩ : ∃ k, 59 = s.time.seconds + k := Nat.exists_eq_add_of_le hn
  have last := State.pulses_count hp hs hh k hk.ge
  have he : (State.pulse^[k] s).time.atEnd = true := by
    rw [last]; exact (TimeBase.atEnd_iff _).2 ⟨hs, hh, hk.le⟩
  have hp' : (State.pulse^[k] s).power ≠ .lost := by rw [last]; exact hp
  rw [show 60 - s.time.seconds = k + 1 by omega, Function.iterate_succ_apply', State.pulse_atEnd hp' he, last]
  exact if_pos hm

/-- The pulses to the end of a minute: those that the counter lacks, and one more for the hold mark (R99). -/
theorem State.minute_length {s : State} (hp : s.power ≠ .lost) (hs : s.time.set = true) (hn : s.time.seconds ≤ 59)
    (hm : s.time.minutes < 4294967295) :
    let left := 60 - s.time.seconds + if s.time.hold then 1 else 0
    (∀ n < left, (State.pulse^[n] s).time.minutes = s.time.minutes) ∧
      (State.pulse^[left] s).time.minutes = s.time.minutes + 1 := by
  cases hh : s.time.hold with
  | false => exact State.minute_unheld hp hs hh hn hm
  | true =>
    have first := State.pulse_hold hp hs hh
    have rest := State.minute_unheld (s := s.setTime { s.time with hold := false }) hp hs rfl hn hm
    refine ⟨fun n hlt => ?_, ?_⟩
    · cases n with
      | zero => rfl
      | succ n =>
        rw [Function.iterate_succ_apply, first]
        exact rest.1 n (by simpa using hlt)
    · rw [if_pos rfl, Function.iterate_succ_apply, first]
      exact rest.2

/-- A minute that begins is 59, 60 or 61 pulses long by the slew that shaped it (R98). -/
theorem State.minute_after_end {s : State} (hp : s.power ≠ .lost) (he : s.time.atEnd = true)
    (hm : s.time.minutes + 1 < 4294967295) :
    let length := if 0 < s.time.slew then 59 else if s.time.slew = 0 then 60 else 61
    (∀ n < length, (State.pulse^[n] s.pulse).time.minutes = s.time.minutes + 1) ∧
      (State.pulse^[length] s.pulse).time.minutes = s.time.minutes + 2 := by
  have begun := State.pulse_atEnd hp he
  have hs := ((TimeBase.atEnd_iff _).1 he).1
  have minutes : s.pulse.time.minutes = s.time.minutes + 1 := by rw [begun]; exact if_pos (by omega)
  have seconds : s.pulse.time.seconds = if 0 < s.time.slew then 1 else 0 := by rw [begun]; rfl
  have hold : s.pulse.time.hold = decide (s.time.slew < 0) := by rw [begun]; rfl
  have runs := State.minute_length (s := s.pulse) (by rw [begun]; exact hp) (by rw [begun]; exact hs)
    (by rw [seconds]; split <;> omega) (by omega)
  have length : (60 - s.pulse.time.seconds + if s.pulse.time.hold then 1 else 0) =
      if 0 < s.time.slew then 59 else if s.time.slew = 0 then 60 else 61 := by
    rw [seconds, hold]
    rcases lt_trichotomy s.time.slew 0 with h | h | h
    · simp [h, h.not_gt, h.ne]
    · simp [h]
    · simp [h, h.not_gt]
  rw [length, minutes] at runs
  exact runs

end Sys2Proof.Machine
end

section
/-! PROOFS. What leaves the Time Base's registers, said once for each operation in the order of the model: no block but
the Time Base, the supplies and the resets changes them. -/

namespace Sys2Proof.Machine

namespace State

variable (s : State)

/-! ### Shared operations -/

@[simp] theorem changeVisit_time (v : VisitNo) (st : VisitState) (f : Visit → Visit) :
    (s.changeVisit v st f).time = s.time := by
  unfold changeVisit; split <;> rfl

@[simp] theorem advance_time : s.advance.time = s.time := rfl
@[simp] theorem granted_time (p : Requester) : (s.granted p).time = s.time := rfl
@[simp] theorem freeUp_time (v : VisitNo) : (s.freeUp v).time = s.time := rfl

@[simp] theorem freeFrom_time (v : VisitNo) (st : VisitState) : (s.freeFrom v st).time = s.time :=
  s.changeVisit_time v st _

@[simp] theorem stamp_time (v : VisitNo) (o : LogOutcome) (pass : Option Nat) : (s.stamp v o pass).1.time = s.time := by
  unfold stamp; split <;> rfl

@[simp] theorem raise_time (l : LinkNo) (f : Flag) : (s.raise l f).time = s.time := rfl
@[simp] theorem follow_time : s.follow.time = s.time := rfl
@[simp] theorem withStore_time (st : Store) : (s.withStore st).time = s.time := rfl
@[simp] theorem putExecuting_time (l : LinkNo) (b : Buffer) : (s.putExecuting l b).time = s.time := rfl

/-! ### Items (R190 to R192) -/

@[simp] theorem setJob_time (l : LinkNo) (j : Job) : (s.setJob l j).time = s.time := by rw [setJob_eq]; rfl

@[simp] theorem answer_time (l : LinkNo) (c : Code) (d : List Byte) : (s.answer l c d).time = s.time := by
  rw [answer_eq]; rfl

@[simp] theorem refuse_time (l : LinkNo) (c : Code) : (s.refuse l c).time = s.time := s.answer_time l c []

@[simp] theorem ask_time (l : LinkNo) (j : Job) (r : Request) : (s.ask l j r).time = s.time := s.setJob_time l j

/-- An item leaves the Time Base where its block does. -/
theorem takeItem_time {h : Head} {i : Instr} {f : State → State} (hf : ∀ u, (f u).time = u.time) :
    (s.takeItem h i f).time = s.time := by
  unfold takeItem
  split
  · split
    · simp
    · rw [hf, begin_time]
  · rfl

@[simp] theorem changeLink_time (l : LinkNo) (f : Link → Link) : (s.changeLink l f).time = s.time := by
  unfold changeLink; split <;> rfl

/-! ### The driver table (chapter 7) -/

@[simp] theorem admitDriver_time (w : ArriveWork) (cards : List Nat) (v : VisitNo) (card : Nat) (f : Figures) :
    (s.admitDriver w cards v card f).1.time = s.time := by
  unfold admitDriver; split <;> rfl

theorem changeLinked_time (v : VisitNo) (f : Driver → Driver) (cards : List Nat) :
    (s.changeLinked v f cards).time = s.time := by
  induction cards generalizing s with
  | nil => rfl
  | cons c cs ih =>
    unfold changeLinked
    rw [ih]
    split
    · rfl
    · split
      · split <;> rfl
      · rfl

@[simp] theorem commitTrip_time (v : VisitNo) : (s.commitTrip v).time = s.time := s.changeLinked_time v _ _
@[simp] theorem releaseDrivers_time (v : VisitNo) : (s.releaseDrivers v).time = s.time := s.changeLinked_time v _ _

/-! ### Aborts (R38 to R41) -/

@[simp] theorem startAbort_time (v : VisitNo) : (s.startAbort v).time = s.time := by
  rw [(startAbort_begins s v).rest]

@[simp] theorem endAbort_time (l : LinkNo) (v : VisitNo) (seq : Option Nat) : (s.endAbort l v seq).time = s.time := by
  simp [endAbort]

@[simp] theorem abortAnswered_time (l : LinkNo) (v : VisitNo) (seq : Option Nat) :
    (s.abortAnswered l v seq).time = s.time := by
  unfold abortAnswered
  split
  · rfl
  · dsimp only; split <;> simp

@[simp] theorem abortUnrecorded_time (l : LinkNo) (v : VisitNo) : (s.abortUnrecorded l v).time = s.time := by
  simp [abortUnrecorded]

/-! ### The Dispatch Check Unit (chapter 8) -/

@[simp] theorem endCheck_time (c : Check) (r : CheckRecord) (st : VisitState) (cl : Option Clearance) :
    (s.endCheck c r st cl).time = s.time := by
  simp [endCheck]

@[simp] theorem endRetry_time (c : Check) : (s.endRetry c).time = s.time := s.endCheck_time ..
@[simp] theorem endFail_time (c : Check) : (s.endFail c).time = s.time := s.endCheck_time ..
@[simp] theorem endLogFull_time (c : Check) : (s.endLogFull c).time = s.time := s.endCheck_time ..
@[simp] theorem endPass_time (c : Check) : (s.endPass c).time = s.time := by simp [endPass]

@[simp] theorem report_time (v : Option VisitNo) : (s.report v).time = s.time := by
  unfold report
  split
  · rfl
  · split
    · split <;> simp
    · rfl

@[simp] theorem abandoned_time (c : Check) : (s.abandoned c).time = s.time := by simp [abandoned]

@[simp] theorem abandonCheck_time (v : VisitNo) : (s.abandonCheck v).time = s.time := by
  unfold abandonCheck
  split
  · rfl
  · split
    · split <;> rfl
    · rfl

@[simp] theorem beginBuild_time (c : Check) : (s.beginBuild c).time = s.time := rfl

@[simp] theorem decideOutcome_time (c : Check) : (s.decideOutcome c).time = s.time := by
  unfold decideOutcome; split <;> simp

@[simp] theorem buildGoesOn_time (c : Check) (ref : SlotRef) : (s.buildGoesOn c ref).time = s.time := by
  unfold buildGoesOn; dsimp only; split <;> rfl

@[simp] theorem beginUnwind_time (c : Check) : (s.beginUnwind c).time = s.time := rfl

@[simp] theorem judgeGoesOn_time (c : Check) (j : Judge × Option Ask) : (s.judgeGoesOn c j).time = s.time := by
  unfold judgeGoesOn
  dsimp only
  split
  · rfl
  · split <;> simp

@[simp] theorem enterJudge_time (c : Check) (j : Judge) : (s.enterJudge c j).time = s.time := s.judgeGoesOn_time ..

theorem checkTakes_time {f : Check → State} (hf : ∀ c, (f c).time = s.time) : (s.checkTakes f).time = s.time := by
  unfold checkTakes
  split
  · rfl
  · split
    · simp
    · exact hf _

theorem checkJudges_time {f : Check → State} (hf : ∀ c, (f c).time = s.time) : (s.checkJudges f).time = s.time :=
  s.checkTakes_time fun c => by split <;> simp [hf]

@[simp] theorem checkRead_time (m : ListId) (a : ReadAnswer) : (s.checkRead m a).time = s.time :=
  s.checkJudges_time fun c => by split <;> simp

@[simp] theorem checkLookup_time (a : ClassAnswer) : (s.checkLookup a).time = s.time :=
  s.checkJudges_time fun c => s.judgeGoesOn_time c _

@[simp] theorem checkPair_time (m : Bool) : (s.checkPair m).time = s.time :=
  s.checkJudges_time fun c => s.judgeGoesOn_time c _

@[simp] theorem checkVerdict_time (a : HoursAnswer) : (s.checkVerdict a).time = s.time :=
  s.checkJudges_time fun _ => s.decideOutcome_time _

@[simp] theorem checkAlloc_time (ref : Option SlotRef) : (s.checkAlloc ref).time = s.time := by
  cases ref with
  | none => exact s.checkTakes_time s.beginUnwind_time
  | some r => exact s.checkTakes_time fun c => s.buildGoesOn_time c r

@[simp] theorem checkWrite_time (written : Bool) : (s.checkWrite written).time = s.time :=
  s.checkTakes_time fun c => by split <;> simp

@[simp] theorem checkSplice_time : s.checkSplice.time = s.time := s.checkTakes_time s.endLogFull_time

@[simp] theorem checkAnswered_time : s.checkAnswered.time = s.time := by
  unfold checkAnswered; split <;> rfl

/-! ### Setup (chapters 4, 7 and 12) -/

theorem unlessLocked_time {l : LinkNo} {formed : Bool} {f : State} (hf : f.time = s.time) :
    (s.unlessLocked l formed f).time = s.time := by
  unfold unlessLocked
  split
  · simp
  · split
    · simp
    · exact hf

@[simp] theorem withRules_time (r : RuleSet) : (s.withRules r).time = s.time := rfl

theorem onRulesLoad_time (l : LinkNo) (r : RuleSet) : (s.onRulesLoad l r).time = s.time :=
  s.unlessLocked_time (by simp)

@[simp] theorem writeClasses_time (t : ClassTable) : (s.writeClasses t).time = s.time := by simp [writeClasses]

theorem onBandLoad_time (l : LinkNo) (band upper group permille litres : Nat) (paper : Bool) :
    (s.onBandLoad l band upper group permille litres paper).time = s.time := by
  unfold onBandLoad
  split
  · simp
  · exact s.unlessLocked_time (by simp)

theorem onSegLoad_time (l : LinkNo) (a b setting : Nat) : (s.onSegLoad l a b setting).time = s.time := by
  unfold onSegLoad
  split
  · exact s.unlessLocked_time (by simp)
  · simp

theorem onChunkSize_time (l : LinkNo) (size : Nat) : (s.onChunkSize l size).time = s.time :=
  s.unlessLocked_time (by simp)

theorem onServiceLoad_time (l : LinkNo) (entries : List Nat) : (s.onServiceLoad l entries).time = s.time := by
  unfold onServiceLoad
  split
  · simp
  · split
    · simp
    · split <;> simp

theorem onSettings_time (l : LinkNo) (reserve window threshold : Option Nat) :
    (s.onSettings l reserve window threshold).time = s.time := by
  unfold onSettings; split <;> simp

theorem onIdentWrite_time (l : LinkNo) (identity : Option Nat) (label : Option (List Byte)) :
    (s.onIdentWrite l identity label).time = s.time := by
  unfold onIdentWrite; split <;> simp

theorem onStart_time (l : LinkNo) : (s.onStart l).time = s.time := by
  unfold onStart
  split
  · simp
  · split <;> simp

theorem onLock_time (l : LinkNo) : (s.onLock l).time = s.time := by
  unfold onLock
  split
  · simp
  · split <;> simp

theorem onKeep_time (l : LinkNo) : (s.onKeep l).time = s.time := by
  unfold onKeep; split <;> simp

theorem onRestart_time (l : LinkNo) : (s.onRestart l).time = s.time := by
  unfold onRestart; split <;> simp

theorem onNoteClear_time (l : LinkNo) (clear : FlagWord) (mask : Option FlagWord) :
    (s.onNoteClear l clear mask).time = s.time := by
  simp [onNoteClear]

/-! ### Papers (chapter 5) -/

theorem addressed_time {l : LinkNo} {formed : Bool} {visit tag : Nat} {f : VisitNo → State}
    (hf : ∀ v, (f v).time = s.time) : (s.addressed l formed visit tag f).time = s.time := by
  unfold addressed
  split
  · simp
  · split
    · simp
    · split
      · simp
      · split
        · simp
        · exact hf _

@[simp] theorem openPaper_time (v : VisitNo) (x : Paper) : (s.openPaper v x).time = s.time := by simp [openPaper]

theorem onPaperOpen_time (l : LinkNo) (visit tag number p : Nat) (q expected : Option Nat) (replace : Bool) :
    (s.onPaperOpen l visit tag number p q expected replace).time = s.time :=
  s.addressed_time fun v => by
    split
    · simp
    · split
      · simp
      · split
        · simp
        · dsimp only; split <;> simp

@[simp] theorem endPaperItem_time (l : LinkNo) (v : VisitNo) (d : List Byte) :
    (s.endPaperItem l v d).time = s.time := by
  simp [endPaperItem]

@[simp] theorem paperReturned_time (l : LinkNo) (v : VisitNo) (tag : Tag) (clamped : Bool) :
    (s.paperReturned l v tag clamped).time = s.time := by
  unfold paperReturned; split <;> simp

@[simp] theorem decidePaper_time (v : VisitNo) (dropped : Nat) (short : Bool) :
    (s.decidePaper v dropped short).time = s.time := by
  unfold decidePaper; dsimp only; split <;> simp

@[simp] theorem endLines_time (l : LinkNo) (v : VisitNo) (placed dropped : Nat) (short : Bool) :
    (s.endLines l v placed dropped short).time = s.time := by
  simp [endLines]

@[simp] theorem placeLine_time (l : LinkNo) (v : VisitNo) (tag : Tag) (line : PaperLine) (left : List PaperLine)
    (placed dropped : Nat) (short : Bool) : (s.placeLine l v tag line left placed dropped short).time = s.time :=
  s.ask_time ..

theorem onPaperLines_time (l : LinkNo) (visit tag : Nat) (lines : List PaperLine) :
    (s.onPaperLines l visit tag lines).time = s.time :=
  s.addressed_time fun v => by
    dsimp only
    split
    · simp
    · split
      · simp
      · split
        · simp
        · split <;> simp

@[simp] theorem linePlaced_time (l : LinkNo) (v : VisitNo) (tag : Tag) (left : List PaperLine) (placed dropped : Nat)
    (short : Bool) : (s.linePlaced l v tag left placed dropped short).time = s.time := by
  unfold linePlaced
  split
  · dsimp only; split <;> simp
  · simp

@[simp] theorem lineRefused_time (l : LinkNo) (v : VisitNo) (tag : Tag) (placed : Nat) :
    (s.lineRefused l v tag placed).time = s.time := by
  unfold lineRefused; split <;> simp

/-! ### Bays (chapter 3) -/

theorem onBayAssign_time (l : LinkNo) (visit tag bay : Nat) : (s.onBayAssign l visit tag bay).time = s.time :=
  s.addressed_time fun v => by
    split
    · simp
    · split
      · simp
      · split <;> simp [bindBay]

@[simp] theorem changeWindow_time (b : BayIx) (f : Window → Window) : (s.changeWindow b f).time = s.time := rfl

@[simp] theorem bayReady_time (l : LinkNo) (b : BayIx) : (s.bayReady l b).time = s.time := by simp [bayReady]

@[simp] theorem bayRead_time (l : LinkNo) (b : BayIx) (v : VisitNo) (tag : Tag) (a : ReadAnswer) :
    (s.bayRead l b v tag a).time = s.time := by
  unfold bayRead
  split
  · split <;> simp
  · simp

@[simp] theorem bayWritten_time (l : LinkNo) (b : BayIx) (v : VisitNo) (tag : Tag) (comp : Nat) (ref : SlotRef)
    (next : Option SlotRef) (written : Bool) : (s.bayWritten l b v tag comp ref next written).time = s.time := by
  unfold bayWritten
  split
  · dsimp only; split <;> simp
  · simp

theorem atBay_time {l : LinkNo} {bay : Nat} {f : BayIx → Window → State} (hf : ∀ b w, (f b w).time = s.time) :
    (s.atBay l bay f).time = s.time := by
  unfold atBay
  split
  · simp
  · split
    · simp
    · exact hf _ _

@[simp] theorem leaveBay_time (b : BayIx) (v : VisitNo) (st : VisitState) : (s.leaveBay b v st).time = s.time := rfl

theorem onBayRelease_time (l : LinkNo) (bay : Nat) : (s.onBayRelease l bay).time = s.time :=
  s.atBay_time fun b w => by split <;> simp

theorem onLoadEnd_time (l : LinkNo) (bay : Nat) : (s.onLoadEnd l bay).time = s.time :=
  s.atBay_time fun b w => by split <;> simp

@[simp] theorem notMapped_time (l : LinkNo) : (s.notMapped l).time = s.time := by simp [notMapped]

theorem onFill_time (l : LinkNo) (bay comp product figure : Nat) :
    (s.onFill l bay comp product figure).time = s.time := by
  unfold onFill
  split
  · simp
  · split
    · simp
    · split <;> simp

@[simp] theorem fillRead_time (l : LinkNo) (b : BayIx) (v : VisitNo) (tag : Tag) (slot : SlotRef)
    (product figure : Nat) (a : ReadAnswer) : (s.fillRead l b v tag slot product figure a).time = s.time := by
  unfold fillRead
  split
  · split
    · simp
    · split <;> simp
  · simp

@[simp] theorem fillWritten_time (l : LinkNo) (v : VisitNo) (net : Nat) (overfull amended written : Bool) :
    (s.fillWritten l v net overfull amended written).time = s.time := by
  unfold fillWritten; split <;> simp

@[simp] theorem unbind_time (v : VisitNo) : (s.unbind v).time = s.time := rfl

/-! ### Visits (chapters 2 and 9) -/

@[simp] theorem placeCompartment_time (l : LinkNo) (v : VisitNo) (w : ArriveWork) (capacity : Option Nat) :
    (s.placeCompartment l v w capacity).time = s.time :=
  s.ask_time ..

theorem onArrive_time (l : LinkNo) (tanker driver : Nat) (figures : Figures) (co : Option CoDriver)
    (capacities : List (Option Nat)) : (s.onArrive l tanker driver figures co capacities).time = s.time := by
  unfold onArrive; split <;> simp [claim]

@[simp] theorem admitCo_time (w : ArriveWork) (cards : List Nat) (v : VisitNo) :
    (s.admitCo w cards v).1.time = s.time := by
  unfold admitCo; split <;> simp

@[simp] theorem completeArrival_time (l : LinkNo) (v : VisitNo) (w : ArriveWork) :
    (s.completeArrival l v w).time = s.time := by
  simp [completeArrival]

@[simp] theorem compartmentPlaced_time (l : LinkNo) (v : VisitNo) (w : ArriveWork) :
    (s.compartmentPlaced l v w).time = s.time := by
  unfold compartmentPlaced; split <;> simp

@[simp] theorem undoArrival_time (l : LinkNo) (v : VisitNo) : (s.undoArrival l v).time = s.time := s.ask_time ..

@[simp] theorem arrivalUndone_time (l : LinkNo) (v : VisitNo) : (s.arrivalUndone l v).time = s.time := by
  simp [arrivalUndone]

theorem onDispatch_time (l : LinkNo) (visit tag : Nat) : (s.onDispatch l visit tag).time = s.time :=
  s.addressed_time fun v => by
    split
    case h_1 | h_2 => split <;> simp [joinQueue]
    all_goals simp

theorem onGatePassed_time (l : LinkNo) (visit tag code : Nat) : (s.onGatePassed l visit tag code).time = s.time := by
  unfold onGatePassed
  split
  · simp
  · split
    · simp
    · split <;> simp [passAccepted]

@[simp] theorem releaseReturned_time (l : LinkNo) (v : VisitNo) (m : ListId) :
    (s.releaseReturned l v m).time = s.time := by
  unfold releaseReturned; split <;> simp

@[simp] theorem endRelease_time (l : LinkNo) (v : VisitNo) (seq : Option Nat) :
    (s.endRelease l v seq).time = s.time := by
  simp [endRelease]

theorem onVisitAbort_time (l : LinkNo) (visit tag : Nat) : (s.onVisitAbort l visit tag).time = s.time :=
  s.addressed_time fun v => by split <;> simp [abortAccepted]

theorem onVisitRead_time (l : LinkNo) (visit : Nat) (compartments : Bool) :
    (s.onVisitRead l visit compartments).time = s.time := by
  unfold onVisitRead
  split
  · simp
  · split <;> simp

@[simp] theorem visitReadAnswered_time (l : LinkNo) (v : VisitNo) (x : Visit) (got : List Compartment)
    (a : ReadAnswer) : (s.visitReadAnswered l v x got a).time = s.time := by
  unfold visitReadAnswered; split <;> simp

@[simp] theorem expiryPresents_time : s.expiryPresents.time = s.time := by
  unfold expiryPresents; split <;> simp

theorem minuteEvent_time (n : Nat) : (s.minuteEvent n).time = s.time := by simp [minuteEvent]

@[simp] theorem lapsed_time (v : VisitNo) : (s.lapsed v).time = s.time := by simp [lapsed]

/-! ### Break items (chapter 7) -/

@[simp] theorem breakItem_time (e : EntryNo) (d : Driver) : (s.breakItem e d).time = s.time := by
  unfold breakItem; split <;> simp

theorem atCard_time {l : LinkNo} {card : Nat} {f : EntryNo → Driver → State} (hf : ∀ e d, (f e d).time = s.time) :
    (s.atCard l card f).time = s.time := by
  unfold atCard
  split
  · simp
  · split
    · simp
    · split
      · simp
      · split
        · simp
        · exact hf _ _

theorem onBreakStart_time (l : LinkNo) (card : Nat) : (s.onBreakStart l card).time = s.time :=
  s.atCard_time fun e d => by split <;> simp

theorem onBreakEnd_time (l : LinkNo) (card : Nat) : (s.onBreakEnd l card).time = s.time :=
  s.atCard_time fun e d => by split <;> simp

theorem onDriverRead_time (l : LinkNo) (selector value : Nat) : (s.onDriverRead l selector value).time = s.time := by
  unfold onDriverRead
  split
  · split <;> simp
  · split <;> simp
  · simp

/-! ### Logs and STORE_READ (R22, R165 to R169) -/

theorem beginWalk_time (l : LinkNo) (g : Gather) (job : Gather → Job) : (s.beginWalk l g job).time = s.time := by
  unfold beginWalk; split <;> simp

@[simp] theorem takeRead_time (l : LinkNo) (g : Gather) (a : ReadAnswer) : (s.takeRead l g a).time = s.time := by
  unfold takeRead
  split
  · simp
  all_goals split <;> simp [takeReply]

@[simp] theorem taken_time (l : LinkNo) (g : Gather) : (s.taken l g).time = s.time := by simp [taken, takeReply]

@[simp] theorem peekRead_time (l : LinkNo) (g : Gather) (a : ReadAnswer) : (s.peekRead l g a).time = s.time := by
  unfold peekRead; split <;> simp [peekReply]

theorem onStoreRead_time (l : LinkNo) (visit : Option Nat) : (s.onStoreRead l visit).time = s.time := by
  unfold onStoreRead
  split
  · simp
  · split <;> simp

/-! ### The Sweep Unit (chapter 10) -/

@[simp] theorem setSweepStatus_time (t : SweepStatus) : (s.setSweepStatus t).time = s.time := rfl
@[simp] theorem setSweepWork_time (w : SweepWork) : (s.setSweepWork w).time = s.time := rfl

@[simp] theorem sweepAsks_time (w : SweepWork) (r : Request) : (s.sweepAsks w r).time = s.time := by
  unfold sweepAsks; dsimp only; split <;> simp

@[simp] theorem consider_time : s.consider.time = s.time := by
  unfold consider; split <;> simp

@[simp] theorem endSweep_time (st : SweepState) : (s.endSweep st).time = s.time := rfl

@[simp] theorem advanceSweep_time : s.advanceSweep.time = s.time := by
  unfold advanceSweep; dsimp only; split <;> simp

@[simp] theorem takeResult_time (failed : Option Reason) : (s.takeResult failed).time = s.time := by simp [takeResult]

theorem onSweepStart_time (l : LinkNo) (opcode scope index : Nat) :
    (s.onSweepStart l opcode scope index).time = s.time := by
  unfold onSweepStart
  split
  · simp
  · split
    · simp
    · split
      · simp
      · split <;> simp

theorem onSweepStop_time (l : LinkNo) : (s.onSweepStop l).time = s.time := by
  unfold onSweepStop; split <;> simp [stopSweep]

@[simp] theorem recheckResult_time (v : VisitNo) (tag : Tag) (j : Judge) : (s.recheckResult v tag j).time = s.time := by
  unfold recheckResult; split <;> simp

@[simp] theorem recheckGoesOn_time (v : VisitNo) (tag : Tag) (j : Judge × Option Ask) :
    (s.recheckGoesOn v tag j).time = s.time := by
  unfold recheckGoesOn; split <;> simp

@[simp] theorem recheckRead_time (v : VisitNo) (tag : Tag) (j : Judge) (m : ListId) (a : ReadAnswer) :
    (s.recheckRead v tag j m a).time = s.time := by
  unfold recheckRead; split <;> simp

@[simp] theorem sweepRead_time (m : ListId) (a : ReadAnswer) : (s.sweepRead m a).time = s.time := by
  unfold sweepRead
  split
  · dsimp only; split <;> simp
  · split <;> simp

theorem entryRead_time : s.entryRead.time = s.time := by
  unfold entryRead
  split
  · simp
  · split <;> simp

theorem contextRead_time : s.contextRead.time = s.time := by
  unfold contextRead
  split
  · simp
  · split <;> simp

/-! ### Who takes a grant's answer -/

@[simp] theorem reportList_time (m : ListId) : (s.reportList m).time = s.time := by
  unfold reportList; split <;> simp

@[simp] theorem allocated_time (p : Requester) (ref : Option SlotRef) : (s.allocated p ref).time = s.time := by
  unfold allocated
  split
  · unfold linkAllocated
    split
    · split <;> simp
    · split <;> simp
    · split <;> simp
    · rfl
  · split <;> simp

@[simp] theorem readBy_time (p : Requester) (m : ListId) (a : ReadAnswer) : (s.readBy p m a).time = s.time := by
  unfold readBy
  split
  · unfold linkRead; split <;> simp
  · split <;> simp

@[simp] theorem writtenBy_time (p : Requester) (written : Bool) : (s.writtenBy p written).time = s.time := by
  unfold writtenBy
  split
  · unfold linkWritten; split <;> simp
  · split <;> simp

@[simp] theorem splicedBy_time (p : Requester) (m : ListId) : (s.splicedBy p m).time = s.time := by
  unfold splicedBy
  split
  · unfold linkSpliced; split <;> simp
  · split <;> simp

@[simp] theorem stampedBy_time (p : Requester) (v : VisitNo) (seq : Option Nat) :
    (s.stampedBy p v seq).time = s.time := by
  unfold stampedBy
  split
  · unfold linkStamped; split <;> simp
  · split <;> simp

@[simp] theorem headSplicedBy_time (p : Requester) : (s.headSplicedBy p).time = s.time := by
  unfold headSplicedBy
  split
  · split <;> simp
  · rfl

/-! ### The reset work (R24, R45, R46, R92) -/

@[simp] theorem returned_time (m : ListId) : (s.returned m).time = s.time := rfl

@[simp] theorem stampedNow_time (v : VisitNo) (o : LogOutcome) (pass : Option Nat) :
    (s.stampedNow v o pass).time = s.time :=
  s.stamp_time v o pass

@[simp] theorem settledUnrecorded_time (v : VisitNo) : (s.settledUnrecorded v).time = s.time := rfl

@[simp] theorem countAbort_time (v : VisitNo) (c : AbortCourse) : (s.countAbort v c).time = s.time := rfl

@[simp] theorem settleAbort_time (v : VisitNo) (fuel : Nat) : (settleAbort v fuel s).time = s.time := by
  induction fuel generalizing s with
  | zero => rfl
  | succ fuel ih =>
    unfold settleAbort
    split
    · rfl
    · split
      · simp [ih]
      · simp [ih]
      · split
        · rfl
        · split <;> simp [ih]
      · rfl

@[simp] theorem settleState_time (v : VisitNo) : (s.settleState v).time = s.time := by
  unfold settleState
  dsimp only
  split
  case h_1 => split <;> simp
  all_goals simp

@[simp] theorem settlePaper_time (v : VisitNo) : (s.settlePaper v).time = s.time := by
  unfold settlePaper; split <;> simp

@[simp] theorem settleAll_time (vs : List VisitNo) : (settleAll vs s).time = s.time := by
  induction vs generalizing s with
  | nil => rfl
  | cons v vs ih => simp [settleAll, ih]

/-- A line or soft reset drops the minute events not yet taken, and leaves the rest of the Time Base (R104). -/
theorem reset209_time : s.reset209.time = { s.time with events := [] } := by
  unfold reset209
  simp only [setCc_time, follow_time, settleAll_time]
  split <;> rfl

end State

end Sys2Proof.Machine
end

section
/-! PROOFS. The minute count never decreases, but for a cold start and the loss of the retained memory (R94). -/

namespace Sys2Proof.Machine

/-! ### The grants and the units' own steps leave the Time Base -/

section
variable {s t : State}

theorem execServiceTurn_time (h : execServiceTurn s = .next t) : t.time = s.time := by
  obtain rfl := Host.Outcome.next.inj h
  split
  · split <;> rfl
  · rfl

theorem execAllocation_time (h : execAllocation s = .next t) : t.time = s.time := by
  unfold execAllocation at h
  split at h
  · split at h
    · cases h; simp
    · split at h
      · cases h
      · cases h; simp
  · cases h; rfl

theorem execSlotRead_time (h : execSlotRead s = .next t) : t.time = s.time := by
  unfold execSlotRead at h
  split at h
  · dsimp only at h
    split at h
    · cases h
    · cases h; simp
  · cases h; rfl

theorem execSlotWrite_time (h : execSlotWrite s = .next t) : t.time = s.time := by
  obtain rfl := Host.Outcome.next.inj h
  split
  · split <;> simp
  · rfl

theorem execWholeListSplice_time (h : execWholeListSplice s = .next t) : t.time = s.time := by
  obtain rfl := Host.Outcome.next.inj h
  split <;> simp

theorem execStampedSplice_time (h : execStampedSplice s = .next t) : t.time = s.time := by
  obtain rfl := Host.Outcome.next.inj h
  split <;> simp

theorem execHeadSplice_time (h : execHeadSplice s = .next t) : t.time = s.time := by
  obtain rfl := Host.Outcome.next.inj h
  split <;> simp

theorem execServiceTableGrant_time (h : execServiceTableGrant s = .next t) : t.time = s.time := by
  obtain rfl := Host.Outcome.next.inj h
  split
  · dsimp only; split <;> simp
  · rfl

theorem execStoreCountsGrant_time (h : execStoreCountsGrant s = .next t) : t.time = s.time := by
  obtain rfl := Host.Outcome.next.inj h
  split
  · dsimp only; split <;> simp
  · rfl

theorem execCheckTake_time (h : execCheckTake s = .next t) : t.time = s.time := by
  obtain rfl := Host.Outcome.next.inj h
  split <;> simp

theorem execClassLookup_time {a : Asker} (h : execClassLookup a s = .next t) : t.time = s.time := by
  obtain rfl := Host.Outcome.next.inj h
  split
  · split <;> simp
  · split <;> simp

theorem execPairTest_time {a : Asker} (h : execPairTest a s = .next t) : t.time = s.time := by
  obtain rfl := Host.Outcome.next.inj h
  split
  · split <;> simp
  · split <;> simp

theorem execHoursVerdict_time (h : execHoursVerdict s = .next t) : t.time = s.time := by
  obtain rfl := Host.Outcome.next.inj h
  split <;> simp

theorem execSweepEntryRead_time (h : execSweepEntryRead s = .next t) : t.time = s.time := by
  obtain rfl := Host.Outcome.next.inj h
  split
  · exact s.entryRead_time
  · rfl

theorem execRecheckContextRead_time (h : execRecheckContextRead s = .next t) : t.time = s.time := by
  obtain rfl := Host.Outcome.next.inj h
  split
  · exact s.contextRead_time
  · rfl

end

/-! ### The commands of the Time Base, the supplies and the resets -/

/-- The commands that change the registers of the Time Base or its minute events. -/
def Instr.movesClock : Instr → Bool
  | .setTime _ _ _ | .adjustTime _ _ | .tbasePulse | .minuteEnd | .minuteEvent | .replySent _ | .lineReset _ _
  | .coldStart _ _ | .mainSupplyLoss | .backupSupplyLoss => true
  | _ => false

/-- Every other command leaves the Time Base as it is. -/
theorem exec_time {i : Instr} {s t : State} (hi : Instr.movesClock i = false) (h : exec i s = .next t) :
    t.time = s.time := by
  cases i with
  | rulesLoad hd x => cases h; exact s.takeItem_time fun u => u.onRulesLoad_time _ _
  | bandLoad hd a b c d e f => cases h; exact s.takeItem_time fun u => u.onBandLoad_time _ _ _ _ _ _ _
  | segLoad hd a b c => cases h; exact s.takeItem_time fun u => u.onSegLoad_time _ _ _ _
  | chunkSize hd n => cases h; exact s.takeItem_time fun u => u.onChunkSize_time _ _
  | serviceLoad hd ns => cases h; exact s.takeItem_time fun u => u.onServiceLoad_time _ _
  | settings hd a b c => cases h; exact s.takeItem_time fun u => u.onSettings_time _ _ _ _
  | identWrite hd a b => cases h; exact s.takeItem_time fun u => u.onIdentWrite_time _ _ _
  | start hd => cases h; exact s.takeItem_time fun u => u.onStart_time _
  | lock hd => cases h; exact s.takeItem_time fun u => u.onLock_time _
  | keep hd => cases h; exact s.takeItem_time fun u => u.onKeep_time _
  | restart hd => cases h; exact s.takeItem_time fun u => u.onRestart_time _
  | paperOpen hd v t n p q e b => cases h; exact s.takeItem_time fun u => u.onPaperOpen_time _ _ _ _ _ _ _ _
  | paperLines hd v t xs => cases h; exact s.takeItem_time fun u => u.onPaperLines_time _ _ _ _
  | visitAbort hd v t => cases h; exact s.takeItem_time fun u => u.onVisitAbort_time _ _ _
  | logTake hd n | excTake hd n => cases h; exact s.takeItem_time fun u => u.beginWalk_time _ _ _
  | logPeek hd a b | excPeek hd a b => cases h; exact s.takeItem_time fun u => u.beginWalk_time _ _ _
  | bayAssign hd v t b => cases h; exact s.takeItem_time fun u => u.onBayAssign_time _ _ _ _
  | bayRelease hd b => cases h; exact s.takeItem_time fun u => u.onBayRelease_time _ _
  | fill hd b c p f => cases h; exact s.takeItem_time fun u => u.onFill_time _ _ _ _ _
  | loadEnd hd b => cases h; exact s.takeItem_time fun u => u.onLoadEnd_time _ _
  | arrive hd a b f co cs => cases h; exact s.takeItem_time fun u => u.onArrive_time _ _ _ _ _ _
  | breakStart hd c => cases h; exact s.takeItem_time fun u => u.onBreakStart_time _ _
  | breakEnd hd c => cases h; exact s.takeItem_time fun u => u.onBreakEnd_time _ _
  | dispatch hd v t => cases h; exact s.takeItem_time fun u => u.onDispatch_time _ _ _
  | gatePassed hd v t c => cases h; exact s.takeItem_time fun u => u.onGatePassed_time _ _ _ _
  | sweepStart hd a b c => cases h; exact s.takeItem_time fun u => u.onSweepStart_time _ _ _ _
  | sweepStop hd => cases h; exact s.takeItem_time fun u => u.onSweepStop_time _
  | storeRead hd v => cases h; exact s.takeItem_time fun u => u.onStoreRead_time _ _
  | visitRead hd v b => cases h; exact s.takeItem_time fun u => u.onVisitRead_time _ _ _
  | driverRead hd a b => cases h; exact s.takeItem_time fun u => u.onDriverRead_time _ _ _
  | sweepRead hd | noteRead hd | identRead hd => cases h; exact s.takeItem_time fun u => u.answer_time _ _ _
  | noteClear hd a b => cases h; exact s.takeItem_time fun u => u.onNoteClear_time _ _ _
  | telegramStart l c | telegramEnd l cs | gap l => cases h; exact s.changeLink_time _ _
  | rstAssert => cases h; rfl
  | serviceTurn => exact execServiceTurn_time h
  | allocation => exact execAllocation_time h
  | slotRead => exact execSlotRead_time h
  | slotWrite => exact execSlotWrite_time h
  | wholeListSplice => exact execWholeListSplice_time h
  | stampedSplice => exact execStampedSplice_time h
  | headSplice => exact execHeadSplice_time h
  | serviceTableGrant => exact execServiceTableGrant_time h
  | storeCountsGrant => exact execStoreCountsGrant_time h
  | checkTake => exact execCheckTake_time h
  | classLookup a => exact execClassLookup_time h
  | pairTest a => exact execPairTest_time h
  | hoursVerdict => exact execHoursVerdict_time h
  | sweepEntryRead => exact execSweepEntryRead_time h
  | recheckContextRead => exact execRecheckContextRead_time h
  | _ => cases hi

/-! ### The minute count (R94) -/

namespace State

variable (s : State)

theorem minuteEnds_minutes : s.time.minutes ≤ s.minuteEnds.time.minutes := by
  rw [minuteEnds_eq, setTime_time]
  unfold TimeBase.ended
  dsimp only
  split <;> omega

theorem pulse_minutes : s.time.minutes ≤ s.pulse.time.minutes := by
  unfold pulse
  split
  · split
    · exact s.minuteEnds_minutes
    · rw [setTime_time]
      unfold TimeBase.counts
      split <;> exact le_rfl
  · exact le_rfl

/-- An item keeps the minute count from falling where its block does. -/
theorem takeItem_minutes {h : Head} {i : Instr} {f : State → State}
    (hf : (s.begin h i).time.minutes ≤ (f (s.begin h i)).time.minutes) :
    s.time.minutes ≤ (s.takeItem h i f).time.minutes := by
  unfold takeItem
  split
  · split
    · simp
    · simpa using hf
  · exact le_rfl

/-- SET_TIME writes the count of an UNSET clock alone, where it is 0 (R96, R97). -/
theorem onSetTime_minutes (hc : ClockSound s.time) (l : LinkNo) (minute seconds : Nat) :
    s.time.minutes ≤ (s.onSetTime l minute seconds).time.minutes := by
  unfold onSetTime
  split
  · simp
  · split
    · simp
    · next hset => simp [(hc.unset (by simpa using hset)).1]

theorem onAdjustTime_minutes (l : LinkNo) (offset : Int) :
    (s.onAdjustTime l offset).time.minutes = s.time.minutes := by
  unfold onAdjustTime; split <;> simp

theorem reset209_minutes : s.reset209.time.minutes = s.time.minutes := by rw [reset209_time]

end State

section
variable {s t : State}

theorem execMinuteEnd_minutes (h : execMinuteEnd s = .next t) : s.time.minutes ≤ t.time.minutes := by
  obtain rfl := Host.Outcome.next.inj h
  split
  · exact s.minuteEnds_minutes
  · exact le_rfl

theorem execMinuteEvent_minutes (h : execMinuteEvent s = .next t) : t.time.minutes = s.time.minutes := by
  obtain rfl := Host.Outcome.next.inj h
  split
  · rw [State.minuteEvent_time]; rfl
  · rfl

theorem execReplySent_minutes {l : LinkNo} (h : execReplySent l s = .next t) : t.time.minutes = s.time.minutes := by
  obtain rfl := Host.Outcome.next.inj h
  split
  · exact s.reset209_minutes
  · rfl
  · rfl

theorem execLineReset_minutes {cause : ResetCause} {straps : Straps} (h : execLineReset cause straps s = .next t) :
    t.time.minutes = s.time.minutes := by
  obtain rfl := Host.Outcome.next.inj h
  cases cause with
  | rstReleased =>
    dsimp only
    split
    · rfl
    · split
      · exact State.reset209_minutes _
      · rfl
  | mainReturns =>
    dsimp only
    split
    · rfl
    · split
      · rfl
      · exact State.reset209_minutes _

theorem execMainSupplyLoss_minutes (h : execMainSupplyLoss s = .next t) : t.time.minutes = s.time.minutes := by
  obtain rfl := Host.Outcome.next.inj h
  split <;> rfl

end

/-- No command but a cold start and the loss of the retained memory lowers the minute count. -/
theorem exec_minutes {c : Instr} {s t : State} (hc : ClockSound s.time) (hcold : ∀ a b, c ≠ .coldStart a b)
    (hlost : c ≠ .backupSupplyLoss) (h : exec c s = .next t) : s.time.minutes ≤ t.time.minutes := by
  cases hm : Instr.movesClock c with
  | false => rw [exec_time hm h]
  | true =>
    cases c with
    | setTime hd m n =>
      cases h
      exact s.takeItem_minutes (State.onSetTime_minutes _ (by rwa [State.begin_time]) _ _ _)
    | adjustTime hd n => cases h; exact s.takeItem_minutes (State.onAdjustTime_minutes _ _ _).ge
    | tbasePulse => cases h; exact s.pulse_minutes
    | minuteEnd => exact execMinuteEnd_minutes h
    | minuteEvent => exact (execMinuteEvent_minutes h).ge
    | replySent l => exact (execReplySent_minutes h).ge
    | lineReset cause straps => exact (execLineReset_minutes h).ge
    | mainSupplyLoss => exact (execMainSupplyLoss_minutes h).ge
    | coldStart a b => exact absurd rfl (hcold a b)
    | backupSupplyLoss => exact absurd rfl hlost
    | _ => cases hm

/-- Settles O17: a minute's pulses are those that its slew left to it (`State.minute_after_end`), and no command but the
two excepted lowers the count (`exec_minutes`). -/
theorem minutesRunForward : Obligations.MinutesRunForward :=
  ⟨fun _ hp he hm => State.minute_after_end hp he hm, fun _ _ _ hc hcold hlost h => exec_minutes hc hcold hlost h⟩

end Sys2Proof.Machine
end

section
/-! PROOFS. RULES_LOAD (O20): the rule set that it stores, and the item as it is answered. -/

namespace Sys2Proof.Machine

/-! ### An item that changes and reports the state (R72, R106, R109) -/

@[simp] theorem State.begin_cc (s : State) (h : Head) (i : Instr) : (s.begin h i).cc = s.cc := by
  rw [State.begin_eq]; rfl

/-- An item whose update reads and changes no link is answered after the update is reported to the DCU. -/
theorem answered_reported {s : State} {h : Head} {i : Instr} (ht : Taken s h i) {f : State → State}
    (hf : ∀ k, f (s.setLinks k) = (f s).setLinks k) (hl : (f s).links = s.links) (w : Option VisitNo) (c : Code)
    (d : List Byte) :
    Answered ((f s).report w) (((f (s.begin h i)).report w).answer h.link c d) h i c d := by
  obtain ⟨e, he⟩ := taken_executing ht
  have executing : ((f s).report w).executing h.link = some e :=
    ((Undisturbed.report (f s) w).executing h.link).trans
      ((congrArg Link.executing (State.link_congr hl h.link)).trans he)
  rw [State.begin_update hf hl, report_begin]
  exact State.answered_begin executing c d

/-! ### RULES_LOAD (R108, R109) -/

/-- R108: the item's outcome says whether the rule set stored is the one it carried. -/
theorem doneOr_ne {α : Type} [DecidableEq α] (stored carried : α) :
    State.doneOr (decide (stored ≠ carried)) = if stored = carried then .done else .doneClamped := by
  by_cases h : stored = carried
  · rw [if_pos h, decide_eq_false (not_not.2 h)]; rfl
  · rw [if_neg h, decide_eq_true h]; rfl

theorem onRulesLoad_eq (s : State) (l : LinkNo) (r : RuleSet) : s.onRulesLoad l r =
    if s.cc.locked then s.refuse l .locked
    else ((s.withRules (clampRules r)).report none).answer l (if clampRules r = r then .done else .doneClamped)
      (rulesBytes (clampRules r)) := by
  rw [← doneOr_ne]; rfl

/-- Settles O20: under LOCKED nothing is stored; else the clamped rule set and the capped credits are
(`State.withRules`), reported and answered (`answered_reported`). -/
theorem rulesLoadStoresClampedRules : Obligations.RulesLoadStoresClampedRules := by
  intro h r s ht
  refine ⟨_, congrArg Host.Outcome.next (State.takeItem_taken _ ht), ?_⟩
  rw [onRulesLoad_eq, State.begin_cc]
  split
  · exact answered_unchanged ht _ _
  · exact answered_reported (f := fun u => u.withRules (clampRules r)) ht (fun _ => rfl) rfl none _ _

end Sys2Proof.Machine
end

section
/-! PROOFS. The admission of a driver (O35): the entry as declared and as floored, the entry that a card is admitted
into, and what an admission writes. -/

namespace Sys2Proof.Machine

/-! ### What a declaration becomes (R111 to R113) -/

/-- The entry under an open span with floors (R112). -/
theorem admission_floored (r : RuleSet) (n : Nat) (v : VisitNo) (card : Nat) (f : Figures) {d : Driver} {w : Floors}
    (hw : d.floors = some w) (hs : n - d.spanStart < r.lSpan) :
    admission r n v card f (some d) =
      let g := (clampFigures r f).1
      let start := min (n - g.u) d.spanStart
      ⟨{ card, activity := .duty, day := max g.day w.day, cont := max g.cont w.cont, week := max g.week w.week
         spanStart := start, credit := g.c, breakStart := none, lastDeparture := d.lastDeparture, floors := some w
         linked := some v }, (clampFigures r f).2,
        decide (g.day < w.day) || decide (g.cont < w.cont) || decide (g.week < w.week) ||
          decide (start < n - g.u)⟩ := by
  unfold admission
  simp only [hw, if_pos hs]
  rfl

/-- The entry where no floor is in force: the declaration stands as clamped (R111, R113). -/
theorem admission_declared (r : RuleSet) (n : Nat) (v : VisitNo) (card : Nat) (f : Figures) {old : Option Driver}
    (ho : ∀ d w, old = some d → d.floors = some w → r.lSpan ≤ n - d.spanStart) :
    admission r n v card f old =
      let g := (clampFigures r f).1
      ⟨{ card, activity := .duty, day := g.day, cont := g.cont, week := g.week, spanStart := n - g.u, credit := g.c
         breakStart := none, lastDeparture := old.bind Driver.lastDeparture, floors := none, linked := some v },
        (clampFigures r f).2, false⟩ := by
  unfold admission
  cases old with
  | none => rfl
  | some d =>
    cases hw : d.floors with
    | none => simp only [hw]
    | some w => simp only [hw, if_neg (not_lt.2 (ho d w rfl hw))]

/-- An entry is admitted either over floors in force or as declared (R112). -/
theorem floors_in_force_or (r : RuleSet) (n : Nat) (old : Option Driver) :
    (∃ d w, old = some d ∧ d.floors = some w ∧ n - d.spanStart < r.lSpan) ∨
      ∀ d w, old = some d → d.floors = some w → r.lSpan ≤ n - d.spanStart := by
  by_cases h : ∃ d w, old = some d ∧ d.floors = some w ∧ n - d.spanStart < r.lSpan
  · exact .inl h
  · exact .inr fun d w hd hw => not_lt.1 fun hs => h ⟨d, w, hd, hw, hs⟩

/-! ### The earliest departure (R114) -/

/-- The last departure of an entry as `earliest` reads it. -/
def State.departed (s : State) (e : EntryNo) : Nat := ((s.driver e).bind Driver.lastDeparture).getD 0

theorem State.departed_eq {s : State} {e : EntryNo} {d : Driver} {m : Nat} (hd : s.driver e = some d)
    (hm : d.lastDeparture = some m) : s.departed e = m := by
  simp [State.departed, hd, hm]

/-- An entry is taken before another: by its departure, by its number on a tie (R114). -/
def State.Before (s : State) (e f : EntryNo) : Prop :=
  s.departed e < s.departed f ∨ (s.departed e = s.departed f ∧ e ≤ f)

theorem State.Before.antisymm {s : State} {e f : EntryNo} (h : s.Before e f) (k : s.Before f e) : e = f := by
  rcases h with h | ⟨h, he⟩ <;> rcases k with k | ⟨k, hf⟩
  · omega
  · omega
  · omega
  · exact le_antisymm he hf

theorem State.earliest_cons (s : State) (e : EntryNo) (es : List EntryNo) : s.earliest (e :: es) =
    match s.earliest es with
    | none => some e
    | some f => if s.departed e ≤ s.departed f then some e else some f := rfl

theorem State.earliest_none {s : State} {es : List EntryNo} (h : s.earliest es = none) : es = [] := by
  cases es with
  | nil => rfl
  | cons e es =>
    rw [State.earliest_cons] at h
    split at h
    · cases h
    · split at h <;> cases h

/-- Of a list in ascending order, `earliest` answers a member that is before every other. -/
theorem State.earliest_before {s : State} {es : List EntryNo} (hs : es.Pairwise (· < ·)) {e : EntryNo}
    (h : s.earliest es = some e) : e ∈ es ∧ ∀ f ∈ es, s.Before e f := by
  induction es generalizing e with
  | nil => cases h
  | cons x es ih =>
    obtain ⟨hx, hes⟩ := List.pairwise_cons.1 hs
    rw [State.earliest_cons] at h
    split at h
    · next hn =>
      cases h
      rw [State.earliest_none hn]
      exact ⟨List.mem_singleton_self x, fun f hf => .inr (by rw [List.mem_singleton.1 hf]; exact ⟨rfl, le_refl x⟩)⟩
    · next g hg =>
      obtain ⟨hmem, hbefore⟩ := ih hes hg
      split at h
      · next hle =>
        cases h
        refine ⟨List.mem_cons_self, fun f hf => ?_⟩
        rcases List.mem_cons.1 hf with rfl | hf
        · exact .inr ⟨rfl, le_refl f⟩
        · have hlt := hx f hf
          rcases hbefore f hf with hb | ⟨hb, _⟩
          · exact .inl (by omega)
          · by_cases heq : s.departed x = s.departed f
            · exact .inr ⟨heq, hlt.le⟩
            · exact .inl (by omega)
      · next hle =>
        cases h
        refine ⟨List.mem_cons_of_mem _ hmem, fun f hf => ?_⟩
        rcases List.mem_cons.1 hf with rfl | hf
        · exact .inl (by omega)
        · exact hbefore f hf

theorem State.earliest_iff {s : State} {es : List EntryNo} (hs : es.Pairwise (· < ·)) (e : EntryNo) :
    s.earliest es = some e ↔ e ∈ es ∧ ∀ f ∈ es, s.Before e f := by
  refine ⟨State.earliest_before hs, fun ⟨he, hb⟩ => ?_⟩
  cases hf : s.earliest es with
  | none => rw [State.earliest_none hf] at he; cases he
  | some f =>
    obtain ⟨hmem, hbefore⟩ := State.earliest_before hs hf
    rw [(hbefore e he).antisymm (hb f hmem)]

/-! ### The entry that a card is admitted into (R110, R114) -/

section
variable {s : State} {w : ArriveWork} {cards : List Nat} {card : Nat}

/-- R110: an entry is reclaimable now, or check 7 of the same ARRIVE found it so. -/
def reclaimableAt (s : State) (w : ArriveWork) (cards : List Nat) : Option Driver → Bool
  | none => false
  | some d => d.reclaimable s.rules.reclaim s.now cards || d.reclaimable w.reclaim w.minute cards

theorem Driver.reclaimable_iff (d : Driver) (age n : Nat) : d.reclaimable age n cards = true ↔
    d.activity = .absent ∧ d.card ∉ cards ∧ ∃ m, d.lastDeparture = some m ∧ age ≤ n - m := by
  unfold Driver.reclaimable
  cases d.lastDeparture <;> simp [and_assoc, and_comm]

theorem reclaimableAt_iff (x : Option Driver) : reclaimableAt s w cards x = true ↔
    ∃ d m, x = some d ∧ d.activity = .absent ∧ d.card ∉ cards ∧ d.lastDeparture = some m ∧
      (s.rules.reclaim ≤ s.time.minutes - m ∨ w.reclaim ≤ w.minute - m) := by
  cases x with
  | none => simp [reclaimableAt]
  | some d =>
    simp only [reclaimableAt, Bool.or_eq_true, Driver.reclaimable_iff, State.now]
    constructor
    · rintro (⟨ha, hc, m, hm, hr⟩ | ⟨ha, hc, m, hm, hr⟩)
      · exact ⟨d, m, rfl, ha, hc, hm, .inl hr⟩
      · exact ⟨d, m, rfl, ha, hc, hm, .inr hr⟩
    · rintro ⟨d, m, ⟨⟩, ha, hc, hm, hr | hr⟩
      · exact .inl ⟨ha, hc, m, hm, hr⟩
      · exact .inr ⟨ha, hc, m, hm, hr⟩

theorem mem_entriesWhere {p : Option Driver → Bool} {e : EntryNo} :
    e ∈ s.entriesWhere p ↔ p (s.driver e) = true := by
  simp [State.entriesWhere]

theorem entriesWhere_ascending (s : State) (p : Option Driver → Bool) :
    (s.entriesWhere p).Pairwise (· < ·) := (List.pairwise_lt_finRange 256).filter _

theorem entryFor_own {e : EntryNo} (h : s.entryOf card = some e) : s.entryFor w cards card = some e := by
  unfold State.entryFor
  rw [h]

/-- R114: the lowest-numbered empty entry. -/
theorem entryFor_empty {e : EntryNo} (h : s.entryOf card = none) (he : s.driver e = none)
    (hlow : ∀ f < e, s.driver f ≠ none) : s.entryFor w cards card = some e := by
  have hmem : e ∈ s.entriesWhere Option.isNone := mem_entriesWhere.2 (by rw [he]; rfl)
  have ascending := entriesWhere_ascending s Option.isNone
  unfold State.entryFor
  rw [h]
  cases hl : s.entriesWhere Option.isNone with
  | nil => rw [hl] at hmem; cases hmem
  | cons x xs =>
    have hx : s.driver x = none :=
      Option.isNone_iff_eq_none.1 (mem_entriesWhere.1 (hl ▸ List.mem_cons_self : x ∈ s.entriesWhere Option.isNone))
    rw [hl] at hmem ascending
    rcases List.mem_cons.1 hmem with rfl | hin
    · rfl
    · exact absurd hx (hlow x ((List.pairwise_cons.1 ascending).1 e hin))

/-- Where no entry is empty, the reclaimable one that departed first (R114). -/
theorem entryFor_full (h : s.entryOf card = none) (hfull : ∀ e, s.driver e ≠ none) :
    s.entryFor w cards card = s.earliest (s.entriesWhere (reclaimableAt s w cards)) := by
  have none_empty : s.entriesWhere Option.isNone = [] :=
    List.eq_nil_iff_forall_not_mem.2 fun e he => hfull e (Option.isNone_iff_eq_none.1 (mem_entriesWhere.1 he))
  unfold State.entryFor
  rw [h, none_empty]
  rfl

/-- An admission over an entry is over its figures only where it held the same card (R113). -/
theorem admitDriver_at {v : VisitNo} {f : Figures} {e : EntryNo} {old : Option Driver}
    (he : s.entryFor w cards card = some e) (ho : ∀ d, old = some d ↔ s.driver e = some d ∧ d.card = card) :
    s.admitDriver w cards v card f =
      let a := admission s.rules s.time.minutes v card f old
      (s.setDriver e (some a.entry), some (e, a)) := by
  have hold : (s.driver e).filter (fun d => d.card == card) = old :=
    Option.ext fun d => by rw [Option.filter_eq_some_iff, ho, beq_iff_eq]
  unfold State.admitDriver
  rw [he]
  simp only [hold]
  rfl

theorem admitDriver_none {v : VisitNo} {f : Figures} (he : s.entryFor w cards card = none) :
    s.admitDriver w cards v card f = (s, none) := by
  unfold State.admitDriver
  rw [he]

end

/-- Settles O35: the two forms of an admission (`admission_floored`, `admission_declared`), the three choices of an
entry (`entryFor_own`, `entryFor_empty`, `entryFor_full` with `State.earliest_iff`), and the one entry written
(`admitDriver_at`). -/
theorem admissionsFloorAndFindEntries : Obligations.AdmissionsFloorAndFindEntries := by
  refine ⟨fun r n v card f old => ?declaration, fun s w cards card => ⟨fun e => entryFor_own, fun h =>
    ⟨fun e => entryFor_empty h, fun hfull e => ?reclaimed⟩⟩, fun s w cards v card f =>
    ⟨admitDriver_none, fun e old he ho => ?admitted⟩⟩
  case declaration =>
    have clamped : (clampFigures r f).2 = true ↔ f ≠ (clampFigures r f).1 := by
      simp only [clampFigures, decide_eq_true_eq]
      exact ne_comm
    rcases floors_in_force_or r n old with ⟨d, w, rfl, hw, hs⟩ | ho
    · rw [admission_floored r n v card f hw hs]
      refine ⟨rfl, rfl, rfl, rfl, rfl, rfl, clamped, ?_, fun h => absurd (h d w rfl hw) (not_le.2 hs)⟩
      intro d' w' hd hw' _
      cases hd
      cases hw.symm.trans hw'
      refine ⟨rfl, rfl, rfl, rfl, rfl, ?_⟩
      simp only [Bool.or_eq_true, decide_eq_true_eq, or_assoc, inf_lt_left, not_le]
      rfl
    · rw [admission_declared r n v card f ho]
      exact ⟨rfl, rfl, rfl, rfl, rfl, rfl, clamped, fun d w hd hw hs => absurd (ho d w hd hw) (not_le.2 hs),
        fun _ => ⟨rfl, rfl, rfl, rfl, rfl, rfl⟩⟩
  case reclaimed =>
    rw [entryFor_full h hfull, State.earliest_iff (entriesWhere_ascending _ _)]
    simp only [mem_entriesWhere, reclaimableAt_iff]
    constructor
    · rintro ⟨⟨d, m, hd, hr⟩, hb⟩
      refine ⟨d, m, hd, hr, fun f g k hg hk => ?_⟩
      have before := hb f ⟨g, k, hg, hk⟩
      rwa [State.Before, State.departed_eq hd hr.2.2.1, State.departed_eq hg hk.2.2.1] at before
    · rintro ⟨d, m, hd, hr, hb⟩
      refine ⟨⟨d, m, hd, hr⟩, fun f ⟨g, k, hg, hk⟩ => ?_⟩
      rw [State.Before, State.departed_eq hd hr.2.2.1, State.departed_eq hg hk.2.2.1]
      exact hb f g k hg hk
  case admitted =>
    rw [admitDriver_at he ho]
    exact ⟨rfl, rfl, State.driver_setDriver_self _ _ _, fun g hg => by
      rw [State.driver_setDriver, if_neg (Ne.symm hg)]⟩

end Sys2Proof.Machine
end

section
/-! PROOFS. BREAK_START and BREAK_END (O36). -/

namespace Sys2Proof.Machine

/-! ### The driver table beside an item just taken -/

section
variable (s : State) (h : Head) (i : Instr)

@[simp] theorem State.begin_rules : (s.begin h i).rules = s.rules := by
  rw [State.begin_eq]; rfl

@[simp] theorem State.begin_driver (e : EntryNo) : (s.begin h i).driver e = s.driver e := by
  rw [State.begin_eq]; rfl

@[simp] theorem State.begin_entryOf (card : Nat) : (s.begin h i).entryOf card = s.entryOf card := by
  rw [State.begin_eq]; rfl

end

/-! ### The end of a break (R117) -/

theorem Driver.endBreak_onBreak {d : Driver} {r : RuleSet} {n m : Nat} (ha : d.activity = .onBreak)
    (hm : d.breakStart = some m) :
    d.endBreak r n = { d.applyBreak r n (n - m) with activity := .duty, breakStart := none } := by
  rw [Driver.endBreak, if_pos ha, Driver.breakLength, hm]
  rfl

theorem Driver.endBreak_linked (d : Driver) (r : RuleSet) (n : Nat) : (d.endBreak r n).linked = d.linked := by
  unfold Driver.endBreak Driver.applyBreak
  split
  · split <;> rfl
  · rfl

/-- The case of a break of a length and the entry after it, by the order of R117. -/
def Driver.ended (d : Driver) (r : RuleSet) (n len : Nat) : BreakCase × Driver :=
  let back : Driver := { d with activity := .duty, breakStart := none }
  if r.r ≤ len then
    (.rest, { back with day := 0, cont := 0, credit := 0, spanStart := n, floors := none })
  else if r.f ≤ len ∧ r.b ≤ d.credit + len then (.qualifying, { back with cont := 0, credit := 0 })
  else if r.f ≤ len then (.fragment, { back with credit := d.credit + len })
  else (.tooShort, back)

theorem Driver.ended_eq (d : Driver) (r : RuleSet) (n len : Nat) : d.ended r n len =
    (breakCase r d.credit len, { d.applyBreak r n len with activity := .duty, breakStart := none }) := by
  unfold Driver.ended Driver.applyBreak breakCase
  split_ifs <;> rfl

/-! ### The items of a break (R116, R117) -/

section
variable {s : State} {h : Head} {i : Instr} {card : Nat} {f : EntryNo → Driver → State} {e : EntryNo} {d : Driver}

theorem atCard_malformed (ht : Taken s h i) (hc : card = 0) :
    Answered s ((s.begin h i).atCard h.link card f) h i .malformed [] := by
  rw [State.atCard, if_pos hc]
  exact answered_unchanged ht _ _

theorem atCard_unheld (ht : Taken s h i) (hc : card ≠ 0) (hn : s.entryOf card = none) :
    Answered s ((s.begin h i).atCard h.link card f) h i .state [] := by
  simp only [State.atCard, if_neg hc, State.begin_entryOf, hn]
  exact answered_unchanged ht _ _

theorem atCard_absent (ht : Taken s h i) (hc : card ≠ 0) (hs : s.entryOf card = some e) (hd : s.driver e = some d)
    (ha : d.activity = .absent) : Answered s ((s.begin h i).atCard h.link card f) h i .state [] := by
  simp only [State.atCard, if_neg hc, State.begin_entryOf, hs, State.begin_driver, hd, if_pos ha]
  exact answered_unchanged ht _ _

/-- The item goes on with an entry on site. -/
theorem atCard_onSite (hc : card ≠ 0) (hs : s.entryOf card = some e) (hd : s.driver e = some d)
    (ha : d.activity ≠ .absent) : (s.begin h i).atCard h.link card f = f e d := by
  simp only [State.atCard, if_neg hc, State.begin_entryOf, hs, State.begin_driver, hd, if_neg ha]

end

/-- An entry changed by a break item, reported with its visit, beside the item's answer (R106, R119). -/
theorem breakItem_answered {s : State} {h : Head} {i : Instr} (ht : Taken s h i) (e : EntryNo) {d : Driver}
    {v : VisitNo} (hv : d.linked = some v) (c : Code) (b : List Byte) :
    Answered ((s.setDriver e (some d)).report (some v)) (((s.begin h i).breakItem e d).answer h.link c b) h i c b := by
  simp only [State.breakItem, hv]
  exact answered_reported (f := fun u => u.setDriver e (some d)) ht (fun _ => rfl) rfl _ _ _

section
variable {s : State} {h : Head} {card : Nat} {e : EntryNo} {d : Driver} {v : VisitNo}

/-- BREAK_START of a driver in DUTY (R116). -/
theorem breakStart_starts (ht : Taken s h (.breakStart h card)) (hc : card ≠ 0) (hs : s.entryOf card = some e)
    (hd : s.driver e = some d) (ha : d.activity = .duty) (hv : d.linked = some v) :
    Answered ((s.setDriver e (some { d with activity := .onBreak, breakStart := some s.time.minutes })).report (some v))
      ((s.begin h (.breakStart h card)).onBreakStart h.link card) h (.breakStart h card) .done
      (put32 s.time.minutes) := by
  rw [State.onBreakStart, atCard_onSite hc hs hd (by rw [ha]; decide), if_neg (by rw [ha]; decide), State.now,
    State.begin_time]
  exact breakItem_answered ht e (d := { d with activity := .onBreak, breakStart := some s.time.minutes }) hv _ _

/-- BREAK_END of a driver in BREAK (R117). -/
theorem breakEnd_ends {m : Nat} (ht : Taken s h (.breakEnd h card)) (hc : card ≠ 0) (hs : s.entryOf card = some e)
    (hd : s.driver e = some d) (ha : d.activity = .onBreak) (hv : d.linked = some v) (hm : d.breakStart = some m) :
    let len := s.time.minutes - m
    let x := d.ended s.rules s.time.minutes len
    Answered ((s.setDriver e (some x.2)).report (some v))
      ((s.begin h (.breakEnd h card)).onBreakEnd h.link card) h (.breakEnd h card) .done
      (put8 x.1.value ++ put32 len ++ figureBytes x.2) := by
  have length : d.breakLength s.time.minutes = s.time.minutes - m := by rw [Driver.breakLength, hm]; rfl
  rw [State.onBreakEnd, atCard_onSite hc hs hd (by rw [ha]; decide), if_pos ha]
  simp only [Driver.ended_eq, ← Driver.endBreak_onBreak ha hm, State.now, State.begin_time, State.begin_rules, length]
  exact breakItem_answered ht e ((Driver.endBreak_linked d s.rules s.time.minutes).trans hv) _ _

end

/-- Settles O36: the refusals of both items (`atCard_malformed`, `atCard_unheld`, `atCard_absent`), the answers that
change nothing, and the entry that each writes (`breakStart_starts`, `breakEnd_ends`). -/
theorem breakItems : Obligations.BreakItems := by
  refine ⟨fun h card s ht => ⟨_, congrArg Host.Outcome.next (State.takeItem_taken _ ht), atCard_malformed ht,
      atCard_unheld ht, fun e d hc hs hd => ⟨atCard_absent ht hc hs hd, fun ha => ?onBreak,
        fun v ha hv => breakStart_starts ht hc hs hd ha hv⟩⟩,
    fun h card s ht => ⟨_, congrArg Host.Outcome.next (State.takeItem_taken _ ht), atCard_malformed ht,
      atCard_unheld ht, fun e d hc hs hd => ⟨atCard_absent ht hc hs hd, fun ha => ?onDuty,
        fun v m ha hv hm => breakEnd_ends ht hc hs hd ha hv hm⟩⟩⟩
  case onBreak =>
    rw [State.onBreakStart, atCard_onSite hc hs hd (by rw [ha]; decide), if_pos ha]
    exact answered_unchanged ht _ _
  case onDuty =>
    rw [State.onBreakEnd, atCard_onSite hc hs hd (by rw [ha]; decide), if_neg (by rw [ha]; decide)]
    exact answered_unchanged ht _ _

end Sys2Proof.Machine
end

section
/-! PROOFS. The commit of a trip, and the release of an aborted visit's drivers (O37). -/

namespace Sys2Proof.Machine

/-! ### The figures after a trip (R121, R122) -/

/-- The road breaks of a solo trip past the limit, and the drive that it leaves after the last of them (R121). -/
theorem roadBreaks_beyond {r : RuleSet} {cont p : Nat} (hl : 0 < r.lCont) (hp : r.lCont < cont + p) :
    ∃ j leg, roadBreaks r p ((r.lCont : Int) - cont) = j + 1 ∧ 1 ≤ leg ∧ leg ≤ r.lCont ∧
      leg + (j + 1) * r.lCont = cont + p := by
  obtain ⟨a, ha⟩ : ∃ a, cont + p = r.lCont + (a + 1) := ⟨cont + p - r.lCont - 1, by omega⟩
  have excess : ((p : Int) - ((r.lCont : Int) - cont)).toNat = a + 1 := by omega
  refine ⟨a / r.lCont, a % r.lCont + 1, ?_, by omega, Nat.mod_lt a hl, ?_⟩
  · rw [roadBreaks, if_neg (by omega), excess, ceilDiv, ← Nat.add_div_right a hl]
    congr 1
    omega
  · have division := Nat.mod_add_div' a r.lCont
    rw [Nat.add_mul, Nat.one_mul]
    omega

section
variable {d : Driver} {r : RuleSet} {p : Nat}

/-- R121: a trip within the limit takes no break on the road. -/
theorem Driver.commitSolo_within (hl : r.lCont ≤ 600) (hp : d.cont + p ≤ r.lCont) :
    (d.commitSolo r p).cont = d.cont + p ∧ (d.commitSolo r p).credit = d.credit := by
  have none_due : roadBreaks r p ((r.lCont : Int) - d.cont) = 0 := if_pos (by omega)
  simp only [Driver.commitSolo, none_due, if_true]
  exact ⟨min_eq_left (by omega), trivial⟩

/-- R121: a trip past the limit leaves the drive after its last break on the road, and no credit. -/
theorem Driver.commitSolo_beyond (hl : 0 < r.lCont) (hp : r.lCont < d.cont + p) :
    1 ≤ (d.commitSolo r p).cont ∧ (d.commitSolo r p).cont ≤ r.lCont ∧ (d.commitSolo r p).credit = 0 ∧
      ∃ k, (d.commitSolo r p).cont + (k + 1) * r.lCont = d.cont + p := by
  obtain ⟨j, leg, hj, hone, hle, hsum⟩ := roadBreaks_beyond hl hp
  have left : ((p : Int) - ((r.lCont : Int) - d.cont) - (((j + 1 : Nat) : Int) - 1) * r.lCont).toNat = leg := by
    have hsum' : (leg : Int) + ((j : Int) + 1) * r.lCont = d.cont + p := by exact_mod_cast hsum
    have : (p : Int) - ((r.lCont : Int) - d.cont) - (((j + 1 : Nat) : Int) - 1) * r.lCont = leg := by
      push_cast
      linarith
    rw [this, Int.toNat_natCast]
  have cont : (d.commitSolo r p).cont = leg := by
    simp only [Driver.commitSolo, hj, if_neg (Nat.succ_ne_zero j), left]
  have credit : (d.commitSolo r p).credit = 0 := by
    simp only [Driver.commitSolo, hj, if_neg (Nat.succ_ne_zero j)]
  rw [cont]
  exact ⟨hone, hle, credit, j, hsum⟩

end

/-! ### The drivers of a visit (R123, R124) -/

/-- No card is held twice (R105). -/
def CardsUnique (s : State) : Prop :=
  ∀ e f d g, s.driver e = some d → s.driver f = some g → d.card = g.card → e = f

/-- The change that `changeLinked` makes for one card: to the entry that holds it, where that is linked to the visit. -/
def changeHolder (s : State) (v : VisitNo) (f : Driver → Driver) (card : Nat) : State :=
  match s.entryOf card with
  | none => s
  | some e =>
      match s.driver e with
      | some d => if d.linked = some v then s.setDriver e (some (f d)) else s
      | none => s

theorem changeLinked_cons (s : State) (v : VisitNo) (f : Driver → Driver) (card : Nat) (cards : List Nat) :
    s.changeLinked v f (card :: cards) = (changeHolder s v f card).changeLinked v f cards := rfl

/-- A driver after a change of those linked to a visit that hold one of some cards. -/
def changedIf (v : VisitNo) (f : Driver → Driver) (cards : List Nat) (d : Driver) : Driver :=
  if d.linked = some v ∧ d.card ∈ cards then f d else d

section
variable {s : State} {v : VisitNo} {f : Driver → Driver}

theorem map_changedIf_of_not {cards : List Nat} {x : Option Driver}
    (h : ∀ d, x = some d → ¬ (d.linked = some v ∧ d.card ∈ cards)) : x.map (changedIf v f cards) = x := by
  cases x with
  | none => rfl
  | some d => rw [Option.map_some, changedIf, if_neg (h d rfl)]

theorem changeHolder_driver (hu : CardsUnique s) (card : Nat) (e : EntryNo) :
    (changeHolder s v f card).driver e = (s.driver e).map (changedIf v f [card]) := by
  cases hs : s.entryOf card with
  | none =>
    have same : changeHolder s v f card = s := by simp only [changeHolder, hs]
    rw [same]
    exact (map_changedIf_of_not fun d hd hc => entryOf_none hs hd (List.mem_singleton.1 hc.2)).symm
  | some x =>
    obtain ⟨g, hg, hgc⟩ := entryOf_some hs
    have change : changeHolder s v f card = if g.linked = some v then s.setDriver x (some (f g)) else s := by
      simp only [changeHolder, hs, hg]
    by_cases hx : x = e
    · subst hx
      rw [hg, change, Option.map_some, changedIf, hgc]
      by_cases hl : g.linked = some v
      · rw [if_pos hl, if_pos ⟨hl, List.mem_singleton_self card⟩, State.driver_setDriver_self]
      · rw [if_neg hl, if_neg fun h => hl h.1, hg]
    · have kept : (changeHolder s v f card).driver e = s.driver e := by
        rw [change]
        split
        · rw [State.driver_setDriver, if_neg hx]
        · rfl
      rw [kept]
      exact (map_changedIf_of_not fun d hd hc =>
        hx (hu x e g d hg hd (hgc.trans (List.mem_singleton.1 hc.2).symm))).symm

theorem changedIf_card (hf : ∀ d, (f d).card = d.card) (cards : List Nat) (d : Driver) :
    (changedIf v f cards d).card = d.card := by
  unfold changedIf
  split
  · exact hf d
  · rfl

theorem changedIf_cons (hf : ∀ d, (f d).card = d.card) {card : Nat} {cards : List Nat} (hc : card ∉ cards)
    (d : Driver) : changedIf v f cards (changedIf v f [card] d) = changedIf v f (card :: cards) d := by
  by_cases hd : d.linked = some v ∧ d.card = card
  · have first : changedIf v f [card] d = f d := if_pos ⟨hd.1, List.mem_singleton.2 hd.2⟩
    have both : changedIf v f (card :: cards) d = f d := if_pos ⟨hd.1, List.mem_cons.2 (.inl hd.2)⟩
    rw [first, both, changedIf, if_neg fun h => hc (hd.2 ▸ hf d ▸ h.2)]
  · have first : changedIf v f [card] d = d := if_neg fun h => hd ⟨h.1, List.mem_singleton.1 h.2⟩
    have rest : (d.linked = some v ∧ d.card ∈ card :: cards) ↔ (d.linked = some v ∧ d.card ∈ cards) :=
      ⟨fun h => ⟨h.1, (List.mem_cons.1 h.2).resolve_left fun e => hd ⟨h.1, e⟩⟩,
        fun h => ⟨h.1, List.mem_cons_of_mem _ h.2⟩⟩
    rw [first]
    simp only [changedIf, rest]

theorem cardsUnique_changeHolder (hu : CardsUnique s) (hf : ∀ d, (f d).card = d.card) (card : Nat) :
    CardsUnique (changeHolder s v f card) := by
  intro e x d g hd hg hc
  rw [changeHolder_driver hu, Option.map_eq_some_iff] at hd hg
  obtain ⟨d, hd, rfl⟩ := hd
  obtain ⟨g, hg, rfl⟩ := hg
  rw [changedIf_card hf, changedIf_card hf] at hc
  exact hu e x d g hd hg hc

/-- A change of the drivers linked to a visit reaches each entry that holds one of the cards, once. -/
theorem changeLinked_driver (hf : ∀ d, (f d).card = d.card) {cards : List Nat} (hn : cards.Nodup)
    (hu : CardsUnique s) (e : EntryNo) :
    (s.changeLinked v f cards).driver e = (s.driver e).map (changedIf v f cards) := by
  induction cards generalizing s with
  | nil => exact (map_changedIf_of_not fun _ _ h => absurd h.2 List.not_mem_nil).symm
  | cons card cards ih =>
    obtain ⟨hc, hn⟩ := List.nodup_cons.1 hn
    rw [changeLinked_cons, ih hn (cardsUnique_changeHolder hu hf card), changeHolder_driver hu, Option.map_map]
    exact congrArg (fun g => Option.map g (s.driver e)) (funext (changedIf_cons hf hc))

/-- A driver that a departure or an abort of a visit concerns (R123, R124). -/
def Departs (v : VisitNo) (a : Arrival) (d : Driver) : Prop :=
  d.linked = some v ∧ (d.card = a.driver ∨ a.coDriver = some d.card)

theorem departs_iff (a : Arrival) (d : Driver) :
    Departs v a d ↔ d.linked = some v ∧ d.card ∈ a.driver :: a.coDriver.toList := by
  rw [Departs, List.mem_cons, Option.mem_toList]

/-- A change of the drivers of a visit reaches each of them, and no other entry and nothing else. -/
theorem changeLinked_departs {a : Arrival} (hs : DriversSound s) (ha : (s.visit v).arrival = some a)
    (hne : a.coDriver ≠ some a.driver) (hf : ∀ d, (f d).card = d.card) :
    let t := s.changeLinked v f (s.cardsOf v)
    t = { s with drivers := t.drivers } ∧ ∀ e,
      (∀ d, s.driver e = some d → Departs v a d → t.driver e = some (f d)) ∧
      ((∀ d, s.driver e = some d → ¬ Departs v a d) → t.driver e = s.driver e) := by
  have cards : s.cardsOf v = a.driver :: a.coDriver.toList := by simp only [State.cardsOf, ha]
  have distinct : (a.driver :: a.coDriver.toList).Nodup :=
    List.nodup_cons.2 ⟨fun h => hne (Option.mem_toList.1 h), by cases a.coDriver <;> simp⟩
  refine ⟨State.changeLinked_eq _ _ _ _, fun e => ⟨fun d hd hdep => ?_, fun hnot => ?_⟩⟩
  · rw [cards, changeLinked_driver hf distinct hs.unique, hd, Option.map_some, changedIf,
      if_pos ((departs_iff a d).1 hdep)]
  · rw [cards, changeLinked_driver hf distinct hs.unique]
    exact map_changedIf_of_not fun d hd h => hnot d hd ((departs_iff a d).2 h)

end

/-- Settles O37: the figures after a solo trip (`Driver.commitSolo_within`, `Driver.commitSolo_beyond`) and after a
crew's, and the entries that a departure or an abort changes (`changeLinked_departs`). -/
theorem tripCommits : Obligations.TripCommits := by
  refine ⟨fun d r n p crew hr hd _ => ?figures, fun s v a hs ha hne => ⟨?commits, ?releases⟩⟩
  case figures =>
    have sound := hd.depart hr n p crew
    obtain ⟨hlow, hhigh⟩ := hr.lCont
    cases crew with
    | true =>
      exact ⟨Driver.depart_card n p true, rfl, rfl, rfl, rfl, rfl, rfl, rfl, rfl, fun _ => ⟨rfl, rfl⟩, nofun, nofun,
        sound⟩
    | false =>
      exact ⟨Driver.depart_card n p false, rfl, rfl, rfl, rfl, rfl, rfl, rfl, rfl, nofun,
        fun _ hp => Driver.commitSolo_within (d := (d.endBreak r n).setFloors) hhigh hp,
        fun _ hp => Driver.commitSolo_beyond (d := (d.endBreak r n).setFloors) (by omega) hp, sound⟩
  case commits =>
    have crew : ((s.visit v).arrival.bind Arrival.coDriver).isSome = a.coDriver.isSome := by rw [ha]; rfl
    rw [← crew]
    exact changeLinked_departs hs ha hne fun d => Driver.depart_card _ _ _
  case releases => exact changeLinked_departs hs ha hne fun d => Driver.endBreak_card _

end Sys2Proof.Machine
end

section
/-! PROOFS. What binds the visits to the check queue, the bay windows and the lapse list (R47, R128, R160): when a
change keeps each of the three relations, and the rules for each update of the state. -/

namespace Sys2Proof.Machine

/-! ### When each relation is kept -/

/-- The visit under check: that of the check in flight, unless the check is abandoned (R128, R147). -/
def Dcu.underCheck (d : Dcu) : Option VisitNo :=
  d.check.bind fun c => if c.phase = .abandon then none else some c.visit

theorem underCheck_iff {d : Dcu} {v : VisitNo} :
    d.underCheck = some v ↔ ∃ c, d.check = some c ∧ c.visit = v ∧ c.phase ≠ .abandon := by
  simp only [Dcu.underCheck, Option.bind_eq_some_iff, Option.ite_none_left_eq_some, Option.some.injEq]
  exact exists_congr fun c => and_congr_right fun _ => and_comm

theorem underCheck_some {d : Dcu} {c : Check} (hc : d.check = some c) (hp : c.phase ≠ .abandon) :
    d.underCheck = some c.visit := underCheck_iff.2 ⟨c, hc, rfl, hp⟩

theorem underCheck_abandoned {d : Dcu} {c : Check} (hc : d.check = some c) (hp : c.phase = .abandon) :
    d.underCheck = none := by
  simp [Dcu.underCheck, hc, hp]

theorem QueueSound.underCheck {s : State} (h : QueueSound s) (v : VisitNo) :
    (s.visit v).state = .checking ↔ s.dcu.underCheck = some v := (h.checking v).trans underCheck_iff.symm

/-- R128 stands where the queue is as it was and the same visits are QUEUED, and where those CHECKING go with the visit
under check. -/
theorem QueueSound.congr {s t : State} (h : QueueSound s) (hq : t.dcu.queue = s.dcu.queue)
    (hv : ∀ v, (t.visit v).state = .queued ↔ (s.visit v).state = .queued)
    (hc : ∀ v, (t.visit v).state = .checking ↔ t.dcu.underCheck = some v) : QueueSound t :=
  ⟨hq ▸ h.few, hq ▸ h.once, fun v => by rw [hq, hv]; exact h.queued v, fun v => (hc v).trans underCheck_iff⟩

/-- What a window says of its visit: its number, its tag and its compartment count (R47). -/
def Window.bound (w : Window) : VisitNo × Tag × Nat := (w.visit, w.tag, w.span)

/-- What R47 asks of a window that binds a visit. -/
def Window.Fits (b : BayIx) (x : Visit) (w : VisitNo × Tag × Nat) : Prop :=
  x.state.atBay = true ∧ x.bay = some b ∧ w.2.1 = x.tag ∧ w.2.2 = (x.arrival.map Arrival.compCount).getD 0

/-- R47, with each window by what it says of its visit. -/
theorem windowsSound_iff {s : State} : WindowsSound s ↔
    (∀ b w, (s.window b).map Window.bound = some w → Window.Fits b (s.visit w.1) w) ∧
      ∀ v, (s.visit v).state.atBay = true → ∃ b w, (s.window b).map Window.bound = some w ∧ w.1 = v := by
  constructor
  · intro h
    refine ⟨fun b w hw => ?_, fun v hv => ?_⟩
    · obtain ⟨x, hx, rfl⟩ := Option.map_eq_some_iff.1 hw
      exact h.bound b x hx
    · obtain ⟨b, w, hw, hv⟩ := h.held v hv
      exact ⟨b, w.bound, by rw [hw]; rfl, hv⟩
  · rintro ⟨hb, hh⟩
    refine ⟨fun b w hw => hb b w.bound (by rw [hw]; rfl), fun v hv => ?_⟩
    obtain ⟨b, w, hw, hv⟩ := hh v hv
    obtain ⟨x, hx, rfl⟩ := Option.map_eq_some_iff.1 hw
    exact ⟨b, x, hx, hv⟩

/-- R47 stands where the windows say what they said, and of the visits at a bay the same holds. -/
theorem WindowsSound.congr {s t : State} (h : WindowsSound s)
    (hw : ∀ b, (t.window b).map Window.bound = (s.window b).map Window.bound)
    (hv : ∀ v, (t.visit v).state.atBay = (s.visit v).state.atBay)
    (hx : ∀ v b w, Window.Fits b (s.visit v) w → Window.Fits b (t.visit v) w) : WindowsSound t := by
  rw [windowsSound_iff] at h ⊢
  refine ⟨fun b w hb => hx _ b w (h.1 b w (hw b ▸ hb)), fun v hs => ?_⟩
  obtain ⟨b, w, hb, e⟩ := h.2 v (hv v ▸ hs)
  exact ⟨b, w, (hw b).trans hb, e⟩

theorem LapsesSound.congr {s t : State} (h : LapsesSound s) (hl : t.logs.lapses = s.logs.lapses)
    (hv : ∀ v, (t.visit v).state = .lapsing ↔ (s.visit v).state = .lapsing)
    (hr : t.request .expiry = s.request .expiry) : LapsesSound t :=
  ⟨hl ▸ h.once, fun v => by rw [hl, hv]; exact h.lapsing v, by rw [hr, hl]; exact h.asked⟩

/-! ### Visits -/

/-- A visit of which the windows may say what they said. -/
structure Visit.SameBay (x y : Visit) : Prop where
  atBay : y.state.atBay = x.state.atBay
  fits  : ∀ b w, Window.Fits b x w → Window.Fits b y w

theorem Visit.SameBay.refl (x : Visit) : x.SameBay x := ⟨rfl, fun _ _ => id⟩

/-- A visit away from the bays. -/
theorem Visit.SameBay.away {x y : Visit} (hx : x.state.atBay = false) (hy : y.state.atBay = false) : x.SameBay y :=
  ⟨hy.trans hx.symm, fun b w h => by rw [Window.Fits, hx] at h; cases h.1⟩

/-- A visit of which the queue, the windows and the lapse list may say what they said. -/
structure Visit.Stands (x y : Visit) : Prop extends x.SameBay y where
  queued   : y.state = .queued ↔ x.state = .queued
  checking : y.state = .checking ↔ x.state = .checking
  lapsing  : y.state = .lapsing ↔ x.state = .lapsing

/-- The states that neither the queue nor a window nor the lapse list speaks of. -/
def VisitState.aloof : VisitState → Bool
  | .free | .arrived | .loaded | .cleared | .held | .releasing | .aborting => true
  | .assigned | .loading | .queued | .checking | .lapsing => false

theorem aloof_iff {st : VisitState} :
    st.aloof = true ↔ st ≠ .queued ∧ st ≠ .checking ∧ st ≠ .lapsing ∧ st.atBay = false := by
  cases st <;> decide

namespace Visit.Stands

variable {x y : Visit}

theorem refl (x : Visit) : x.Stands x := ⟨.refl x, .rfl, .rfl, .rfl⟩

/-- Other fields than those of R47. -/
theorem of_eq (hs : y.state = x.state) (hb : y.bay = x.bay) (ht : y.tag = x.tag) (ha : y.arrival = x.arrival) :
    x.Stands y := by
  refine ⟨⟨by rw [hs], fun b w h => ?_⟩, by rw [hs], by rw [hs], by rw [hs]⟩
  rw [Window.Fits, hs, hb, ht, ha]
  exact h

theorem of_aloof (hx : x.state.aloof = true) (hy : y.state.aloof = true) : x.Stands y := by
  obtain ⟨xq, xc, xl, xb⟩ := aloof_iff.1 hx
  obtain ⟨yq, yc, yl, yb⟩ := aloof_iff.1 hy
  exact ⟨.away xb yb, iff_of_false yq xq, iff_of_false yc xc, iff_of_false yl xl⟩

/-- An ASSIGNED visit becomes LOADING (R55). -/
theorem loading (hx : x.state = .assigned) : x.Stands { x with state := .loading } :=
  ⟨⟨by rw [hx]; rfl, fun _ _ h => ⟨rfl, h.2⟩⟩, by simp [hx], by simp [hx], by simp [hx]⟩

end Visit.Stands

/-! ### One visit changed -/

theorem QueueSound.setVisit {s : State} (h : QueueSound s) {v : VisitNo} {x : Visit}
    (hq : x.state = .queued ↔ (s.visit v).state = .queued)
    (hc : x.state = .checking ↔ (s.visit v).state = .checking) : QueueSound (s.setVisit v x) := by
  refine h.congr rfl (fun w => ?_) fun w => ?_ <;> rw [State.visit_setVisit]
  · split
    · next e => exact e ▸ hq
    · rfl
  · refine Iff.trans ?_ (h.underCheck w)
    split
    · next e => exact e ▸ hc
    · rfl

theorem WindowsSound.setVisit {s : State} (h : WindowsSound s) {v : VisitNo} {x : Visit}
    (hx : (s.visit v).SameBay x) : WindowsSound (s.setVisit v x) := by
  have same : ∀ w, (s.visit w).SameBay ((s.setVisit v x).visit w) := fun w => by
    rw [State.visit_setVisit]
    split
    · next e => exact e ▸ hx
    · exact .refl _
  exact h.congr (fun _ => rfl) (fun w => (same w).atBay) fun w => (same w).fits

theorem LapsesSound.setVisit {s : State} (h : LapsesSound s) {v : VisitNo} {x : Visit}
    (hx : x.state = .lapsing ↔ (s.visit v).state = .lapsing) : LapsesSound (s.setVisit v x) := by
  refine h.congr rfl (fun w => ?_) rfl
  rw [State.visit_setVisit]
  split
  · next e => exact e ▸ hx
  · rfl

/-! ### Bonds kept -/

/-- What a piece of a step keeps of the relations between the visits and the check queue, the bay windows and the lapse
list. -/
structure Bonds (s t : State) : Prop where
  queue   : QueueSound s → QueueSound t
  windows : WindowsSound s → WindowsSound t
  lapses  : LapsesSound s → LapsesSound t

theorem linkRequester_ne_expiry (l : LinkNo) : linkRequester l ≠ .expiry := by cases l <;> decide

namespace Bonds

variable {r s t : State}

theorem refl (s : State) : Bonds s s := ⟨id, id, id⟩

theorem trans (a : Bonds r s) (b : Bonds s t) : Bonds r t :=
  ⟨b.queue ∘ a.queue, b.windows ∘ a.windows, b.lapses ∘ a.lapses⟩

/-- Visits that stand, windows that say what they said, and one visit under check. -/
theorem of_stands (h : Bonds r s) (hv : ∀ v, (s.visit v).Stands (t.visit v))
    (hw : ∀ b, (t.window b).map Window.bound = (s.window b).map Window.bound) (hq : t.dcu.queue = s.dcu.queue)
    (hc : t.dcu.underCheck = s.dcu.underCheck) (hl : t.logs.lapses = s.logs.lapses)
    (hr : t.request .expiry = s.request .expiry) : Bonds r t :=
  h.trans ⟨fun h => h.congr hq (fun v => (hv v).queued) fun v => by rw [(hv v).checking, h.underCheck, hc],
    fun h => h.congr hw (fun v => (hv v).atBay) fun v => (hv v).fits,
    fun h => h.congr hl (fun v => (hv v).lapsing) hr⟩

/-- A change of other fields. -/
theorem of_rest (h : Bonds r s) (hv : t.visits = s.visits) (hw : t.windows = s.windows) (hd : t.dcu = s.dcu)
    (hl : t.logs.lapses = s.logs.lapses) (hr : t.request .expiry = s.request .expiry) : Bonds r t :=
  h.of_stands (fun v => State.visit_congr hv v ▸ .refl _) (fun b => by rw [State.window, hw]; rfl) (by rw [hd])
    (by rw [hd]) hl hr

/-! #### Registers and requests -/

theorem setLinks (h : Bonds r s) {x : Links} : Bonds r (s.setLinks x) := h.of_rest rfl rfl rfl rfl rfl
theorem setStore (h : Bonds r s) {x : Store} : Bonds r (s.setStore x) := h.of_rest rfl rfl rfl rfl rfl
theorem setSweep (h : Bonds r s) {x : SweepUnit} : Bonds r (s.setSweep x) := h.of_rest rfl rfl rfl rfl rfl
theorem setTime (h : Bonds r s) {x : TimeBase} : Bonds r (s.setTime x) := h.of_rest rfl rfl rfl rfl rfl
theorem setCc (h : Bonds r s) {x : Control} : Bonds r (s.setCc x) := h.of_rest rfl rfl rfl rfl rfl

theorem setLogs (h : Bonds r s) {x : LogUnit} (hx : x.lapses = s.logs.lapses) : Bonds r (s.setLogs x) :=
  h.of_rest rfl rfl rfl hx rfl

theorem setRequest (h : Bonds r s) {p : Requester} (hp : p ≠ .expiry) {q : Option Request} :
    Bonds r (s.setRequest p q) :=
  h.of_rest rfl rfl rfl rfl (by rw [State.request_setRequest, if_neg hp])

theorem present (h : Bonds r s) {p : Requester} {q : Request} (hp : p ≠ .expiry) : Bonds r (s.present p q) :=
  h.setRequest hp

theorem raise (h : Bonds r s) {l : LinkNo} {f : Flag} : Bonds r (s.raise l f) := h.setLinks

theorem follow (h : Bonds r s) : Bonds r s.follow := h.setLinks

theorem withStore (h : Bonds r s) {x : Store} : Bonds r (s.withStore x) := h.setStore.follow

/-- A change of the driver table. -/
theorem setDrivers (h : Bonds r s) (ht : t = { s with drivers := t.drivers }) : Bonds r t := by
  rw [ht]
  exact h.of_rest rfl rfl rfl rfl rfl

/-! #### Visits and windows -/

theorem setVisit (h : Bonds r s) {v : VisitNo} {x : Visit} (hx : (s.visit v).Stands x) :
    Bonds r (s.setVisit v x) :=
  h.trans ⟨fun q => q.setVisit hx.queued hx.checking, fun w => w.setVisit hx.toSameBay,
    fun l => l.setVisit hx.lapsing⟩

/-- Other fields of a visit than those of R47. -/
theorem setFields (h : Bonds r s) {v : VisitNo} {x : Visit} (hs : x.state = (s.visit v).state := by rfl)
    (hb : x.bay = (s.visit v).bay := by rfl) (ht : x.tag = (s.visit v).tag := by rfl)
    (ha : x.arrival = (s.visit v).arrival := by rfl) : Bonds r (s.setVisit v x) :=
  h.setVisit (.of_eq hs hb ht ha)

theorem changeVisit (h : Bonds r s) {v : VisitNo} {st : VisitState} {f : Visit → Visit}
    (hf : (s.visit v).state = st → (s.visit v).Stands (f (s.visit v))) : Bonds r (s.changeVisit v st f) := by
  unfold State.changeVisit
  split
  · next e => exact h.setVisit (hf e)
  · exact h

/-- A visit freed from a state that nothing speaks of. -/
theorem freeFrom (h : Bonds r s) {v : VisitNo} {st : VisitState} (hst : st.aloof = true) :
    Bonds r (s.freeFrom v st) :=
  h.changeVisit fun e => .of_aloof (by rw [e]; exact hst) rfl

/-- A window with other access or another map. -/
theorem changeWindow (h : Bonds r s) {b : BayIx} {f : Window → Window}
    (hf : ∀ w, (f w).bound = w.bound := by exact fun _ => rfl) : Bonds r (s.changeWindow b f) := by
  refine h.of_stands (fun _ => .refl _) (fun c => ?_) rfl rfl rfl rfl
  rw [State.changeWindow, State.window_setWindow]
  split
  · next e =>
    subst e
    rw [Option.map_map]
    exact congrFun (congrArg Option.map (funext hf)) _
  · rfl

/-! #### Items and links -/

theorem putExecuting (h : Bonds r s) {l : LinkNo} {b : Buffer} : Bonds r (s.putExecuting l b) := h.setLinks

theorem answer (h : Bonds r s) {l : LinkNo} {c : Code} {d : List Byte} : Bonds r (s.answer l c d) := by
  rw [State.answer_eq]
  exact h.setLinks

theorem refuse (h : Bonds r s) {l : LinkNo} {c : Code} : Bonds r (s.refuse l c) := h.answer

theorem setJob (h : Bonds r s) {l : LinkNo} {j : Job} : Bonds r (s.setJob l j) := by
  rw [State.setJob_eq]
  exact h.setLinks

theorem begin (h : Bonds r s) {x : Head} {i : Instr} : Bonds r (s.begin x i) := by
  rw [State.begin_eq]
  exact h.setLinks

theorem ask (h : Bonds r s) {l : LinkNo} {j : Job} {q : Request} : Bonds r (s.ask l j q) :=
  h.setJob.present (linkRequester_ne_expiry l)

/-- An item command keeps the bonds where its block does. -/
theorem takeItem {h : Head} {i : Instr} {f : State → State} (hf : ∀ u, Bonds u (f u)) :
    Bonds s (s.takeItem h i f) := by
  unfold State.takeItem
  split
  · split
    · exact (refl s).begin.refuse
    · exact (refl s).begin.trans (hf _)
  · exact refl s

theorem changeLink (l : LinkNo) (f : Link → Link) (s : State) : Bonds s (s.changeLink l f) := by
  unfold State.changeLink
  split
  · exact (refl s).setLinks
  · exact refl s

/-! #### Aborts (R38 to R41, R89) -/

theorem presentAbort (h : Bonds r s) {v : VisitNo} {l : LinkNo} : Bonds r (s.presentAbort v l) := by
  unfold State.presentAbort
  split
  · exact h
  · split
    · exact h
    · exact h.present (linkRequester_ne_expiry l)

theorem startAbort (h : Bonds r s) {v : VisitNo} : Bonds r (s.startAbort v) := by
  unfold State.startAbort
  split
  · exact h
  · split
    · exact h.presentAbort
    · split
      · exact h.presentAbort
      · exact h

theorem abortAnswered (h : Bonds r s) {l : LinkNo} {v : VisitNo} {n : Option Nat} :
    Bonds r (s.abortAnswered l v n) := by
  unfold State.abortAnswered
  split
  · exact h
  · simp only
    split
    · exact h.setFields.ask
    · exact (h.freeFrom rfl).answer

theorem abortUnrecorded (h : Bonds r s) {l : LinkNo} {v : VisitNo} : Bonds r (s.abortUnrecorded l v) :=
  ((h.freeFrom rfl).raise).answer

/-! #### The Dispatch Check Unit (chapter 8) -/

/-- The visit under check goes on being under check. -/
theorem checkGoesOn (h : Bonds r s) {c : Check} {v : VisitNo} (hu : s.dcu.underCheck = some v)
    (hp : c.phase ≠ .abandon) (hv : c.visit = v := by rfl) : Bonds r (s.setCheck (some c)) := by
  subst hv
  exact h.of_stands (fun _ => .refl _) (fun _ => rfl) rfl (hu ▸ underCheck_some rfl hp) rfl rfl

/-- R33, R152: a check ends, and its visit leaves CHECKING. -/
theorem endCheck (h : Bonds r s) {c : Check} {v : VisitNo} {x : CheckRecord} {st : VisitState}
    {cl : Option Clearance} (hu : s.dcu.underCheck = some v) (hst : st.aloof = true) (hv : c.visit = v := by rfl) :
    Bonds r (s.endCheck c x st cl) := by
  subst hv
  obtain ⟨noQueued, noChecking, noLapsing, noBay⟩ := aloof_iff.1 hst
  refine h.trans (Bonds.raise ?_)
  unfold State.changeVisit
  split
  · next hs =>
    refine ⟨fun q => q.congr rfl (fun v => ?_) fun v => ?_, fun w => ?_, fun l => ?_⟩
    · show ((s.setVisit _ _).visit v).state = _ ↔ _
      rw [State.visit_setVisit]
      split
      · next e => exact iff_of_false noQueued (by rw [← e, hs]; decide)
      · rfl
    · show ((s.setVisit _ _).visit v).state = _ ↔ _
      refine iff_of_false ?_ nofun
      rw [State.visit_setVisit]
      split
      · exact noChecking
      · next e => exact fun hv => e (Option.some.inj (hu.symm.trans ((q.underCheck v).1 hv)))
    · obtain ⟨bound, held⟩ := w.setVisit (v := c.visit) (x := { s.visit c.visit with
        state := st, heldOrigin := false, lastCheck := some x, clearance := cl }) (.away (by rw [hs]; rfl) noBay)
      exact ⟨bound, held⟩
    · obtain ⟨once, lapsing, asked⟩ := l.setVisit (v := c.visit) (x := { s.visit c.visit with
        state := st, heldOrigin := false, lastCheck := some x, clearance := cl })
        (iff_of_false noLapsing (by rw [hs]; decide))
      exact ⟨once, lapsing, asked⟩
  · next hs =>
    exact ⟨fun q => absurd ((q.underCheck _).2 hu) hs, fun w => ⟨w.bound, w.held⟩,
      fun l => ⟨l.once, l.lapsing, l.asked⟩⟩

theorem report (h : Bonds r s) {v : Option VisitNo} : Bonds r (s.report v) := by
  unfold State.report
  split
  · exact h
  · next c hc =>
    split
    · next hp =>
      have hp : c.phase ≠ .abandon := by rcases hp.1 with e | e <;> rw [e] <;> decide
      have hu := underCheck_some hc hp
      split
      · exact h.checkGoesOn (c := { c with stale := true }) hu hp
      · exact h.endCheck hu (by rfl)
    · exact h

theorem reportList (h : Bonds r s) {l : ListId} : Bonds r (s.reportList l) := by
  unfold State.reportList
  split
  · exact h.report
  · exact h

/-- R143: the outcome of the visit under check, or the beginning of its clearance. -/
theorem decideOutcome (h : Bonds r s) {c : Check} {v : VisitNo} (hu : s.dcu.underCheck = some v)
    (hv : c.visit = v := by rfl) : Bonds r (s.decideOutcome c) := by
  subst hv
  unfold State.decideOutcome
  split
  · exact h.endCheck hu (by rfl)
  · exact Bonds.present (h.checkGoesOn hu (by nofun)) (by decide)

theorem judgeGoesOn (h : Bonds r s) {c : Check} (hu : s.dcu.underCheck = some c.visit) {j : Judge × Option Ask} :
    Bonds r (s.judgeGoesOn c j) := by
  unfold State.judgeGoesOn
  simp only
  split
  · exact h.checkGoesOn hu (by nofun)
  · split
    · exact h.decideOutcome hu
    · exact h.checkGoesOn hu (by nofun)

theorem buildGoesOn (h : Bonds r s) {c : Check} (hu : s.dcu.underCheck = some c.visit) (hp : c.phase ≠ .abandon)
    {i : SlotRef} : Bonds r (s.buildGoesOn c i) := by
  unfold State.buildGoesOn
  simp only
  split
  · exact Bonds.present (h.checkGoesOn hu (by exact hp)) (by decide)
  · exact Bonds.present (h.checkGoesOn hu (by exact hp)) (by decide)

theorem beginUnwind (h : Bonds r s) {c : Check} (hu : s.dcu.underCheck = some c.visit) : Bonds r (s.beginUnwind c) :=
  Bonds.present (h.checkGoesOn hu (by nofun)) (by decide)

/-- An answer to the DCU is taken by the visit under check, or by an abandoned check, which ends (R147). -/
theorem checkTakes (h : Bonds r s) {f : Check → State}
    (hf : ∀ c, s.dcu.underCheck = some c.visit → c.phase ≠ .abandon → Bonds r (f c)) : Bonds r (s.checkTakes f) := by
  unfold State.checkTakes
  split
  · exact h
  · next c hc =>
    split
    · next hp =>
      refine Bonds.startAbort (s := s.setCheck none) (h.of_stands (fun _ => .refl _) (fun _ => rfl) rfl ?_ rfl rfl)
      exact (underCheck_abandoned hc hp).symm
    · next hp => exact hf c (underCheck_some hc hp) hp

theorem checkJudges (h : Bonds r s) {f : Check → State}
    (hf : ∀ c, s.dcu.underCheck = some c.visit → c.phase ≠ .abandon → Bonds r (f c)) : Bonds r (s.checkJudges f) :=
  h.checkTakes fun c hu hp => by
    split
    · exact h.endCheck hu (by rfl)
    · exact hf c hu hp

theorem checkRead (h : Bonds r s) {l : ListId} {a : ReadAnswer} : Bonds r (s.checkRead l a) :=
  h.checkJudges fun c hu hp => by
    split
    · exact Bonds.present (h.checkGoesOn hu (by exact hp)) (by decide)
    · exact h.judgeGoesOn hu
    · exact h

theorem checkAlloc (h : Bonds r s) {i : Option SlotRef} : Bonds r (s.checkAlloc i) := by
  cases i with
  | none => exact h.checkTakes fun _ hu _ => h.beginUnwind hu
  | some i => exact h.checkTakes fun _ hu hp => h.buildGoesOn hu hp

theorem checkWrite (h : Bonds r s) {b : Bool} : Bonds r (s.checkWrite b) :=
  h.checkTakes fun _ hu _ => by
    split
    · exact Bonds.endCheck (h.setLogs (by rfl)) hu (by rfl)
    · exact h.beginUnwind hu

theorem checkSplice (h : Bonds r s) : Bonds r s.checkSplice := h.checkTakes fun _ hu _ => h.endCheck hu (by rfl)

theorem checkAnswered (h : Bonds r s) : Bonds r s.checkAnswered := by
  unfold State.checkAnswered
  split
  · exact h
  · next c hc =>
    refine h.of_stands (fun _ => .refl _) (fun _ => rfl) rfl ?_ rfl rfl
    unfold Dcu.underCheck
    rw [hc]
    rfl

/-- R131: the head of the queue becomes CHECKING, and is the visit under check. -/
theorem checkTake {v : VisitNo} {queue : List VisitNo} (hc : s.dcu.check = none) (hq : s.dcu.queue = v :: queue) :
    Bonds s ((s.changeVisit v .queued fun x => { x with state := .checking }).setDcu
      { queue, check := some (Check.taken v (s.visit v)) }) := by
  have under : (Dcu.mk queue (some (Check.taken v (s.visit v)))).underCheck = some v := rfl
  have idle : s.dcu.underCheck = none := by simp [Dcu.underCheck, hc]
  unfold State.changeVisit
  split
  · next hs =>
    refine ⟨fun q => ?_, fun w => ?_, fun l => ?_⟩
    · obtain ⟨new, once⟩ := List.nodup_cons.1 (hq ▸ q.once)
      have few := q.few
      rw [hq] at few
      refine ⟨(Nat.le_succ _).trans few, once, fun w => ?_, fun w => ?_⟩
      · show w ∈ queue ↔ ((s.setVisit v _).visit w).state = .queued
        have member := q.queued w
        rw [hq, List.mem_cons] at member
        rw [State.visit_setVisit]
        split
        · next e => exact iff_of_false (e ▸ new) nofun
        · next e => exact (or_iff_right (Ne.symm e)).symm.trans member
      · refine Iff.trans ?_ underCheck_iff
        show ((s.setVisit v _).visit w).state = .checking ↔ (Dcu.mk _ _).underCheck = some w
        rw [under, State.visit_setVisit, Option.some_inj]
        split
        · next e => exact iff_of_true rfl e
        · next e => exact iff_of_false (fun hw => by rw [q.underCheck, idle] at hw; cases hw) e
    · obtain ⟨bound, held⟩ := w.setVisit (v := v) (x := { s.visit v with state := .checking })
        (.away (by rw [hs]; rfl) rfl)
      exact ⟨bound, held⟩
    · obtain ⟨once, lapsing, asked⟩ := l.setVisit (v := v) (x := { s.visit v with state := .checking })
        (iff_of_false nofun (by rw [hs]; decide))
      exact ⟨once, lapsing, asked⟩
  · next hs =>
    exact ⟨fun q => absurd ((q.queued v).1 (by rw [hq]; exact List.mem_cons_self)) hs, fun w => ⟨w.bound, w.held⟩,
      fun l => ⟨l.once, l.lapsing, l.asked⟩⟩

end Bonds
end Sys2Proof.Machine
end

section
/-! PROOFS. What binds the visits to the check queue, the bay windows and the lapse list: the rules for the bays,
DISPATCH, VISIT_ABORT and the minute events. -/

namespace Sys2Proof.Machine

namespace Bonds

variable {r s t : State}

/-! #### Bays (chapter 3) -/

/-- R49: a window with no visit and a visit with no window are bound to each other. -/
theorem bindBay (h : Bonds r s) {b : BayIx} {v : VisitNo} (hw : s.window b = none)
    (hst : (s.visit v).state = .arrived ∨ (s.visit v).state = .held) : Bonds r (s.bindBay b v) := by
  have away : (s.visit v).state.aloof = true := by rcases hst with e | e <;> rw [e] <;> rfl
  obtain ⟨noQueued, noChecking, noLapsing, noBay⟩ := aloof_iff.1 away
  have visit : ∀ w, (s.bindBay b v).visit w = if v = w then _ else s.visit w := fun w =>
    (s.setWindow b _).visit_setVisit v w _
  have window : ∀ c, (s.bindBay b v).window c = if b = c then _ else s.window c := fun c =>
    s.window_setWindow b c _
  refine h.trans ⟨fun q => ?_, fun w => ⟨fun c x hx => ?_, fun u hu => ?_⟩, fun l => ?_⟩
  · obtain ⟨few, once, queued, checking⟩ := q.setVisit (v := v) (x := (s.bindBay b v).visit v)
      (by rw [visit, if_pos rfl]; exact iff_of_false nofun noQueued)
      (by rw [visit, if_pos rfl]; exact iff_of_false nofun noChecking)
    rw [visit, if_pos rfl] at queued checking
    exact ⟨few, once, queued, checking⟩
  · rw [window] at hx
    split at hx
    · next e =>
      cases hx
      rw [visit, if_pos rfl, e]
      exact ⟨rfl, rfl, rfl, rfl⟩
    · have bound := w.bound c x hx
      have ne : v ≠ x.visit := fun e => by rw [← e, noBay] at bound; cases bound.1
      rw [visit, if_neg ne]
      exact bound
  · rw [visit] at hu
    split at hu
    · next e => exact ⟨b, _, (window b).trans (if_pos rfl), e⟩
    · obtain ⟨c, x, hx, e⟩ := w.held u hu
      exact ⟨c, x, (window c).trans ((if_neg fun e' => by rw [← e', hw] at hx; cases hx).trans hx), e⟩
  · obtain ⟨once, lapsing, asked⟩ := l.setVisit (v := v) (x := (s.bindBay b v).visit v)
      (by rw [visit, if_pos rfl]; exact iff_of_false nofun noLapsing)
    rw [visit, if_pos rfl] at lapsing
    exact ⟨once, lapsing, asked⟩

/-- R51, R52: the one window of a visit at a bay is unbound, and the visit leaves. -/
theorem leaveBay (h : Bonds r s) {b : BayIx} {w : Window} {st : VisitState} (hw : s.window b = some w)
    (hst : (s.visit w.visit).state = .assigned ∨ (s.visit w.visit).state = .loading) (aloof : st.aloof = true) :
    Bonds r (s.leaveBay b w.visit st) := by
  obtain ⟨noQueued, noChecking, noLapsing, noBay⟩ := aloof_iff.1 aloof
  have here : (s.visit w.visit).state ≠ .queued ∧ (s.visit w.visit).state ≠ .checking ∧
      (s.visit w.visit).state ≠ .lapsing := by rcases hst with e | e <;> rw [e] <;> decide
  have visit : ∀ v, (s.leaveBay b w.visit st).visit v = if w.visit = v then _ else s.visit v := fun v =>
    (s.setWindow b none).visit_setVisit w.visit v _
  have window : ∀ c, (s.leaveBay b w.visit st).window c = if b = c then none else s.window c := fun c =>
    s.window_setWindow b c none
  refine h.trans ⟨fun q => ?_, fun ws => ⟨fun c x hx => ?_, fun u hu => ?_⟩, fun l => ?_⟩
  · obtain ⟨few, once, queued, checking⟩ := q.setVisit (v := w.visit)
      (x := { s.visit w.visit with state := st, heldOrigin := false })
      (iff_of_false noQueued here.1) (iff_of_false noChecking here.2.1)
    exact ⟨few, once, queued, checking⟩
  · rw [window] at hx
    split at hx
    · cases hx
    · next hne =>
      have bound := ws.bound c x hx
      have ne : w.visit ≠ x.visit := fun e =>
        hne (Option.some.inj ((ws.bound b w hw).2.1.symm.trans (e ▸ bound.2.1)))
      rw [visit, if_neg ne]
      exact bound
  · rw [visit] at hu
    split at hu
    · rw [noBay] at hu
      cases hu
    · next hne =>
      obtain ⟨c, x, hx, e⟩ := ws.held u hu
      refine ⟨c, x, (window c).trans ((if_neg fun e' => hne ?_).trans hx), e⟩
      rw [← e', hw] at hx
      exact (Option.some.inj hx) ▸ e
  · obtain ⟨once, lapsing, asked⟩ := l.setVisit (v := w.visit)
      (x := { s.visit w.visit with state := st, heldOrigin := false }) (iff_of_false noLapsing here.2.2)
    exact ⟨once, lapsing, asked⟩

/-! #### DISPATCH and VISIT_ABORT (R32, R38) -/

/-- R32, R128: a LOADED or HELD visit takes the place left at the tail of the queue. -/
theorem joinQueue (h : Bonds r s) {v : VisitNo} {b : Bool}
    (hst : (s.visit v).state = .loaded ∨ (s.visit v).state = .held)
    (room : s.dcu.queue.length < Config.queuePlaces) : Bonds r (s.joinQueue v b) := by
  have away : (s.visit v).state.aloof = true := by rcases hst with e | e <;> rw [e] <;> rfl
  obtain ⟨noQueued, noChecking, noLapsing, noBay⟩ := aloof_iff.1 away
  have visit : ∀ w, (s.joinQueue v b).visit w = if v = w then _ else s.visit w := fun w => s.visit_setVisit v w _
  refine h.trans ⟨fun q => ?_, fun w => ?_, fun l => ?_⟩
  · have new : v ∉ s.dcu.queue := fun hm => noQueued ((q.queued v).1 hm)
    refine ⟨?_, List.nodup_append.2 ⟨q.once, List.nodup_singleton v, ?_⟩, fun w => ?_, fun w => ?_⟩
    · show (s.dcu.queue ++ [v]).length ≤ _
      rw [List.length_append]
      exact room
    · rintro w hw _ (_ | ⟨_, ⟨⟩⟩) rfl
      exact new hw
    · show w ∈ s.dcu.queue ++ [v] ↔ _
      rw [visit, List.mem_append, List.mem_singleton, q.queued]
      split
      · next e => exact iff_of_true (.inr e.symm) rfl
      · next e => exact or_iff_left (Ne.symm e)
    · rw [visit]
      refine Iff.trans ?_ (q.checking w)
      split
      · next e => exact iff_of_false nofun (e ▸ noChecking)
      · rfl
  · obtain ⟨bound, held⟩ := w.setVisit (v := v)
      (x := { s.visit v with state := .queued, heldOrigin := b, lapsed := false }) (.away noBay rfl)
    exact ⟨bound, held⟩
  · obtain ⟨once, lapsing, asked⟩ := l.setVisit (v := v)
      (x := { s.visit v with state := .queued, heldOrigin := b, lapsed := false }) (iff_of_false nofun noLapsing)
    exact ⟨once, lapsing, asked⟩

/-- The visit under check once the check of a visit is to be abandoned. -/
theorem underCheck_left (s : State) (v : VisitNo) (queue : List VisitNo) :
    (Dcu.mk queue (checkLeft s v)).underCheck = s.dcu.underCheck.filter fun w => w != v := by
  unfold Dcu.underCheck
  cases hc : s.dcu.check with
  | none => rw [checkLeft_other (by simp [hc]), hc]; rfl
  | some c =>
    by_cases hv : c.visit = v
    · have gone : (if c.phase = .abandon then none else some c.visit).filter (fun w => w != v) = none := by
        split <;> simp [Option.filter, hv]
      cases hw : s.checkWaits c with
      | true =>
        rw [checkLeft_waits hc hv hw]
        exact gone.symm
      | false =>
        rw [checkLeft_rests hc hv hw]
        exact gone.symm
    · rw [checkLeft_other (by simpa [hc] using hv), hc]
      by_cases hp : c.phase = .abandon <;> simp [Option.filter, hp, hv]

/-- R38: a visit that is not LAPSING becomes ABORTING; its window is unbound, it leaves the queue and its check is
abandoned. -/
theorem abortAccepted (h : Bonds r s) {v : VisitNo} (hst : (s.visit v).state ≠ .lapsing) :
    Bonds r (s.abortAccepted v) := by
  have visit : ∀ w, (s.abortAccepted v).visit w = if v = w then { s.visit v with
      state := .aborting, clearance := none, abort := some ⟨decide ((s.visit v).state = .cleared), 0⟩ }
      else s.visit w := fun w => by
    rw [abortAccepted_eq]
    exact s.visit_setVisit v w _
  have window : ∀ b, (s.abortAccepted v).window b = (s.window b).filter fun w => w.visit != v := fun b => by
    rw [abortAccepted_eq]
    exact tget_map _ _ _
  have dcu : (s.abortAccepted v).dcu = ⟨s.dcu.queue.filter fun w => w != v, checkLeft s v⟩ := by rw [abortAccepted_eq]
  refine h.trans ⟨fun q => ⟨?_, ?_, fun w => ?_, fun w => ?_⟩, fun ws => ⟨fun b x hx => ?_, fun w hw => ?_⟩,
    fun l => l.congr ?_ (fun w => ?_) ?_⟩
  · rw [dcu]
    exact (List.length_filter_le _ _).trans q.few
  · rw [dcu]
    exact q.once.filter _
  · rw [dcu, visit, List.mem_filter, q.queued]
    split
    · next e => exact iff_of_false (by simp [e]) nofun
    · next e => exact and_iff_left (by simpa using Ne.symm e)
  · refine Iff.trans ?_ underCheck_iff
    rw [dcu, underCheck_left, visit, Option.filter_eq_some_iff, ← q.underCheck]
    split
    · next e => exact iff_of_false nofun (by simp [e])
    · next e => exact (and_iff_left (by simpa using Ne.symm e)).symm
  · rw [window, Option.filter_eq_some_iff] at hx
    rw [visit, if_neg (Ne.symm (bne_iff_ne.1 hx.2))]
    exact ws.bound b x hx.1
  · rw [visit] at hw
    split at hw
    · cases hw
    · next e =>
      obtain ⟨b, x, hx, hv⟩ := ws.held w hw
      exact ⟨b, x, by rw [window, hx, Option.filter_some, if_pos (by simpa [hv] using Ne.symm e)], hv⟩
  · rw [abortAccepted_eq]
  · rw [visit]
    split
    · next e => exact iff_of_false nofun (e ▸ hst)
    · rfl
  · rw [abortAccepted_eq]
    rfl

/-! #### Minute events and lapses (R35, R160) -/

theorem lapseVisit_cases (n : Nat) (x : Visit) :
    (State.lapses n x = false ∧ State.lapseVisit n x = x) ∨
      (State.lapses n x = true ∧ x.state = .cleared ∧ (State.lapseVisit n x).state = .lapsing) := by
  unfold State.lapseVisit
  cases hl : State.lapses n x with
  | false => exact .inl ⟨rfl, rfl⟩
  | true => exact .inr ⟨rfl, (lapses_iff.1 hl).1, rfl⟩

theorem minuteEvent (h : Bonds r s) {n : Nat} : Bonds r (s.minuteEvent n) := by
  have visit : ∀ v, (s.minuteEvent n).visit v = State.lapseVisit n (s.visit v) := fun v => by
    rw [State.minuteEvent, expiryPresents_eq]
    exact tget_map _ _ _
  have rest : (s.minuteEvent n).dcu = s.dcu ∧ (s.minuteEvent n).windows = s.windows ∧
      (s.minuteEvent n).logs.lapses =
        s.logs.lapses ++ (List.finRange 48).filter fun v => State.lapses n (s.visit v) := by
    rw [State.minuteEvent, expiryPresents_eq]
    exact ⟨rfl, rfl, rfl⟩
  obtain ⟨dcu, windows, lapses⟩ := rest
  have same : ∀ v, (s.visit v).SameBay (State.lapseVisit n (s.visit v)) := fun v => by
    rcases lapseVisit_cases n (s.visit v) with ⟨_, e⟩ | ⟨_, e, e'⟩
    · rw [e]
      exact .refl _
    · exact .away (by rw [e]; rfl) (by rw [e']; rfl)
  refine h.trans ⟨fun q => q.congr (by rw [dcu]) (fun v => ?_) (fun v => ?_), fun w => w.congr (fun b => ?_)
    (fun v => ?_) (fun v => ?_), fun l => ⟨?_, fun v => ?_, ?_⟩⟩
  · rw [visit]
    rcases lapseVisit_cases n (s.visit v) with ⟨_, e⟩ | ⟨_, e, e'⟩
    · rw [e]
    · rw [e, e']
      decide
  · rw [visit, dcu, ← q.underCheck]
    rcases lapseVisit_cases n (s.visit v) with ⟨_, e⟩ | ⟨_, e, e'⟩
    · rw [e]
    · rw [e, e']
      decide
  · unfold State.window
    rw [windows]
  · rw [visit]
    exact (same v).atBay
  · rw [visit]
    exact (same v).fits
  · rw [lapses]
    refine List.nodup_append.2 ⟨l.once, (List.nodup_finRange 48).filter _, ?_⟩
    rintro v hv _ hf rfl
    rw [l.lapsing] at hv
    rw [List.mem_filter, lapses_iff, hv] at hf
    exact nomatch hf.2.1
  · rw [lapses, visit, List.mem_append, l.lapsing, List.mem_filter, and_iff_right (List.mem_finRange v)]
    rcases lapseVisit_cases n (s.visit v) with ⟨hl, e⟩ | ⟨hl, e, e'⟩
    · rw [e, hl]
      exact or_iff_left nofun
    · exact iff_of_true (.inr hl) e'
  · rw [lapses, State.minuteEvent, expiryPresents_eq, State.request_setRequest_self]
    show (match s.request .expiry with | some q => some q | none => _) = _
    rw [l.asked]
    cases hl : s.logs.lapses with
    | nil => rfl
    | cons v vs => rfl

end Bonds

end Sys2Proof.Machine
end

section
/-! PROOFS. What binds the visits to the check queue, the bay windows and the lapse list: every item of the chapters. -/

namespace Sys2Proof.Machine

/-- R34: a visit that a GATE_PASSED is not refused for is CLEARED. -/
theorem cleared_of_passRefusal {x : Visit} {code : Nat} (h : State.passRefusal x code = none) : x.state = .cleared := by
  by_contra hne
  rw [passRefusal_eq, if_pos hne] at h
  split at h
  · cases h
  · split at h <;> cases h

namespace Bonds

variable {r s : State} {l : LinkNo}

/-! #### The setup items and the Time Base (chapters 4, 6, 7 and 12) -/

theorem unlessLocked (h : Bonds r s) {b : Bool} {f : State} (hf : Bonds r f) : Bonds r (s.unlessLocked l b f) := by
  unfold State.unlessLocked
  split
  · exact h.refuse
  · split
    · exact h.refuse
    · exact hf

theorem onRulesLoad (h : Bonds r s) {x : RuleSet} : Bonds r (s.onRulesLoad l x) :=
  h.unlessLocked (Bonds.report (s := s.withRules (clampRules x)) (h.of_rest rfl rfl rfl rfl rfl)).answer

theorem writeClasses (h : Bonds r s) {t : ClassTable} : Bonds r (s.writeClasses t) :=
  Bonds.report (s := s.setClasses t) (h.of_rest rfl rfl rfl rfl rfl)

theorem onBandLoad (h : Bonds r s) {band upper group permille litres : Nat} {p : Bool} :
    Bonds r (s.onBandLoad l band upper group permille litres p) := by
  unfold State.onBandLoad
  split
  · exact h.refuse
  · exact h.unlessLocked h.writeClasses.answer

theorem onSegLoad (h : Bonds r s) {a b m : Nat} : Bonds r (s.onSegLoad l a b m) := by
  unfold State.onSegLoad
  split
  · exact h.unlessLocked h.writeClasses.answer
  · exact h.refuse

theorem onChunkSize (h : Bonds r s) {n : Nat} : Bonds r (s.onChunkSize l n) := h.unlessLocked h.writeClasses.answer

theorem onServiceLoad (h : Bonds r s) {ns : List Nat} : Bonds r (s.onServiceLoad l ns) := by
  unfold State.onServiceLoad
  split
  · exact h.refuse
  · split
    · exact h.refuse
    · split
      · exact h.ask
      · exact h.refuse

theorem onSettings (h : Bonds r s) {a b d : Option Nat} : Bonds r (s.onSettings l a b d) := by
  unfold State.onSettings
  split
  · refine Bonds.answer (Bonds.follow ?_)
    exact h.of_rest rfl rfl rfl rfl rfl
  · exact h.refuse

theorem onIdentWrite (h : Bonds r s) {a : Option Nat} {b : Option (List Byte)} :
    Bonds r (s.onIdentWrite l a b) := by
  unfold State.onIdentWrite
  split
  · exact h.refuse
  · exact h.setCc.answer

theorem onStart (h : Bonds r s) : Bonds r (s.onStart l) := by
  unfold State.onStart
  split
  · exact h.answer
  · split
    · exact h.setCc.answer
    · exact h.refuse

theorem onLock (h : Bonds r s) : Bonds r (s.onLock l) := by
  unfold State.onLock
  split
  · exact h.answer
  · split
    · exact h.setCc.answer
    · exact h.refuse

theorem onKeep (h : Bonds r s) : Bonds r (s.onKeep l) := by
  unfold State.onKeep
  split
  · exact h.answer
  · exact h.setCc.answer

theorem onRestart (h : Bonds r s) : Bonds r (s.onRestart l) := by
  unfold State.onRestart
  split
  · exact h
  · exact h.putExecuting.answer

theorem onNoteClear (h : Bonds r s) {clear : FlagWord} {mask : Option FlagWord} :
    Bonds r (s.onNoteClear l clear mask) :=
  Bonds.answer (s := s.setLink l (State.clearNotes l (s.link l) clear mask)) h.setLinks

theorem onSetTime (h : Bonds r s) {minute seconds : Nat} : Bonds r (s.onSetTime l minute seconds) := by
  unfold State.onSetTime
  split
  · exact h.refuse
  · split
    · exact h.answer
    · exact h.setTime.answer

theorem onAdjustTime (h : Bonds r s) {n : Int} : Bonds r (s.onAdjustTime l n) := by
  unfold State.onAdjustTime
  split
  · exact h.setTime.answer
  · exact h.refuse

theorem pulse (h : Bonds r s) : Bonds r s.pulse := by
  unfold State.pulse
  split
  · split
    · exact h.setTime
    · exact h.setTime
  · exact h

/-! #### Papers (chapter 5) -/

theorem addressed (h : Bonds r s) {b : Bool} {n tag : Nat} {f : VisitNo → State}
    (hf : ∀ v, (s.visit v).busy = false → Bonds r (f v)) : Bonds r (s.addressed l b n tag f) := by
  unfold State.addressed
  split
  · exact h.refuse
  · split
    · exact h.refuse
    · split
      · exact h.refuse
      · split
        · exact h.refuse
        · next hb => exact hf _ (by simpa using hb)

theorem openPaper (h : Bonds r s) {v : VisitNo} {x : Paper} : Bonds r (s.openPaper v x) := h.setFields.report

theorem onPaperOpen (h : Bonds r s) {visit tag number p : Nat} {q e : Option Nat} {b : Bool} :
    Bonds r (s.onPaperOpen l visit tag number p q e b) :=
  h.addressed fun v _ => by
    split
    · exact h.refuse
    · split
      · exact h.refuse
      · split
        · exact h.refuse
        · simp only
          split
          · exact h.openPaper.answer
          · exact h.openPaper.ask

theorem endPaperItem (h : Bonds r s) {v : VisitNo} {d : List Byte} : Bonds r (s.endPaperItem l v d) :=
  h.answer.startAbort

theorem paperReturned (h : Bonds r s) {v : VisitNo} {tag : Tag} {b : Bool} :
    Bonds r (s.paperReturned l v tag b) := by
  unfold State.paperReturned
  split
  · exact h.answer
  · exact h.endPaperItem

theorem decidePaper (h : Bonds r s) {v : VisitNo} {n : Nat} {b : Bool} : Bonds r (s.decidePaper v n b) := by
  have h' : Bonds r
      ((s.setVisit v { s.visit v with paperState := State.paperAfter (s.visit v) n b }).report (some v)) :=
    h.setFields.report
  unfold State.decidePaper
  simp only
  split
  · exact h'
  · exact h'.raise

theorem endLines (h : Bonds r s) {v : VisitNo} {m n : Nat} {b : Bool} : Bonds r (s.endLines l v m n b) :=
  h.decidePaper.answer

theorem placeLine (h : Bonds r s) {v : VisitNo} {tag : Tag} {x : PaperLine} {xs : List PaperLine} {m n : Nat}
    {b : Bool} : Bonds r (s.placeLine l v tag x xs m n b) := h.ask

theorem onPaperLines (h : Bonds r s) {visit tag : Nat} {xs : List PaperLine} :
    Bonds r (s.onPaperLines l visit tag xs) :=
  h.addressed fun v _ => by
    simp only
    split
    · exact h.refuse
    · split
      · exact h.refuse
      · split
        · exact h.refuse
        · split
          · exact h.endLines
          · exact h.placeLine

theorem linePlaced (h : Bonds r s) {v : VisitNo} {tag : Tag} {xs : List PaperLine} {m n : Nat} {b : Bool} :
    Bonds r (s.linePlaced l v tag xs m n b) := by
  have h' : Bonds r ((s.setVisit v { s.visit v with accepted := (s.visit v).accepted + 1 }).report (some v)) :=
    h.setFields.report
  unfold State.linePlaced
  split
  · simp only
    split
    · exact h'.endLines
    · exact h'.placeLine
  · exact h.endPaperItem

theorem lineRefused (h : Bonds r s) {v : VisitNo} {tag : Tag} {n : Nat} : Bonds r (s.lineRefused l v tag n) := by
  unfold State.lineRefused
  split
  · exact h.answer
  · exact h.endPaperItem

/-! #### Bays (chapter 3) -/

theorem onBayAssign (h : Bonds r s) {visit tag bay : Nat} : Bonds r (s.onBayAssign l visit tag bay) :=
  h.addressed fun v _ => by
    split
    · exact h.refuse
    · split
      · exact h.refuse
      · next hst =>
        split
        · exact h.refuse
        · next hw => exact (h.bindBay (by simpa using hw) (by tauto)).ask

theorem bayReady (h : Bonds r s) {b : BayIx} : Bonds r (s.bayReady l b) :=
  Bonds.answer h.changeWindow

theorem bayRead (h : Bonds r s) {b : BayIx} {v : VisitNo} {tag : Tag} {a : ReadAnswer} :
    Bonds r (s.bayRead l b v tag a) := by
  unfold State.bayRead
  split
  · split
    · exact h.ask
    · exact h.bayReady
    · exact h.refuse
  · exact h.refuse

theorem bayWritten (h : Bonds r s) {b : BayIx} {v : VisitNo} {tag : Tag} {n : Nat} {i : SlotRef}
    {next : Option SlotRef} {w : Bool} : Bonds r (s.bayWritten l b v tag n i next w) := by
  unfold State.bayWritten
  split
  · simp only
    split
    · exact Bonds.ask h.changeWindow
    · exact Bonds.bayReady h.changeWindow
  · exact h.refuse

theorem atBay (h : Bonds r s) {bay : Nat} {f : BayIx → Window → State}
    (hf : ∀ b w, s.window b = some w → Bonds r (f b w)) : Bonds r (s.atBay l bay f) := by
  unfold State.atBay
  split
  · exact h.refuse
  · split
    · exact h.refuse
    · next hw => exact hf _ _ hw

theorem onBayRelease (h : Bonds r s) {bay : Nat} : Bonds r (s.onBayRelease l bay) :=
  h.atBay fun b w hw => by
    split
    · next hst => exact (h.leaveBay hw (.inl hst) (by split <;> rfl)).answer
    · exact h.refuse

theorem onLoadEnd (h : Bonds r s) {bay : Nat} : Bonds r (s.onLoadEnd l bay) :=
  h.atBay fun b w hw => by
    split
    · next hst => exact (h.leaveBay hw (.inr hst) rfl).answer
    · exact h.refuse

theorem notMapped (h : Bonds r s) : Bonds r (s.notMapped l) := h.raise.refuse

theorem onFill (h : Bonds r s) {bay comp product figure : Nat} : Bonds r (s.onFill l bay comp product figure) := by
  unfold State.onFill
  split
  · exact h.refuse
  · split
    · exact h.refuse
    · split
      · exact h.notMapped
      · exact h.ask

theorem fillRead (h : Bonds r s) {b : BayIx} {v : VisitNo} {tag : Tag} {i : SlotRef} {m n : Nat} {a : ReadAnswer} :
    Bonds r (s.fillRead l b v tag i m n a) := by
  unfold State.fillRead
  split
  · split
    · exact h.notMapped
    · split
      · exact h.refuse
      · exact h.ask
  · exact h.notMapped

theorem fillWritten (h : Bonds r s) {v : VisitNo} {n : Nat} {a b w : Bool} :
    Bonds r (s.fillWritten l v n a b w) := by
  unfold State.fillWritten
  split
  · exact Bonds.answer (h.changeVisit .loading)
  · exact h.notMapped

/-! #### Drivers (chapter 7) -/

theorem breakItem (h : Bonds r s) {e : EntryNo} {d : Driver} : Bonds r (s.breakItem e d) := by
  have h' : Bonds r (s.setDriver e (some d)) := h.setDrivers rfl
  unfold State.breakItem
  split
  · exact h'.report
  · exact h'

theorem atCard (h : Bonds r s) {card : Nat} {f : EntryNo → Driver → State} (hf : ∀ e d, Bonds r (f e d)) :
    Bonds r (s.atCard l card f) := by
  unfold State.atCard
  split
  · exact h.refuse
  · split
    · exact h.refuse
    · split
      · exact h.refuse
      · split
        · exact h.refuse
        · exact hf _ _

theorem onBreakStart (h : Bonds r s) {card : Nat} : Bonds r (s.onBreakStart l card) :=
  h.atCard fun _ _ => by
    split
    · exact h.answer
    · exact h.breakItem.answer

theorem onBreakEnd (h : Bonds r s) {card : Nat} : Bonds r (s.onBreakEnd l card) :=
  h.atCard fun _ _ => by
    split
    · exact h.breakItem.answer
    · exact h.answer

theorem onDriverRead (h : Bonds r s) {selector value : Nat} : Bonds r (s.onDriverRead l selector value) := by
  unfold State.onDriverRead
  split
  · split
    · exact h.refuse
    · exact h.answer
  · split
    · exact h.refuse
    · exact h.answer
  · exact h.refuse

/-! #### Visits (chapters 2 and 9) -/

theorem placeCompartment (h : Bonds r s) {v : VisitNo} {w : ArriveWork} {k : Option Nat} :
    Bonds r (s.placeCompartment l v w k) := h.ask

theorem onArrive (h : Bonds r s) {tanker driver : Nat} {f : Figures} {co : Option CoDriver} {ks : List (Option Nat)} :
    Bonds r (s.onArrive l tanker driver f co ks) := by
  unfold State.onArrive
  split
  · exact h.refuse
  · next v _ _ hv _ =>
    have hst : (s.visit v).state = .free := by simpa using List.find?_some hv
    exact Bonds.placeCompartment (h.setVisit (.of_aloof (by rw [hst]; rfl) rfl))
  · exact h.refuse

theorem compartmentPlaced (h : Bonds r s) {v : VisitNo} {w : ArriveWork} : Bonds r (s.compartmentPlaced l v w) := by
  unfold State.compartmentPlaced
  split
  · exact h.placeCompartment
  · unfold State.completeArrival
    simp only
    refine Bonds.answer (Bonds.setFields ?_)
    exact (h.setDrivers (State.admitDriver_eq _ _ _ _ _ _)).setDrivers (State.admitCo_eq _ _ _ _)

theorem undoArrival (h : Bonds r s) {v : VisitNo} : Bonds r (s.undoArrival l v) := h.ask

theorem arrivalUndone (h : Bonds r s) {v : VisitNo} : Bonds r (s.arrivalUndone l v) := (h.freeFrom rfl).refuse

theorem onDispatch (h : Bonds r s) {visit tag : Nat} : Bonds r (s.onDispatch l visit tag) := by
  have join : ∀ v b, (s.visit v).state = .loaded ∨ (s.visit v).state = .held →
      Bonds r (if s.dcu.queue.length < Config.queuePlaces then
        (s.joinQueue v b).answer l .done (put8 (s.dcu.queue.length + 1)) else s.refuse l .queueFull) := by
    intro v b hst
    split
    · next room => exact (h.joinQueue hst room).answer
    · exact h.refuse
  refine h.addressed fun v _ => ?_
  split
  · next hst => exact join _ _ (.inl hst)
  · next hst => exact join _ _ (.inr hst)
  · exact h.answer
  · exact h.answer
  · exact h.refuse

theorem onGatePassed (h : Bonds r s) {visit tag code : Nat} : Bonds r (s.onGatePassed l visit tag code) := by
  unfold State.onGatePassed
  split
  · exact h.refuse
  · next v _ =>
    split
    · exact h.refuse
    · split
      · exact h.refuse
      · next hp =>
        have committed : Bonds r (s.commitTrip v) := h.setDrivers (State.changeLinked_eq _ _ _ _)
        have same : (s.commitTrip v).visit v = s.visit v := visit_of_eq (State.changeLinked_eq _ _ _ _) v
        exact Bonds.ask (committed.setVisit (.of_aloof (by rw [same, cleared_of_passRefusal hp]; rfl) rfl))

theorem onVisitAbort (h : Bonds r s) {visit tag : Nat} : Bonds r (s.onVisitAbort l visit tag) :=
  h.addressed fun v hb => by
    split
    · exact h.refuse
    · exact Bonds.startAbort (Bonds.setJob (h.abortAccepted fun e => by simp [Visit.busy, e] at hb))

theorem onVisitRead (h : Bonds r s) {visit : Nat} {b : Bool} : Bonds r (s.onVisitRead l visit b) := by
  unfold State.onVisitRead
  split
  · exact h.refuse
  · split
    · exact h.ask
    · exact h.answer

theorem visitReadAnswered (h : Bonds r s) {v : VisitNo} {x : Visit} {got : List Compartment} {a : ReadAnswer} :
    Bonds r (s.visitReadAnswered l v x got a) := by
  unfold State.visitReadAnswered
  split
  · exact h.answer
  · exact h.answer
  · exact h.answer
  · exact h.ask

theorem endRelease (h : Bonds r s) {v : VisitNo} {n : Option Nat} : Bonds r (s.endRelease l v n) :=
  (h.freeFrom rfl).answer

theorem releaseReturned (h : Bonds r s) {v : VisitNo} {m : ListId} : Bonds r (s.releaseReturned l v m) := by
  unfold State.releaseReturned
  split
  · exact h.ask
  · exact h.ask

/-! #### Logs (chapter 9) and STORE_READ -/

theorem beginWalk (h : Bonds r s) {g : Gather} {j : Gather → Job} : Bonds r (s.beginWalk l g j) := by
  unfold State.beginWalk
  split
  · exact h.refuse
  · exact h.ask

theorem takeRead (h : Bonds r s) {g : Gather} {a : ReadAnswer} : Bonds r (s.takeRead l g a) := by
  have stop : ∀ g : Gather, Bonds r
      (if g.got.isEmpty then s.takeReply l g else s.ask l (.take g) (.headSplice g.log g.slots)) := by
    intro g
    split
    · exact h.answer
    · exact h.ask
  unfold State.takeRead
  split
  · exact h.ask
  · exact stop _
  · exact stop _

theorem taken (h : Bonds r s) {g : Gather} : Bonds r (s.taken l g) :=
  Bonds.answer (h.setLogs (by unfold LogUnit.setTake; split <;> rfl))

theorem peekRead (h : Bonds r s) {g : Gather} {a : ReadAnswer} : Bonds r (s.peekRead l g a) := by
  unfold State.peekRead
  split
  · exact h.ask
  · exact h.answer
  · exact h.answer

theorem onStoreRead (h : Bonds r s) {n : Option Nat} : Bonds r (s.onStoreRead l n) := by
  unfold State.onStoreRead
  split
  · exact h.ask
  · split
    · exact h.refuse
    · exact h.ask

/-! #### The Sweep Unit (chapter 10) -/

theorem sweepAsks (h : Bonds r s) {w : SweepWork} {q : Request} : Bonds r (s.sweepAsks w q) := by
  unfold State.sweepAsks
  simp only
  split
  · exact Bonds.setSweep (Bonds.setSweep h)
  · exact Bonds.present (Bonds.setSweep h) (by decide)

theorem consider (h : Bonds r s) : Bonds r s.consider := by
  unfold State.consider
  split
  · exact h.sweepAsks
  · exact h.setSweep

theorem endSweep (h : Bonds r s) {st : SweepState} : Bonds r (s.endSweep st) :=
  Bonds.raise (Bonds.setSweep (Bonds.setSweep h))

theorem advanceSweep (h : Bonds r s) : Bonds r s.advanceSweep := by
  unfold State.advanceSweep
  simp only
  split
  · exact Bonds.consider (Bonds.setSweep h)
  · exact h.endSweep

theorem takeResult (h : Bonds r s) {x : Option Reason} : Bonds r (s.takeResult x) :=
  Bonds.advanceSweep (Bonds.setSweep h)

theorem onSweepStart (h : Bonds r s) {a b d : Nat} : Bonds r (s.onSweepStart l a b d) := by
  unfold State.onSweepStart
  split
  · exact h.refuse
  · split
    · exact h.refuse
    · split
      · exact (Bonds.setSweep h).raise.answer
      · split
        · exact h.refuse
        · exact Bonds.answer (Bonds.consider (Bonds.setSweep h))

theorem onSweepStop (h : Bonds r s) : Bonds r (s.onSweepStop l) := by
  unfold State.onSweepStop
  split
  · exact Bonds.answer (Bonds.setSweep h.endSweep)
  · exact h.answer

theorem recheckGoesOn (h : Bonds r s) {v : VisitNo} {tag : Tag} {j : Judge × Option Ask} :
    Bonds r (s.recheckGoesOn v tag j) := by
  unfold State.recheckGoesOn
  split
  · exact h.setSweep
  · unfold State.recheckResult
    split
    · exact Bonds.takeResult h.setFields
    · exact h.advanceSweep

theorem recheckRead (h : Bonds r s) {v : VisitNo} {tag : Tag} {j : Judge} {m : ListId} {a : ReadAnswer} :
    Bonds r (s.recheckRead v tag j m a) := by
  unfold State.recheckRead
  split
  · exact h.sweepAsks
  · exact h.recheckGoesOn
  · exact h.advanceSweep

theorem sweepRead (h : Bonds r s) {m : ListId} {a : ReadAnswer} : Bonds r (s.sweepRead m a) := by
  unfold State.sweepRead
  split
  · simp only
    split
    · exact Bonds.present (Bonds.setSweep h) (by decide)
    · exact h.setSweep
  · split
    · exact h.setSweep
    · exact h.recheckRead
    · exact h

theorem entryRead (h : Bonds r s) : Bonds r s.entryRead := by
  unfold State.entryRead
  split
  · exact h.advanceSweep
  · split
    · exact h.advanceSweep
    · exact h.takeResult

theorem contextRead (h : Bonds r s) : Bonds r s.contextRead := by
  unfold State.contextRead
  split
  · exact h.advanceSweep
  · split
    · exact h.sweepAsks
    · exact h.advanceSweep

end Bonds

end Sys2Proof.Machine
end

section
/-! PROOFS. Every command keeps what binds the visits to the check queue, the bay windows and the lapse list (O58): the
grants of the store, the resets, and the assembly over every command. -/

namespace Sys2Proof.Machine

/-! ### Grants -/

namespace Bonds

variable {r s : State} {l : LinkNo} {p : Requester}

theorem linkAllocated (h : Bonds r s) {i : Option SlotRef} : Bonds r (s.linkAllocated l i) := by
  unfold State.linkAllocated
  split
  · split
    · exact h.linePlaced
    · exact h.lineRefused
  · split
    · exact h.abortAnswered
    · exact h.abortUnrecorded
  · split
    · exact h.compartmentPlaced
    · exact h.undoArrival
  · exact h

theorem allocated (h : Bonds r s) {i : Option SlotRef} : Bonds r (s.allocated p i) := by
  unfold State.allocated
  split
  · exact h.linkAllocated
  · split
    · exact h.checkAlloc
    · exact h

theorem linkRead (h : Bonds r s) {a : ReadAnswer} : Bonds r (s.linkRead l a) := by
  unfold State.linkRead
  split
  · exact h.bayRead
  · exact h.fillRead
  · exact h.takeRead
  · exact h.peekRead
  · exact h.visitReadAnswered
  · exact h

theorem readBy (h : Bonds r s) {m : ListId} {a : ReadAnswer} : Bonds r (s.readBy p m a) := by
  unfold State.readBy
  split
  · exact h.linkRead
  · split
    · exact h.checkRead
    · exact h.sweepRead
    · exact h

theorem writtenBy (h : Bonds r s) {b : Bool} : Bonds r (s.writtenBy p b) := by
  unfold State.writtenBy
  split
  · unfold State.linkWritten
    split
    · exact h.bayWritten
    · exact h.fillWritten
    · exact h
  · split
    · exact h.checkWrite
    · exact h

theorem splicedBy (h : Bonds r s) {m : ListId} : Bonds r (s.splicedBy p m) := by
  unfold State.splicedBy
  split
  · unfold State.linkSpliced
    split
    · exact h.paperReturned
    · exact h.abortAnswered
    · exact h.releaseReturned
    · exact h.arrivalUndone
    · exact h
  · split
    · exact h.checkSplice
    · exact h

theorem stampedBy (h : Bonds r s) (hp : p ≠ .expiry) {v : VisitNo} {n : Option Nat} :
    Bonds r (s.stampedBy p v n) := by
  unfold State.stampedBy
  split
  · unfold State.linkStamped
    split
    · exact h.abortAnswered
    · exact h.endRelease
    · exact h
  · rw [if_neg hp]
    exact h

theorem headSplicedBy (h : Bonds r s) : Bonds r (s.headSplicedBy p) := by
  unfold State.headSplicedBy
  split
  · split
    · exact h.taken
    · exact h
  · exact h

/-- A grant of another requester than EXPIRY. -/
theorem granted (h : Bonds r s) (hp : p ≠ .expiry) : Bonds r (s.granted p) :=
  h.of_rest rfl rfl rfl rfl (by
    show (s.advance.setRequest p none).request .expiry = _
    rw [State.request_setRequest, if_neg hp]
    rfl)

/-- EXPIRY asks for stamped splices alone, so that no other grant is its (R160). -/
theorem granted_unstamped {q : Request} (hg : s.grant = some (p, q)) (hq : ∀ v o n, q ≠ .stamped v o n) :
    Bonds s (s.granted p) := by
  by_cases hp : p = .expiry
  · subst hp
    refine ⟨fun h => ⟨h.few, h.once, h.queued, h.checking⟩, fun h => ⟨h.bound, h.held⟩, fun h => ?_⟩
    have asked := h.asked.symm.trans (grant_some hg).2.2
    obtain ⟨v, _, e⟩ := Option.map_eq_some_iff.1 asked
    exact absurd e.symm (hq v _ _)
  · exact (refl s).granted hp

/-- R35, R160: the lapse that EXPIRY asked for is granted: its visit is LOADED again and leaves the list. -/
theorem grantedLapse {v : VisitNo} {o : LogOutcome} {n : Option Nat}
    (hg : s.grant = some (.expiry, .stamped v o n)) :
    Bonds s (((s.granted .expiry).stamp v o n).1.follow.lapsed v) := by
  have asked (l : LapsesSound s) : ∃ vs, s.logs.lapses = v :: vs := by
    obtain ⟨w, hw, e⟩ := Option.map_eq_some_iff.1 (l.asked.symm.trans (grant_some hg).2.2)
    cases e
    exact List.head?_eq_some_iff.1 hw
  rw [stamp_eq]
  generalize ((s.granted .expiry).stamp v o n).1.store = st
  generalize ((s.granted .expiry).stamp v o n).1.logs.seqs = seqs
  generalize hu : State.follow { s.granted .expiry with
    store := st, logs := { (s.granted .expiry).logs with seqs := seqs } } = u
  have visit : ∀ w, u.visit w = s.visit w := fun w => by rw [← hu]; rfl
  have request : u.request .expiry = none := by
    rw [← hu]
    exact State.request_setRequest_self _ _ _
  have rest : u.dcu = s.dcu ∧ u.windows = s.windows ∧ u.logs.lapses = s.logs.lapses := by
    rw [← hu]
    exact ⟨rfl, rfl, rfl⟩
  obtain ⟨dcu, windows, lapses⟩ := rest
  have q : QueueSound s → QueueSound u := fun q =>
    q.congr (by rw [dcu]) (fun w => by rw [visit]) fun w => by rw [visit, dcu, q.underCheck]
  have ws : WindowsSound s → WindowsSound u := fun ws =>
    ws.congr (fun b => by unfold State.window; rw [windows]) (fun w => by rw [visit]) fun w => by
      rw [visit]
      exact fun _ _ => id
  by_cases hst : (u.visit v).state = .lapsing
  · rw [lapsed_eq hst request]
    refine ⟨fun h => ?_, fun h => ?_, fun l => ?_⟩
    · obtain ⟨few, once, queued, checking⟩ := (q h).setVisit (v := v)
        (x := { u.visit v with state := .loaded, lapsed := true })
        (iff_of_false nofun (by rw [hst]; decide)) (iff_of_false nofun (by rw [hst]; decide))
      exact ⟨few, once, queued, checking⟩
    · obtain ⟨bound, held⟩ := (ws h).setVisit (v := v) (x := { u.visit v with state := .loaded, lapsed := true })
        (.away (by rw [hst]; rfl) rfl)
      exact ⟨bound, held⟩
    · obtain ⟨vs, hvs⟩ := asked l
      obtain ⟨new, once⟩ := List.nodup_cons.1 (hvs ▸ l.once)
      have left : u.logs.lapses.tail = vs := by rw [lapses, hvs]; rfl
      refine ⟨?_, fun w => ?_, ?_⟩
      · show u.logs.lapses.tail.Nodup
        rw [left]
        exact once
      · show w ∈ u.logs.lapses.tail ↔ ((u.setVisit v _).visit w).state = .lapsing
        rw [left, State.visit_setVisit]
        split
        · next e => exact iff_of_false (e ▸ new) nofun
        · next e =>
          rw [visit, ← l.lapsing, hvs, List.mem_cons]
          exact (or_iff_right (Ne.symm e)).symm
      · exact tget_tset_self _ _ _
  · refine ⟨fun h => ?_, fun h => ?_, fun l => ?_⟩
    · unfold State.lapsed State.changeVisit
      rw [if_neg hst, expiryPresents_eq]
      exact ⟨(q h).few, (q h).once, (q h).queued, (q h).checking⟩
    · unfold State.lapsed State.changeVisit
      rw [if_neg hst, expiryPresents_eq]
      exact ⟨(ws h).bound, (ws h).held⟩
    · obtain ⟨vs, hvs⟩ := asked l
      rw [visit] at hst
      exact absurd ((l.lapsing v).1 (by rw [hvs]; exact List.mem_cons_self)) hst

/-- A stamped splice of another requester than EXPIRY. -/
theorem stamp (h : Bonds r s) {v : VisitNo} {o : LogOutcome} {n : Option Nat} : Bonds r (s.stamp v o n).1 := by
  rw [stamp_eq]
  exact h.of_rest rfl rfl rfl rfl rfl

/-! ### The turns of the store -/

theorem serviceTurn {t : State} (h : execServiceTurn s = .next t) : Bonds s t := by
  obtain rfl := Host.Outcome.next.inj h
  split
  · split
    · exact (refl s).of_rest rfl rfl rfl rfl rfl
    · exact refl s
  · exact refl s

theorem allocation {t : State} (h : execAllocation s = .next t) : Bonds s t := by
  unfold execAllocation at h
  split at h
  · next hg =>
    have granted := granted_unstamped hg nofun
    split at h
    · obtain rfl := Host.Outcome.next.inj h
      exact granted.allocated
    · split at h
      · cases h
      · obtain rfl := Host.Outcome.next.inj h
        exact granted.withStore.reportList.allocated
  · obtain rfl := Host.Outcome.next.inj h
    exact refl s

theorem slotRead {t : State} (h : execSlotRead s = .next t) : Bonds s t := by
  unfold execSlotRead at h
  split at h
  · next hg =>
    simp only at h
    split at h
    · cases h
    · obtain rfl := Host.Outcome.next.inj h
      exact (granted_unstamped hg nofun).readBy
  · obtain rfl := Host.Outcome.next.inj h
    exact refl s

theorem slotWrite {t : State} (h : execSlotWrite s = .next t) : Bonds s t := by
  obtain rfl := Host.Outcome.next.inj h
  split
  · next hg =>
    have granted := granted_unstamped hg nofun
    split
    · exact granted.setStore.reportList.writtenBy
    · exact granted.writtenBy
  · exact refl s

theorem wholeListSplice {t : State} (h : execWholeListSplice s = .next t) : Bonds s t := by
  obtain rfl := Host.Outcome.next.inj h
  split
  · next hg => exact (granted_unstamped hg nofun).withStore.reportList.splicedBy
  · exact refl s

theorem stampedSplice {t : State} (h : execStampedSplice s = .next t) : Bonds s t := by
  obtain rfl := Host.Outcome.next.inj h
  split
  · next p _ _ _ hg =>
    by_cases hp : p = .expiry
    · subst hp
      exact grantedLapse hg
    · exact ((refl s).granted hp).stamp.follow.stampedBy hp
  · exact refl s

theorem headSplice {t : State} (h : execHeadSplice s = .next t) : Bonds s t := by
  obtain rfl := Host.Outcome.next.inj h
  split
  · next hg => exact (granted_unstamped hg nofun).withStore.headSplicedBy
  · exact refl s

theorem serviceTableGrant {t : State} (h : execServiceTableGrant s = .next t) : Bonds s t := by
  obtain rfl := Host.Outcome.next.inj h
  split
  · next p entries hg =>
    have loaded : Bonds s ({ s with service := entries, index := 0 }.setRequest p none) :=
      Bonds.of_rest (granted_unstamped hg nofun) rfl rfl rfl rfl rfl
    simp only
    split
    · exact loaded.answer
    · exact loaded
  · exact refl s

theorem storeCountsGrant {t : State} (h : execStoreCountsGrant s = .next t) : Bonds s t := by
  obtain rfl := Host.Outcome.next.inj h
  split
  · next hg =>
    simp only
    split
    · exact (granted_unstamped hg nofun).answer
    · exact granted_unstamped hg nofun
  · exact refl s

theorem turn {i : Instr} {t : State} (hi : Instr.isTurn i = true) (h : exec i s = .next t) : Bonds s t := by
  cases i with
  | serviceTurn => exact serviceTurn h
  | allocation => exact allocation h
  | slotRead => exact slotRead h
  | slotWrite => exact slotWrite h
  | wholeListSplice => exact wholeListSplice h
  | stampedSplice => exact stampedSplice h
  | headSplice => exact headSplice h
  | serviceTableGrant => exact serviceTableGrant h
  | storeCountsGrant => exact storeCountsGrant h
  | _ => cases hi

/-! ### Commands away from the store -/

theorem checkTaken {t : State} (h : execCheckTake s = .next t) : Bonds s t := by
  obtain rfl := Host.Outcome.next.inj h
  split
  · next hc hq => exact (Bonds.checkTake hc hq).present (by decide)
  · exact refl s

theorem classLookup {a : Asker} {t : State} (h : execClassLookup a s = .next t) : Bonds s t := by
  obtain rfl := Host.Outcome.next.inj h
  split
  · split
    · exact (refl s).checkAnswered.checkJudges fun _ hu _ => (refl s).checkAnswered.judgeGoesOn hu
    · exact refl s
  · split
    · exact (refl s).recheckGoesOn
    · exact refl s

theorem pairTest {a : Asker} {t : State} (h : execPairTest a s = .next t) : Bonds s t := by
  obtain rfl := Host.Outcome.next.inj h
  split
  · split
    · exact (refl s).checkAnswered.checkJudges fun _ hu _ => (refl s).checkAnswered.judgeGoesOn hu
    · exact refl s
  · split
    · exact (refl s).recheckGoesOn
    · exact refl s

theorem hoursVerdict {t : State} (h : execHoursVerdict s = .next t) : Bonds s t := by
  obtain rfl := Host.Outcome.next.inj h
  split
  · exact (refl s).checkAnswered.checkJudges fun _ hu _ => (refl s).checkAnswered.decideOutcome hu
  · exact refl s

theorem minuteEventTaken {t : State} (h : execMinuteEvent s = .next t) : Bonds s t := by
  obtain rfl := Host.Outcome.next.inj h
  split
  · exact (refl s).setTime.minuteEvent
  · exact refl s

theorem minuteEnd {t : State} (h : execMinuteEnd s = .next t) : Bonds s t := by
  obtain rfl := Host.Outcome.next.inj h
  split
  · exact (refl s).setTime
  · exact refl s

theorem sweepEntryRead {t : State} (h : execSweepEntryRead s = .next t) : Bonds s t := by
  obtain rfl := Host.Outcome.next.inj h
  split
  · exact (refl s).entryRead
  · exact refl s

theorem recheckContextRead {t : State} (h : execRecheckContextRead s = .next t) : Bonds s t := by
  obtain rfl := Host.Outcome.next.inj h
  split
  · exact (refl s).contextRead
  · exact refl s

/-- Every command but the turns, the grants and the resets. -/
theorem exec {i : Instr} {t : State} (hi : Instr.turnOrReset i = false) (h : exec i s = .next t) : Bonds s t := by
  cases i with
  | setTime hd m n => cases h; exact takeItem fun u => (refl u).onSetTime
  | adjustTime hd n => cases h; exact takeItem fun u => (refl u).onAdjustTime
  | rulesLoad hd x => cases h; exact takeItem fun u => (refl u).onRulesLoad
  | bandLoad hd a b c d e f => cases h; exact takeItem fun u => (refl u).onBandLoad
  | segLoad hd a b c => cases h; exact takeItem fun u => (refl u).onSegLoad
  | chunkSize hd n => cases h; exact takeItem fun u => (refl u).onChunkSize
  | serviceLoad hd ns => cases h; exact takeItem fun u => (refl u).onServiceLoad
  | settings hd a b c => cases h; exact takeItem fun u => (refl u).onSettings
  | identWrite hd a b => cases h; exact takeItem fun u => (refl u).onIdentWrite
  | start hd => cases h; exact takeItem fun u => (refl u).onStart
  | lock hd => cases h; exact takeItem fun u => (refl u).onLock
  | keep hd => cases h; exact takeItem fun u => (refl u).onKeep
  | restart hd => cases h; exact takeItem fun u => (refl u).onRestart
  | paperOpen hd v t n p q e b => cases h; exact takeItem fun u => (refl u).onPaperOpen
  | paperLines hd v t xs => cases h; exact takeItem fun u => (refl u).onPaperLines
  | visitAbort hd v t => cases h; exact takeItem fun u => (refl u).onVisitAbort
  | logTake hd n => cases h; exact takeItem fun u => (refl u).beginWalk
  | excTake hd n => cases h; exact takeItem fun u => (refl u).beginWalk
  | bayAssign hd v t b => cases h; exact takeItem fun u => (refl u).onBayAssign
  | bayRelease hd b => cases h; exact takeItem fun u => (refl u).onBayRelease
  | fill hd b c p f => cases h; exact takeItem fun u => (refl u).onFill
  | loadEnd hd b => cases h; exact takeItem fun u => (refl u).onLoadEnd
  | arrive hd a b f co cs => cases h; exact takeItem fun u => (refl u).onArrive
  | breakStart hd c => cases h; exact takeItem fun u => (refl u).onBreakStart
  | breakEnd hd c => cases h; exact takeItem fun u => (refl u).onBreakEnd
  | dispatch hd v t => cases h; exact takeItem fun u => (refl u).onDispatch
  | gatePassed hd v t c => cases h; exact takeItem fun u => (refl u).onGatePassed
  | sweepStart hd a b c => cases h; exact takeItem fun u => (refl u).onSweepStart
  | sweepStop hd => cases h; exact takeItem fun u => (refl u).onSweepStop
  | sweepRead hd => cases h; exact takeItem fun u => (refl u).answer
  | logPeek hd a b => cases h; exact takeItem fun u => (refl u).beginWalk
  | excPeek hd a b => cases h; exact takeItem fun u => (refl u).beginWalk
  | storeRead hd v => cases h; exact takeItem fun u => (refl u).onStoreRead
  | visitRead hd v b => cases h; exact takeItem fun u => (refl u).onVisitRead
  | driverRead hd a b => cases h; exact takeItem fun u => (refl u).onDriverRead
  | noteRead hd => cases h; exact takeItem fun u => (refl u).answer
  | noteClear hd a b => cases h; exact takeItem fun u => (refl u).onNoteClear
  | identRead hd => cases h; exact takeItem fun u => (refl u).answer
  | telegramStart l c => cases h; exact changeLink l _ s
  | telegramEnd l cs => cases h; exact changeLink l _ s
  | gap l => cases h; exact changeLink l _ s
  | tbasePulse => cases h; exact (refl s).pulse
  | minuteEnd => exact minuteEnd h
  | minuteEvent => exact minuteEventTaken h
  | checkTake => exact checkTaken h
  | classLookup a => exact classLookup h
  | pairTest a => exact pairTest h
  | hoursVerdict => exact hoursVerdict h
  | sweepEntryRead => exact sweepEntryRead h
  | recheckContextRead => exact recheckContextRead h
  | _ => cases hi

end Bonds

/-! ### Line and soft reset (R209) -/

/-- R128 of an idle DCU. -/
theorem QueueSound.of_idle {t : State} (hd : t.dcu = Dcu.idle)
    (hv : ∀ v, (t.visit v).state ≠ .queued ∧ (t.visit v).state ≠ .checking) : QueueSound t := by
  refine ⟨by rw [hd]; decide, by rw [hd]; exact .nil, fun v => iff_of_false ?_ (hv v).1,
    fun v => iff_of_false (hv v).2 ?_⟩
  · rw [hd]
    exact List.not_mem_nil
  · rw [hd]
    rintro ⟨c, ⟨⟩, _⟩

/-- R160 of an empty lapse list. -/
theorem LapsesSound.of_idle {t : State} (hl : t.logs.lapses = []) (hr : t.request .expiry = none)
    (hv : ∀ v, (t.visit v).state ≠ .lapsing) : LapsesSound t := by
  refine ⟨by rw [hl]; exact .nil, fun v => iff_of_false ?_ (hv v), by rw [hr, hl]; rfl⟩
  rw [hl]
  exact List.not_mem_nil

theorem Visit.settled_state (x : Visit) :
    x.settled.state ≠ .queued ∧ x.settled.state ≠ .checking ∧ x.settled.state ≠ .lapsing := by
  unfold Visit.settled
  cases hst : x.state with
  | queued => cases x.heldOrigin <;> simp
  | checking => cases x.heldOrigin <;> simp
  | arrived => cases x.arrivalMark <;> simp [hst, Visit.freed]
  | _ => simp [hst, Visit.freed]

/-- The reset work of a visit leaves one at a bay as it is (R45, R46). -/
theorem Visit.settled_sameBay (x : Visit) : x.SameBay x.settled := by
  unfold Visit.settled
  cases hst : x.state with
  | queued => exact .away (by rw [hst]; rfl) (by cases x.heldOrigin <;> rfl)
  | checking => exact .away (by rw [hst]; rfl) (by cases x.heldOrigin <;> rfl)
  | arrived => exact .away (by rw [hst]; rfl) (by cases x.arrivalMark <;> simp [hst, Visit.freed] <;> rfl)
  | cleared => exact .away (by rw [hst]; rfl) rfl
  | lapsing => exact .away (by rw [hst]; rfl) rfl
  | releasing => exact .away (by rw [hst]; rfl) rfl
  | aborting => exact .away (by rw [hst]; rfl) rfl
  | _ => exact .refl x

/-- What the reset work of the visits leaves as it is. -/
structure Apart (s t : State) : Prop where
  dcu      : t.dcu = s.dcu
  windows  : t.windows = s.windows
  lapses   : t.logs.lapses = s.logs.lapses
  requests : t.requests = s.requests

theorem settle_apart (s : State) (v : VisitNo) : Apart s ((s.settleState v).settlePaper v) := by
  rw [settle_eq]
  unfold settledBy
  rw [serveAll_eq]
  cases (s.serveAll (resetWork v (s.visit v))).2 with
  | false => exact ⟨rfl, rfl, rfl, rfl⟩
  | true => exact ⟨rfl, rfl, rfl, rfl⟩

theorem settleAll_apart (vs : List VisitNo) (s : State) : Apart s (State.settleAll vs s) := by
  induction vs generalizing s with
  | nil => exact ⟨rfl, rfl, rfl, rfl⟩
  | cons v vs ih =>
    obtain ⟨dcu, windows, lapses, requests⟩ := ih ((s.settleState v).settlePaper v)
    have a := settle_apart s v
    exact ⟨dcu.trans a.dcu, windows.trans a.windows, lapses.trans a.lapses, requests.trans a.requests⟩

theorem reset209_apart (s : State) : Apart s.discarded s.reset209 := by
  obtain ⟨x, h⟩ := reset209_eq s
  have begun : Apart s.discarded (resetBegun s) := by
    unfold resetBegun
    cases s.keeps <;> exact ⟨rfl, rfl, rfl, rfl⟩
  have worked := settleAll_apart (List.finRange 48) (resetBegun s)
  generalize State.settleAll (List.finRange 48) (resetBegun s) = u at h worked
  rw [h]
  exact ⟨worked.dcu.trans begun.dcu, worked.windows.trans begun.windows, worked.lapses.trans begun.lapses,
    worked.requests.trans begun.requests⟩

/-! ### Every command -/

/-- What a command keeps of the three relations, in a part at work and in any other. -/
structure KeepsRelations (s t : State) : Prop where
  queue   : (s.alive = true → QueueSound s) → t.alive = true → QueueSound t
  windows : WindowsSound s → WindowsSound t
  lapses  : (s.alive = true → LapsesSound s) → t.alive = true → LapsesSound t

namespace KeepsRelations

variable {s t : State}

/-- The relations of the part at work are those of its own step, and a part not at work takes up none. -/
theorem of_bonds (h : Bonds s t) (quiet : s.alive = false → t.alive = false) : KeepsRelations s t := by
  cases ha : s.alive with
  | true => exact ⟨fun q _ => h.queue (q ha), h.windows, fun l _ => h.lapses (l ha)⟩
  | false =>
    have dead := quiet ha
    exact ⟨fun _ ht => (by rw [dead] at ht; cases ht), h.windows, fun _ ht => (by rw [dead] at ht; cases ht)⟩

/-- A supply is lost or RST is asserted: the windows stand. -/
theorem of_dead (ht : t.alive = false) (hv : t.visits = s.visits) (hw : t.windows = s.windows) :
    KeepsRelations s t := by
  refine ⟨fun _ h => (by rw [ht] at h; cases h), fun w => ?_, fun _ h => (by rw [ht] at h; cases h)⟩
  exact w.congr (fun b => by unfold State.window; rw [hw]) (fun v => by rw [State.visit_congr hv]) fun v => by
    rw [State.visit_congr hv]
    exact fun _ _ => id

theorem reset209 (u : State) (hv : u.visits = s.visits) (hw : u.windows = s.windows) :
    KeepsRelations s u.reset209 := by
  have visit : ∀ v, u.reset209.visit v = (s.visit v).settled := fun v => by
    rw [reset209_visit, State.visit_congr hv]
  have apart := reset209_apart u
  refine ⟨fun _ _ => .of_idle apart.dcu fun v => ?_, fun w => w.congr (fun b => ?_) (fun v => ?_) fun v => ?_,
    fun _ _ => .of_idle apart.lapses ?_ fun v => ?_⟩
  · rw [visit]
    obtain ⟨noQueued, noChecking, _⟩ := (s.visit v).settled_state
    exact ⟨noQueued, noChecking⟩
  · unfold State.window
    rw [apart.windows, ← hw]
    rfl
  · rw [visit]
    exact (s.visit v).settled_sameBay.atBay
  · rw [visit]
    exact (s.visit v).settled_sameBay.fits
  · unfold State.request
    rw [apart.requests]
    exact tget_replicate _ _
  · rw [visit]
    exact (s.visit v).settled_state.2.2

/-- After a cold start every visit is FREE and every window unbound (R209). -/
theorem cold {b : BitRate} {cs : List Instr} (hv : t.visits = (State.cold b cs).visits)
    (hw : t.windows = (State.cold b cs).windows) (hd : t.dcu = (State.cold b cs).dcu)
    (hl : t.logs.lapses = (State.cold b cs).logs.lapses) (hr : t.requests = (State.cold b cs).requests) :
    KeepsRelations s t := by
  have free : ∀ v, (t.visit v).state = .free := fun v => by
    unfold State.visit
    rw [hv]
    exact congrArg Visit.state (tget_replicate _ _)
  have unbound : ∀ b, t.window b = none := fun b => by
    unfold State.window
    rw [hw]
    exact tget_replicate _ _
  have request : t.request .expiry = none := by
    unfold State.request
    rw [hr]
    exact tget_replicate _ _
  refine ⟨fun _ _ => .of_idle hd fun v => ?_, fun _ => ⟨fun b w hb => ?_, fun v h => ?_⟩,
    fun _ _ => .of_idle hl request fun v => ?_⟩
  · rw [free]
    decide
  · rw [unbound] at hb
    cases hb
  · rw [free] at h
    cases h
  · rw [free]
    decide

theorem lineReset {cause : ResetCause} {straps : Straps} (h : exec (.lineReset cause straps) s = .next t) :
    KeepsRelations s t := by
  obtain rfl := Host.Outcome.next.inj h
  split
  · split
    · exact of_bonds (.refl s) id
    · split
      · exact reset209 _ rfl rfl
      · next hp => exact of_dead (alive_of_power hp) rfl rfl
  · split
    · exact of_bonds (.refl s) id
    · split
      · next hr => exact of_dead (alive_of_rst hr) rfl rfl
      · exact reset209 _ rfl rfl

theorem replySent {l : LinkNo} (h : exec (.replySent l) s = .next t) : KeepsRelations s t := by
  obtain rfl := Host.Outcome.next.inj h
  split
  · exact reset209 s rfl rfl
  · exact of_bonds (Bonds.refl s).setLinks id
  · exact of_bonds (.refl s) id

theorem exec {i : Instr} (h : exec i s = .next t) : KeepsRelations s t := by
  cases hi : Instr.turnOrReset i with
  | false =>
    refine of_bonds (.exec hi h) fun ha => ?_
    rw [(KeepsCourse.exec hi h).quiet ha]
    exact ha
  | true =>
    cases hturn : Instr.isTurn i with
    | true =>
      refine of_bonds (.turn hturn h) fun ha => ?_
      rw [exec_turn_dead hturn ha h]
      exact ha
    | false =>
      cases i with
      | replySent l => exact replySent h
      | rstAssert =>
        cases h
        exact of_dead (alive_of_rst rfl) rfl rfl
      | lineReset c x => exact lineReset h
      | coldStart x y =>
        cases h
        exact cold (b := BitRate.ofStraps x y) (cs := s.pending) rfl rfl rfl rfl rfl
      | mainSupplyLoss =>
        obtain rfl := Host.Outcome.next.inj h
        split
        · exact of_dead (alive_of_power fun e => by cases e) rfl rfl
        · exact of_bonds (.refl s) id
      | backupSupplyLoss =>
        cases h
        exact cold (b := s.rate) (cs := s.pending) rfl rfl rfl rfl rfl
      | _ => simp_all [Instr.turnOrReset, Instr.isTurn]

end KeepsRelations

/-- Settles O58: the relations stand in a part at work because every piece of every step keeps them (`Bonds.exec`,
`Bonds.turn`), and after a reset or a cold start because no visit that they speak of is left (`KeepsRelations.exec`). -/
theorem visitRelationsAreKept : Obligations.VisitRelationsAreKept := by
  intro s t h
  unfold step at h
  split at h
  · cases h
    exact ⟨id, id, id⟩
  · next c cs _ =>
    obtain ⟨queue, windows, lapses⟩ := KeepsRelations.exec (s := { s with pending := cs }) h
    refine ⟨fun q => queue fun ha => ?_, fun w => windows ⟨w.bound, w.held⟩, fun l => lapses fun ha => ?_⟩
    · have q := q ha
      exact ⟨q.few, q.once, q.queued, q.checking⟩
    · have l := l ha
      exact ⟨l.once, l.lapsing, l.asked⟩

end Sys2Proof.Machine
end

section
/-! PROOFS. The hours verdict of a solo driver and of a crew (O51). -/

namespace Sys2Proof.Machine

theorem ceilDiv_le_iff {a b c : Nat} (hb : 0 < b) : ceilDiv a b ≤ c ↔ a ≤ c * b := by
  rw [ceilDiv, ← Nat.ceilDiv_eq_add_pred_div, ceilDiv_le_iff_le_mul hb, Nat.mul_comm]

/-- The breaks on the road are the fewest that carry the trip (R121, R140 step 5). -/
theorem roadBreaks_le_iff {r : RuleSet} (hl : 0 < r.lCont) (p cont b : Nat) :
    roadBreaks r p ((r.lCont : Int) - cont) ≤ b ↔ p + cont ≤ r.lCont + b * r.lCont := by
  unfold roadBreaks
  split
  · exact iff_of_true b.zero_le (by omega)
  · rw [ceilDiv_le_iff hl]
    omega

/-- R140: a solo driver with drive left before a break is due. -/
theorem soloVerdict_of_pos {r : RuleSet} {n q : Nat} {d : Driver} (h : d.cont < r.lCont) (p : Nat) :
    let m := d.remaining r n
    let drive := min m.day m.week - p
    let span := m.span - (q + roadBreaks r p m.cont * r.b : Nat)
    soloVerdict r n p q d =
      ⟨stepEight m drive span, saturateMargin (min drive span), failOf .driver (stepEight m drive span)⟩ :=
  if_neg (show ¬ (r.lCont : Int) - d.cont ≤ 0 by omega)

theorem failOf_eq_nil {who : FailItem} {v : Verdict} : failOf who v = [] ↔ v = .hoursOk := by
  unfold failOf
  split <;> simp [*]

/-- The first failure of a crew is the driver's, where the driver fails (R141). -/
theorem failOf_first {u w : Verdict} {f : FailItem × Verdict} {fs : List (FailItem × Verdict)}
    (h : failOf .driver u ++ failOf .coDriver w = f :: fs) : (if u ≠ .hoursOk then u else w) = f.2 := by
  by_cases hu : u = .hoursOk
  · rw [failOf, if_pos hu, List.nil_append, failOf] at h
    split at h
    · cases h
    · cases h
      exact if_neg (not_not.2 hu)
  · rw [failOf, if_neg hu] at h
    cases h
    exact if_pos hu

/-- R141: the verdict of a crew is that of the driver where it fails, else that of the co-driver. -/
theorem crewVerdict_eq (r : RuleSet) (n p q : Nat) (d k : Driver) :
    let drive (x : Driver) : Int := min (x.remaining r n).day (x.remaining r n).week - halfTrip p
    let span (x : Driver) : Int := (x.remaining r n).span - q
    let eight (x : Driver) : Verdict := stepEight (x.remaining r n) (drive x) (span x)
    crewVerdict r n p q d k =
      ⟨if eight d ≠ .hoursOk then eight d else eight k,
        saturateMargin (min (min (drive d) (span d)) (min (drive k) (span k))),
        failOf .driver (eight d) ++ failOf .coDriver (eight k)⟩ := by
  intro drive span eight
  unfold crewVerdict
  simp only
  split
  · next h =>
    have h : failOf .driver (eight d) ++ failOf .coDriver (eight k) = [] := h
    obtain ⟨hd, hk⟩ := List.append_eq_nil_iff.1 h
    rw [h, failOf_eq_nil.1 hd, failOf_eq_nil.1 hk]
    rfl
  · next h =>
    rw [failOf_first (u := eight d) (w := eight k) h]

/-- Settles O51: the road breaks are characterised by `roadBreaks_le_iff`, and the answers are those of
`soloVerdict_of_pos` and `crewVerdict_eq`. -/
theorem verdictsFollowTheFigures : Obligations.VerdictsFollowTheFigures := by
  intro r n p q d k hl rem sat span drive eight
  refine ⟨fun due => ?due, fun left => ?left, ?crew⟩
  case due => exact if_pos (show (r.lCont : Int) - d.cont ≤ 0 by omega)
  case left => exact ⟨_, fun b => (roadBreaks_le_iff hl p d.cont b).symm, soloVerdict_of_pos left p⟩
  case crew =>
    intro half dm sm km cm a
    have answer : a = _ := crewVerdict_eq r n p q d k
    rw [answer]
    exact ⟨rfl, rfl, rfl⟩

end Sys2Proof.Machine
end

section
/-! PROOFS. Reports to the DCU and HOURS_VERDICT (O19, O52). -/

namespace Sys2Proof.Machine

/-- R146: a check marked stale ends RETRY. -/
theorem endRetry_checking {s : State} {c : Check} (h : (s.visit c.visit).state = .checking) :
    s.endRetry c = { s with
      visits := tset s.visits c.visit { s.visit c.visit with
        state := .loaded, heldOrigin := false, clearance := none, lastCheck := some ⟨.retry, none, none, 0, 0⟩ }
      dcu := ⟨s.dcu.queue, none⟩
      links := (s.raise .gate .checkDone).links } := endCheck_checking h _ _ _

/-- Settles O19: the three branches of `State.report`. -/
theorem reportsMarkTheCheckStale : Obligations.ReportsMarkTheCheckStale := by
  refine fun s v => ⟨fun c hc hp hv => ⟨fun waits => ?waits, fun rests hst => ?rests⟩, fun other => ?other⟩
  case waits =>
    unfold State.report
    simp only [hc, hp, hv, waits, and_self, if_true]
    rfl
  case rests =>
    unfold State.report
    simp only [hc, hp, hv, rests, and_self, if_true]
    exact endRetry_checking hst
  case other =>
    unfold State.report
    split
    · rfl
    · next c hc =>
      refine if_neg ?_
      rintro ⟨hp, hv⟩
      rcases other c hc with ⟨noRead, noJudge⟩ | ⟨notAll, notThis⟩
      · exact hp.elim noRead noJudge
      · exact hv.elim notAll notThis

/-! ### The hours step (R138) -/

theorem hoursStep_eq_foldl (fs : List (FailItem × Verdict)) (j : Judge) :
    j.hoursStep fs = fs.foldl (fun j f => j.failIf f.1 f.2.reason) j := by
  induction fs generalizing j with
  | nil => rfl
  | cons f fs ih => exact ih _

theorem failIf_done (j : Judge) (item : FailItem) (r : Option Reason) : (j.failIf item r).done = j.done := by
  cases r <;> rfl

theorem hoursStep_done (fs : List (FailItem × Verdict)) (j : Judge) : (j.hoursStep fs).done = j.done := by
  induction fs generalizing j with
  | nil => rfl
  | cons f fs ih => exact (ih _).trans (failIf_done _ _ _)

section
variable {s : State} {c : Check}

/-- The check as HOURS_VERDICT leaves it for the decision (R138). -/
def Check.judged (c : Check) (a : HoursAnswer) : Check :=
  { c with
    judge := c.judge.hoursStep a.fails, verdict := some a.verdict, margin := some a.margin
    party := a.fails.head?.map Prod.fst, ask := none }

/-- HOURS_VERDICT as it is taken by a check of which the verdict is asked. -/
theorem exec_hoursVerdict (ha : s.alive = true) (hc : s.dcu.check = some c) (hask : c.ask = some .verdict) :
    exec .hoursVerdict s = .next ((s.setCheck (some { c with ask := none })).checkJudges fun k =>
      (s.setCheck (some { c with ask := none })).decideOutcome (k.judged
        (s.verdictFor c.driver c.coDriver ((c.paper.map Paper.p).getD 0) (c.paper.bind Paper.q)))) := by
  show execHoursVerdict s = _
  unfold execHoursVerdict
  simp only [checkAsk_eq ha hc hask, hc, checkAnswered_eq hc]
  rfl

theorem decideOutcome_fails (hf : 0 < c.judge.count) : s.decideOutcome c = s.endFail c := if_pos hf

theorem decideOutcome_builds (hf : ¬ 0 < c.judge.count) : s.decideOutcome c = s.beginBuild c := if_neg hf

end

/-- Settles O52: the verdict reaches the check (`exec_hoursVerdict`), which is abandoned (`checkJudges_abandon`), ends
RETRY (`endRetry_checking`) or FAIL (`endCheck_checking`), or begins its clearance. -/
theorem hoursVerdictsDecideTheCheck : Obligations.HoursVerdictsDecideTheCheck := by
  intro s c ha hc hask
  have hexec := exec_hoursVerdict ha hc hask
  refine ⟨fun hp => ?abandoned, fun hp hst => ⟨_, hexec, ?judged⟩⟩
  case abandoned =>
    refine ⟨_, hexec, ?_⟩
    rw [checkJudges_abandon (c := { c with ask := none }) rfl hp]
    exact State.startAbort_begins { s with dcu := ⟨s.dcu.queue, none⟩ } c.visit
  case judged =>
    intro p q a j
    have answer : s.verdictFor c.driver c.coDriver ((c.paper.map Paper.p).getD 0) (c.paper.bind Paper.q) = a := by
      cases hco : c.coDriver <;> simp only [a, hco] <;> rfl
    have judged : Check.judged { c with ask := none } a = { c with
        judge := j, verdict := some a.verdict, margin := some a.margin, party := a.fails.head?.map Prod.fst,
        ask := none } := by
      unfold Check.judged
      rw [hoursStep_eq_foldl]
    have inFlight : c.phase ≠ .abandon := by rw [hp]; decide
    rw [checkJudges_inFlight (c := { c with ask := none }) rfl inFlight, answer, judged]
    split
    · exact endRetry_checking (s := s.setCheck (some { c with ask := none })) (c := { c with ask := none }) hst
    · by_cases hf : 0 < j.count
      · rw [if_pos hf, decideOutcome_fails hf]
        exact endCheck_checking (s := s.setCheck (some { c with ask := none })) (c := { c with judge := j }) hst _ _ _
      · have loaded : j.loadedComps = c.judge.done.filter fun w => decide (0 < w.comp.net) := by
          unfold Judge.loadedComps
          rw [show j = c.judge.hoursStep a.fails from (hoursStep_eq_foldl _ _).symm, hoursStep_done]
          rfl
        rw [if_neg hf, decideOutcome_builds hf, State.beginBuild, State.clearanceHead, loaded]
        exact ⟨_, rfl, rfl⟩

end Sys2Proof.Machine
end

section
/-! PROOFS. The building of a clearance, its completion and its undoing (O53). -/

namespace Sys2Proof.Machine

section
variable {s : State} {c : Check} {v : VisitNo}

/-! ### The grants of CHECK (R130) -/

/-- A request presented in the place of the one just granted. -/
theorem tset_granted (s : State) (p : Requester) (q : Option Request) :
    tset (s.granted p).requests p.ix q = tset s.requests p.ix q := tset_tset _ _ _ _

theorem granted_withStore (s : State) (p : Requester) (st : Store) :
    ((s.granted p).withStore st).visits = s.visits ∧ ((s.granted p).withStore st).dcu = s.dcu ∧
      ((s.granted p).withStore st).logs = s.logs := by
  rw [State.withStore, State.follow_eq]
  generalize ((s.granted p).setStore st).follow.links = k
  exact ⟨rfl, rfl, rfl⟩

theorem check_alloc_refused {cls : AllocClass} {record : Record}
    (hg : s.grant = some (.check, .alloc (.pend v) cls record)) (hr : s.allocRefused (.pend v) cls record = true) :
    exec .allocation s = .next ((s.granted .check).checkAlloc none) := by
  show execAllocation s = _
  unfold execAllocation
  simp only [hg, hr, if_true]
  rfl

/-- A change of a PENDING list is reported to no one (R144). -/
theorem check_alloc_made {cls : AllocClass} {record : Record} {st : Store} {ref : SlotRef}
    (hg : s.grant = some (.check, .alloc (.pend v) cls record)) (hr : s.allocRefused (.pend v) cls record = false)
    (ha : s.store.allocate (.pend v) record = some (st, ref)) :
    exec .allocation s = .next (((s.granted .check).withStore st).checkAlloc (some ref)) := by
  show execAllocation s = _
  unfold execAllocation
  simp only [hg, hr, ha]
  rfl

theorem check_write {r : SlotRef} {f : WriteFields} (hg : s.grant = some (.check, .write (.pend v) r f)) :
    exec .slotWrite s = .next
      (((s.granted .check).setStore ((s.store.write s.time.minutes (.pend v) r f).getD s.store)).checkWrite
        (s.store.write s.time.minutes (.pend v) r f).isSome) := by
  show execSlotWrite s = _
  unfold execSlotWrite
  simp only [hg]
  cases hw : s.store.write s.time.minutes (.pend v) r f with
  | none =>
    rw [show s.store.write s.now (.pend v) r f = none from hw]
    rfl
  | some st =>
    rw [show s.store.write s.now (.pend v) r f = some st from hw]
    rfl

theorem check_splice {target : ListId} (hg : s.grant = some (.check, .splice (.pend v) target)) :
    exec .wholeListSplice s = .next
      ((s.granted .check).withStore (s.store.splice (.pend v) target)).checkSplice := by
  show execWholeListSplice s = _
  unfold execWholeListSplice
  simp only [hg]
  rfl

/-! ### Who takes an answer to the DCU (R147) -/

theorem checkTakes_abandon {f : Check → State} (hc : s.dcu.check = some c) (hp : c.phase = .abandon) :
    s.checkTakes f = s.abandoned c := by
  simp [State.checkTakes, hc, hp]

theorem checkTakes_inFlight {f : Check → State} (hc : s.dcu.check = some c) (hp : c.phase ≠ .abandon) :
    s.checkTakes f = f c := by
  simp [State.checkTakes, hc, hp]

/-- R39, R147: an abandoned check discards whatever is answered, and the abort goes on without it. -/
theorem checkTakes_abort_begins (f : Check → State) (hc : s.dcu.check = some c) (hp : c.phase = .abandon) :
    AbortBegins { s with dcu := ⟨s.dcu.queue, none⟩ } (s.checkTakes f) c.visit := by
  rw [checkTakes_abandon hc hp]
  exact State.startAbort_begins { s with dcu := ⟨s.dcu.queue, none⟩ } c.visit

/-! ### Placing and completing (R148 to R150) -/

theorem buildGoesOn_eq (s : State) (c : Check) (ref : SlotRef) :
    s.buildGoesOn c ref = { s with
      dcu := ⟨s.dcu.queue, some { c with build := c.build ++ [ref], left := c.left.tail }⟩
      requests := tset s.requests Requester.check.ix (some
        (match c.left with
          | w :: _ => .alloc (.pend c.visit) .opened w.record
          | [] => .write (.pend c.visit) ((c.build ++ [ref]).headD ref) (.complete s.time.minutes))) } := by
  unfold State.buildGoesOn
  cases hl : c.left with
  | nil =>
    cases c
    cases hl
    rfl
  | cons w ws => rfl

/-- R150, R152, R155, R156: the completing write ends the check PASS, with the next code from the counter, the release
window and N. -/
theorem endPass_checking (h : (s.visit c.visit).state = .checking) :
    s.endPass c = { s with
      visits := tset s.visits c.visit { s.visit c.visit with
        state := .cleared, heldOrigin := false, lastCheck := some ⟨.pass, none, none, 0, c.margin.getD 0⟩
        clearance := some ⟨if s.logs.codes < 65535 then s.logs.codes + 1 else 1,
          min (s.time.minutes + s.logs.window) 4294967295⟩ }
      dcu := ⟨s.dcu.queue, none⟩
      logs := { s.logs with codes := if s.logs.codes < 65535 then s.logs.codes + 1 else 1 }
      links := (s.raise .gate .checkDone).links } :=
  endCheck_checking (s := s.setLogs { s.logs with codes := State.nextCode s.logs.codes }) h _ _ _

end

/-- Settles O53: what each grant of CHECK does (`check_alloc_made`, `check_write`, `check_splice`), taken by a check in
flight or discarded by an abandoned one (`checkTakes_abort_begins`). -/
theorem clearancesAreBuilt : Obligations.ClearancesAreBuilt := by
  intro s c hc ends
  refine ⟨fun hp => ⟨fun record hg => ⟨fun hr => ⟨_, check_alloc_refused hg hr, ?_⟩,
      fun st ref hr ha => ⟨_, check_alloc_made hg hr ha, ?_⟩⟩, fun r f hg => ⟨_, check_write hg, ?_⟩,
      fun hg => ⟨_, check_splice hg, ?_⟩⟩,
    fun record hp hg => ?building, fun r f st hp hst hg hw => ?completed, fun hp hst hg => ?undone⟩
  · exact checkTakes_abort_begins (s := s.granted .check) _ hc hp
  · exact checkTakes_abort_begins (s := (s.granted .check).withStore st) _ hc hp
  · exact checkTakes_abort_begins (s := (s.granted .check).setStore _) _ hc hp
  · exact checkTakes_abort_begins (s := (s.granted .check).withStore _) _ hc hp
  case building =>
    have inFlight : c.phase ≠ .abandon := by rw [hp]; decide
    refine ⟨fun hr => ?_, fun st ref hr ha => ?_⟩
    · rw [check_alloc_refused hg hr, State.checkAlloc,
        checkTakes_inFlight (s := s.granted .check) hc inFlight, ← tset_granted s .check]
      rfl
    · rw [check_alloc_made hg hr ha, State.checkAlloc,
        checkTakes_inFlight (s := (s.granted .check).withStore st) hc inFlight, buildGoesOn_eq,
        ← tset_granted s .check]
      rfl
  case completed =>
    have inFlight : c.phase ≠ .abandon := by rw [hp]; decide
    have same (u : State) (visits : u.visits = s.visits) (dcu : u.dcu = s.dcu) (logs : u.logs = s.logs)
        (time : u.time = s.time) :
        ends .cleared ⟨.pass, none, none, 0, c.margin.getD 0⟩
          (some ⟨if s.logs.codes < 65535 then s.logs.codes + 1 else 1,
            min (s.time.minutes + s.logs.window) 4294967295⟩)
          (if s.logs.codes < 65535 then s.logs.codes + 1 else 1) u (u.endPass c) := by
      have visit : u.visit c.visit = s.visit c.visit := State.visit_congr visits _
      refine (endPass_checking (by rw [visit]; exact hst)).trans ?_
      rw [visits, visit, dcu, logs, time]
    have written := check_write hg
    rw [hw] at written
    refine ⟨_, written, ?_⟩
    have taken : ((s.granted .check).setStore st).checkWrite true = ((s.granted .check).setStore st).endPass c :=
      checkTakes_inFlight (s := (s.granted .check).setStore st) hc inFlight
    exact taken ▸ same _ rfl rfl rfl rfl
  case undone =>
    have inFlight : c.phase ≠ .abandon := by rw [hp]; decide
    have same (u : State) (visits : u.visits = s.visits) (dcu : u.dcu = s.dcu) (codes : u.logs.codes = s.logs.codes) :
        ends .held ⟨.logFull, none, none, 0, c.margin.getD 0⟩ none s.logs.codes u (u.endLogFull c) := by
      have visit : u.visit c.visit = s.visit c.visit := State.visit_congr visits _
      refine (endCheck_checking (s := u) (by rw [visit]; exact hst) _ _ _).trans ?_
      rw [visits, visit, dcu, ← codes]
      rfl
    have taken : ((s.granted .check).withStore (s.store.splice (.pend c.visit) .free)).checkSplice =
        ((s.granted .check).withStore (s.store.splice (.pend c.visit) .free)).endLogFull c :=
      checkTakes_inFlight (s := (s.granted .check).withStore _) hc inFlight
    refine ⟨_, check_splice hg, ?_⟩
    rw [taken]
    obtain ⟨visits, dcu, logs⟩ := granted_withStore s .check (s.store.splice (.pend c.visit) .free)
    exact same _ visits dcu (congrArg LogUnit.codes logs)

end Sys2Proof.Machine
end

section
/-! PROOFS. CHECK_TAKE, the walk of a check and the entry to judging (O48). -/

namespace Sys2Proof.Machine

/-! ### Failures are kept by the steps that follow (R139) -/

theorem fail_count_pos (j : Judge) (r : Reason) (item : Option FailItem) : 0 < (j.fail r item).count :=
  Nat.lt_min.2 ⟨Nat.succ_pos _, by decide⟩

theorem lineStep_count_pos (ls : List PaperLine) {j : Judge} (n : Nat) (h : 0 < j.count) :
    0 < (j.lineStep n ls).count := by
  induction ls generalizing j n with
  | nil => exact h
  | cons l ls ih =>
    unfold Judge.lineStep
    split
    · exact ih _ h
    · exact ih _ (fail_count_pos _ _ _)

theorem onward_count_pos {j : Judge} (h : 0 < j.count) : 0 < j.onward.1.count := by
  unfold Judge.onward
  simp only
  split
  · exact h
  · exact lineStep_count_pos _ _ h

/-! ### The reads of CHECK (R130, R132) -/

section
variable {s : State} {c : Check} {list : ListId} {at_ : Option SlotRef}

theorem checkReadLost_iff (hc : s.dcu.check = some c) {a : ReadAnswer} :
    s.checkReadLost a = true ↔ c.phase ≠ .abandon ∧ c.stale = false ∧ a = .moved := by
  simp [State.checkReadLost, hc, and_assoc]

theorem check_read_lost (hc : s.dcu.check = some c) (hg : s.grant = some (.check, .read list at_))
    (hp : c.phase ≠ .abandon) (hs : c.stale = false) (hm : s.store.read list at_ = .moved) :
    exec .slotRead s = .fault .neverTaken := by
  show execSlotRead s = _
  unfold execSlotRead
  simp only [hg, (checkReadLost_iff hc).2 ⟨hp, hs, hm⟩, and_self, if_true]

theorem check_read (hc : s.dcu.check = some c) (hg : s.grant = some (.check, .read list at_))
    (h : ¬ (c.phase ≠ .abandon ∧ c.stale = false ∧ s.store.read list at_ = .moved)) :
    exec .slotRead s = .next ((s.granted .check).checkRead list (s.store.read list at_)) := by
  show execSlotRead s = _
  unfold execSlotRead
  simp only [hg, (checkReadLost_iff hc).not.2 h]
  rfl

/-- What the check goes on to after an answer of its walk. -/
def State.walksOn (s : State) (c : Check) : WalkStep → State
  | .read j l r => (s.setCheck (some { c with judge := j })).present .check (.read l r)
  | .finished j => s.enterJudge c j
  | .moved => s

theorem checkRead_inFlight (hc : s.dcu.check = some c) (hp : c.phase ≠ .abandon) (hs : c.stale = false)
    (a : ReadAnswer) : s.checkRead list a = s.walksOn c (walk c.visit list c.judge a) := by
  unfold State.checkRead
  rw [checkJudges_inFlight hc hp, if_neg (by simp [hs])]
  cases walk c.visit list c.judge a <;> rfl

/-- An answer of the walk as it is taken in READ. -/
theorem check_walks {a : ReadAnswer} (hc : s.dcu.check = some c) (hg : s.grant = some (.check, .read list at_))
    (hp : c.phase = .read) (hs : c.stale = false) (ha : s.store.read list at_ = a) (hm : a ≠ .moved) :
    exec .slotRead s = .next ((s.granted .check).walksOn c (walk c.visit list c.judge a)) := by
  subst ha
  rw [check_read hc hg fun h => hm h.2.2,
    checkRead_inFlight (s := s.granted .check) hc (by rw [hp]; decide) hs]

theorem walksOn_read (s : State) (c : Check) (j : Judge) (l : ListId) (r : Option SlotRef) :
    (s.granted .check).walksOn c (.read j l r) = { s.granted .check with
      dcu := ⟨s.dcu.queue, some { c with judge := j }⟩
      requests := tset s.requests Requester.check.ix (some (.read l r)) } := by
  rw [← tset_granted s .check]
  rfl

/-! ### The entry to judging (R133, R138, R143) -/

theorem enterJudge_eq (s : State) (c : Check) (j : Judge) :
    s.enterJudge c j =
      s.judgeGoesOn { c with phase := .judge, ask := none } (j.paperStep c.paperState).onward := by
  unfold State.enterJudge State.judgeGoesOn
  rfl

/-- A visit without a paper has failed at the paper state step (R133). -/
theorem paperless_failed {j k : Judge} {a : Option Ask} (h : (j.paperStep .none).onward = (k, a)) : 0 < k.count := by
  have failed : 0 < (j.paperStep .none).onward.1.count := onward_count_pos (fail_count_pos _ _ _)
  rwa [h] at failed

end

/-- Settles O48: the answer of each read goes on with the walk (`check_walks`, `walksOn_read`) or enters judging
(`enterJudge_eq`), ends the check RETRY (`endRetry_checking`) or is discarded (`checkTakes_abort_begins`). -/
theorem checksAreTakenAndWalked : Obligations.ChecksAreTakenAndWalked := by
  refine ⟨fun s v queue ha hc hq hst => ?taken, fun s c list at_ hc hg => ?walked⟩
  case taken =>
    show execCheckTake s = _
    unfold execCheckTake State.changeVisit
    simp only [ha, hc, hq, hst, if_true]
    rfl
  case walked =>
    intro ended asks judges
    have judged {j : Judge} (h : exec .slotRead s = .next ((s.granted .check).enterJudge c j)) : judges j := by
      rw [enterJudge_eq] at h
      simp only [judges]
      generalize hk : (j.paperStep c.paperState).onward = k at h ⊢
      obtain ⟨k, ask⟩ := k
      rw [h]
      refine ⟨fun a ha => ?_, fun ha hp => ?_, fun ha hp hv => ?_⟩
      · cases ha
        exact congrArg Host.Outcome.next (judgeGoesOn_judge _ rfl rfl _ _)
      · cases ha
        rw [judgeGoesOn_judge _ rfl rfl]
        exact congrArg Host.Outcome.next (if_pos hp)
      · cases ha
        rw [judgeGoesOn_paperless_fails (c := { c with phase := .judge, ask := none }) rfl rfl hp
          (paperless_failed (hp ▸ hk))]
        exact congrArg Host.Outcome.next
          (endCheck_checking (s := s.granted .check) (c := { c with phase := .judge }) hv _ _ _)
    refine ⟨fun hp => ?abandoned, fun hp hs hv => ?stale, fun hp hs => ⟨fun ref x next hl hr => ?line,
      fun hl hr => ?noLine, fun ref x next hl hr => ?comp, fun hl hr => ?noComp, fun hm => ?moved⟩⟩
    case abandoned =>
      exact ⟨_, check_read hc hg fun h => h.1 hp, checkTakes_abort_begins (s := s.granted .check) _ hc hp⟩
    case stale =>
      have inFlight : c.phase ≠ .abandon := by rw [hp]; decide
      rw [check_read (s := s) hc hg fun h => by simp [hs] at h, State.checkRead,
        checkJudges_inFlight (s := s.granted .check) hc inFlight, if_pos hs]
      exact congrArg Host.Outcome.next (endRetry_checking (s := s.granted .check) hv)
    case line =>
      subst hl
      rw [check_walks hc hg hp hs hr nofun]
      cases next <;> exact congrArg Host.Outcome.next (walksOn_read _ _ _ _ _)
    case noLine =>
      subst hl
      rw [check_walks hc hg hp hs hr nofun]
      refine congrArg Host.Outcome.next ((walksOn_read _ _ _ _ _).trans ?_)
      rw [← hc]
      rfl
    case comp =>
      subst hl
      have walked := check_walks hc hg hp hs hr nofun
      cases next with
      | some n => exact walked.trans (congrArg Host.Outcome.next (walksOn_read _ _ _ _ _))
      | none => exact judged walked
    case noComp =>
      subst hl
      exact judged (check_walks hc hg hp hs hr nofun)
    case moved => exact check_read_lost hc hg (by rw [hp]; decide) hs hm

end Sys2Proof.Machine
end

section
/-! PROOFS. The steps of judging (O49). -/

namespace Sys2Proof.Machine

/-! ### The quantity test and the compartment step (R134, R135) -/

/-- The quantity test is two-sided (R135). -/
theorem quantityTest_eq (b : Band) (net declared : Nat) :
    let deviation : Int := (net : Int) - declared
    let allowed := max b.litres (declared * b.permille / 1000)
    quantityTest b net declared =
      (if deviation ≤ allowed ∧ -(allowed : Int) ≤ deviation then none else some .quantityOut,
        some (declared, deviation)) := by
  intro deviation allowed
  have within : deviation.natAbs ≤ allowed ↔ deviation ≤ allowed ∧ -(allowed : Int) ≤ deviation := by omega
  exact congrArg (·, some (declared, deviation)) (if_congr within rfl rfl)

section
variable {lines : List PaperLine} {c : Compartment} {n : Nat} {b : Band}

theorem compartmentCase_overfull (h : c.overfull = true) :
    compartmentCase lines c (.band n b) = (some .compartmentOver, none) := by
  unfold compartmentCase
  exact if_pos h

theorem compartmentCase_unrequired (ho : c.overfull = false) (hb : b.paperRequired = false) :
    compartmentCase lines c (.band n b) = (none, none) := by
  simp [compartmentCase, ho, hb]

/-- The lines of a compartment are looked at where the band requires a paper (R134). -/
theorem compartmentCase_required (ho : c.overfull = false) (hb : b.paperRequired = true) {mine : List PaperLine}
    (hm : (lines.filter fun l => l.comp == c.number) = mine) :
    (mine = [] → compartmentCase lines c (.band n b) = (some .lineMissing, none)) ∧
    (2 ≤ mine.length → compartmentCase lines c (.band n b) = (some .duplicateLine, none)) ∧
    ∀ l, mine = [l] → compartmentCase lines c (.band n b) =
      if c.product = some l.product then quantityTest b c.net l.declared else (some .productMismatch, none) := by
  simp only [compartmentCase, ho, hb, hm, Bool.false_eq_true, Bool.true_eq_false, if_false]
  match mine with
  | [] => exact ⟨fun _ => rfl, nofun, nofun⟩
  | [l] => exact ⟨nofun, fun h => absurd h (by simp), fun l h => by cases h; rfl⟩
  | _ :: _ :: _ => exact ⟨nofun, fun _ => rfl, nofun⟩

end

/-! ### The course of judging (R133, R134) -/

section
variable {j : Judge} {c : Compartment} {cs : List Compartment}

/-- A compartment that is not loaded passes to those judged. -/
theorem onward_empty (h : j.todo = c :: cs) (hn : c.net = 0) :
    j.onward = Judge.onward { j with done := j.done ++ [⟨c, none, none⟩], todo := cs } := by
  have unloaded : (!c.loaded) = true := by simp [Compartment.loaded, hn]
  have settled : j.settle = Judge.settle { j with done := j.done ++ [⟨c, none, none⟩], todo := cs } := by
    simp [Judge.settle, h, unloaded]
  unfold Judge.onward
  rw [settled]

theorem settle_loaded (h : j.todo = c :: cs) (hn : 0 < c.net) : j.settle = j := by
  have loaded : (!c.loaded) = false := by simp [Compartment.loaded, hn]
  cases j
  cases h
  simp [Judge.settle, loaded]

theorem onward_loaded (h : j.todo = c :: cs) (hn : 0 < c.net) : j.onward = (j, some (.lookup (c.product.getD 0))) := by
  unfold Judge.onward
  rw [settle_loaded h hn]
  simp only [h]

theorem onward_nil (h : j.todo = []) :
    let k := j.lineStep 1 j.lines
    j.onward = ({ k with pairs := k.pairsOf }, k.pairsOf.head?.map fun p => .pair p.1 p.2) := by
  have settled : j.settle = j := by
    cases j
    cases h
    simp [Judge.settle]
  unfold Judge.onward
  rw [settled]
  simp only [h]
  rfl

end

theorem lineMatches_iff (done : List WorkComp) (l : PaperLine) : lineMatches done l = true ↔
    ∃ w ∈ done, 0 < w.comp.net ∧ w.comp.number = l.comp ∧ w.comp.product = some l.product := by
  simp [lineMatches, Compartment.loaded, and_assoc]

/-! ### The pair tests (R137) -/

theorem pairTested_iff (j : Judge) (g h : Nat) : j.pairTested g h = true ↔
    g ≤ h ∧ if g = h then 2 ≤ (j.ofGroup g).length else j.ofGroup g ≠ [] ∧ j.ofGroup h ≠ [] := by
  unfold Judge.pairTested
  split
  · next e => simp [e]
  · next e =>
    have order : g < h ↔ g ≤ h := by omega
    simp [order, and_assoc]

theorem mem_pairsOf (j : Judge) (g h : Nat) : (g, h) ∈ j.pairsOf ↔ g ≤ 15 ∧ h ≤ 15 ∧ j.pairTested g h = true := by
  simp [Judge.pairsOf, Nat.lt_succ_iff (n := 15)]

/-- The pairs stand in ascending order of g and then of h. -/
theorem pairsOf_ascending (j : Judge) :
    j.pairsOf.Pairwise fun a b => a.1 < b.1 ∨ (a.1 = b.1 ∧ a.2 < b.2) := by
  unfold Judge.pairsOf
  refine List.pairwise_flatMap.2 ⟨fun g _ => ?_, ?_⟩
  · exact List.pairwise_map.2 ((List.pairwise_lt_range.filter _).imp fun h => .inr ⟨rfl, h⟩)
  · refine List.pairwise_lt_range.imp fun {g g'} hg x hx y hy => ?_
    obtain ⟨_, _, rfl⟩ := List.mem_map.1 hx
    obtain ⟨_, _, rfl⟩ := List.mem_map.1 hy
    exact .inl hg

theorem pairItem_eq (j : Judge) (g h : Nat) : j.pairItem g h =
    (if g = h then (j.ofGroup g)[1]? else (j.ofGroup h)[0]?).map FailItem.compartment := by
  rw [Judge.pairItem, List.head?_eq_getElem?]

/-- Settles O49: the cases of a loaded compartment (`compartmentCase_required`, `quantityTest_eq`), the course of
judging (`onward_empty`, `onward_loaded`, `onward_nil`) and the pairs tested (`mem_pairsOf`, `pairsOf_ascending`). -/
theorem judgingFollowsTheTables : Obligations.JudgingFollowsTheTables := by
  refine ⟨fun j r i => ⟨rfl, fun h => ?fails, fun h => ?failsAgain⟩, fun j => ⟨rfl, rfl, rfl, rfl, rfl⟩,
    fun _ _ => rfl,
    fun lines c n b => ⟨compartmentCase_overfull, compartmentCase_unrequired, fun ho hb => ?required⟩,
    fun j c cs a h => ⟨onward_empty h, onward_loaded h, ?lookup⟩, fun j h => onward_nil h, fun j l ls n => ?line,
    fun j g h => ?pair, pairsOf_ascending, fun j g h ps hps => ?takePair⟩
  case fails => simp [Judge.fail, h]
  case failsAgain =>
    obtain ⟨x, hx⟩ := Option.ne_none_iff_exists'.1 h
    simp [Judge.fail, hx]
  case required =>
    obtain ⟨missing, duplicate, one⟩ := compartmentCase_required (n := n) ho hb rfl
    refine ⟨missing, duplicate, fun l hl => ⟨fun hne => (one l hl).trans (if_neg hne), fun he => ?_⟩⟩
    exact (one l hl).trans ((if_pos he).trans (quantityTest_eq b c.net l.declared))
  case lookup =>
    unfold Judge.takeLookup
    simp only [h]
    cases (compartmentCase j.lines c a).1 <;> rfl
  case line =>
    rw [Judge.lineStep]
    by_cases hm : lineMatches j.done l = true
    · rw [if_pos hm, if_pos ((lineMatches_iff _ _).1 hm)]
    · rw [if_neg hm, if_neg fun h => hm ((lineMatches_iff _ _).2 h)]
  case pair =>
    rw [mem_pairsOf, pairTested_iff]
    exact ⟨fun ⟨_, hh, hle, ht⟩ => ⟨hle, hh, ht⟩, fun ⟨hle, hh, ht⟩ => ⟨hle.trans hh, hh, hle, ht⟩⟩
  case takePair =>
    unfold Judge.takePair
    simp only [hps]
    exact ⟨rfl, by rw [pairItem_eq]; rfl, fun _ => rfl⟩

end Sys2Proof.Machine
end

section
/-! PROOFS. The four log items: their walks, their grants and their replies (O47). -/

namespace Sys2Proof.Machine

/-! ### What a walk gathers (R165, R168) -/

namespace Gather

@[simp] theorem whole_log (g : Gather) (r : LogRecord) : (g.whole r).log = g.log := by
  unfold whole; split <;> rfl

@[simp] theorem whole_want (g : Gather) (r : LogRecord) : (g.whole r).want = g.want := by
  unfold whole; split <;> rfl

/-- A walk keeps the log and the count that it began with. -/
theorem take_walk (g : Gather) (r : Record) : (g.take r).log = g.log ∧ (g.take r).want = g.want := by
  unfold take
  split
  · split <;> simp
  · split
    · exact ⟨rfl, rfl⟩
    · dsimp only
      split <;> simp
  · exact ⟨rfl, rfl⟩

theorem whole_of_idle {g : Gather} (h : g.cur = none) (r : LogRecord) :
    g.whole r =
      if g.start ≤ r.head.seq.getD 0 then { g with got := g.got ++ [r], slots := g.slots + 1 + r.comps.length }
      else g := by
  cases g
  cases h
  rfl

/-- A compartment joins the record begun, which is whole with as many as its head gives (R165). -/
theorem take_comp {g : Gather} {x : LogHead} {before : List LogComp} (hcur : g.cur = some ⟨x, before⟩)
    (c : LogComp) :
    g.take (.logComp c) =
      if x.compCount ≤ before.length + 1 then g.whole ⟨x, before ++ [c]⟩
      else { g with cur := some ⟨x, before ++ [c]⟩ } := by
  unfold take
  simp only [hcur, List.length_append, List.length_singleton]

/-- The compartments that a begun record still lacks make it whole. -/
theorem foldl_take_comps {x : LogHead} (cs : List LogComp) (c : LogComp) {before : List LogComp} {g : Gather}
    (hcur : g.cur = some ⟨x, before⟩) (hcount : x.compCount = before.length + (c :: cs).length) :
    ((c :: cs).map Record.logComp).foldl take g = g.whole ⟨x, before ++ c :: cs⟩ := by
  rw [List.map_cons, List.foldl_cons, take_comp hcur]
  induction cs generalizing c before g with
  | nil =>
    rw [if_pos (show x.compCount ≤ before.length + 1 from hcount.le)]
    rfl
  | cons d ds ih =>
    simp only [List.length_cons] at hcount
    rw [if_neg (by omega), List.map_cons, List.foldl_cons, take_comp rfl,
      ih d rfl (by simp only [List.length_append, List.length_cons, List.length_nil]; omega), List.append_assoc]
    rfl

/-- The slots of one record, read in order, gather it or pass it over. -/
theorem foldl_take_record {g : Gather} {x : LogHead} {cs : List LogComp}
    (hc : x.compCount = cs.length) :
    (Record.logHead x :: cs.map Record.logComp).foldl take g = g.whole ⟨x, cs⟩ := by
  rw [List.foldl_cons]
  cases cs with
  | nil => exact if_pos hc
  | cons c cs =>
    have begun : g.take (.logHead x) = { g with cur := some ⟨x, []⟩ } := if_neg (by simp [hc])
    rw [begun, foldl_take_comps (before := []) cs c rfl (by simp [hc])]
    rfl

/-! ### The answers of a walk -/

variable {g : Gather} {ref n : SlotRef} {record : Record}

theorem walk_last : g.walk (.slot ref record none) = .stop (g.take record) := by
  unfold walk
  dsimp only
  split <;> rfl

/-- Below the count asked for a walk goes on to the next slot, and with it the walk stops. -/
theorem walk_on {more stop : Prop}
    (hmore : g.walk (.slot ref record (some n)) = .read (g.take record) n → more)
    (hstop : g.walk (.slot ref record (some n)) = .stop (g.take record) → stop) :
    if (g.take record).got.length < g.want then more else stop := by
  have want := (take_walk g record).2
  split
  · exact hmore (if_neg (by omega))
  · exact hstop (if_pos (by omega))

/-- The take record of a take that returned records (R167). -/
theorem takeRecord_cons {one : LogRecord} {more : List LogRecord} (h : g.got = one :: more) :
    g.takeRecord = some ⟨one.head.seq.getD 0, (((one :: more).getLast (by simp)).head.seq).getD 0,
      g.got.length, g.slots⟩ := by
  unfold takeRecord
  rw [h, List.head?_cons, List.getLast?_eq_some_getLast (List.cons_ne_nil _ _)]

end Gather

theorem takeOf_setTake (u : LogUnit) (m : LogId) (k : Option TakeRecord) : (u.setTake m k).takeOf m = k := by
  cases m <;> rfl

/-! ### The items taken, and the answers to them (R165 to R169) -/

section
variable {s : State} {l : LinkNo} {g w : Gather} {a : ReadAnswer}

/-- A log item taken: its count is checked, and its walk begins at the head of its log. -/
theorem walk_taken {h : Head} {i : Instr} {start : Gather} {job : Gather → Job} (ht : Taken s h i)
    (hexec : exec i s = done (s.takeItem h i fun s => s.beginWalk h.link start job)) :
    ∃ t, exec i s = .next t ∧
      if start.want < 1 ∨ 8 < start.want then Answered s t h i .malformed []
      else Waits s t h i (job start) (.read start.log.list none) := by
  obtain ⟨e, he⟩ := taken_executing ht
  refine ⟨_, hexec.trans (congrArg Host.Outcome.next (State.takeItem_taken _ ht)), ?_⟩
  unfold State.beginWalk
  split
  · exact State.answered_begin he _ _
  · exact State.waits_begin he _ _

theorem linkRead_take (hj : s.job l = some (.take g)) (a : ReadAnswer) : s.linkRead l a = s.takeRead l g a := by
  unfold State.linkRead
  simp only [hj]

theorem linkRead_peek (hj : s.job l = some (.peek g)) (a : ReadAnswer) : s.linkRead l a = s.peekRead l g a := by
  unfold State.linkRead
  simp only [hj]

theorem takeRead_more {n : SlotRef} (hj : s.job l = some (.take g)) (ha : g.walk a = .read w n) :
    Continues s (s.takeRead l g a) l (.take w) (.read w.log.list (some n)) := by
  unfold State.takeRead
  rw [ha]
  exact continues_of_job hj _ _

/-- R165: a take that stops without records ends, and one with records asks for the splice of exactly their slots. -/
theorem takeRead_stop (hj : s.job l = some (.take g)) (ha : g.walk a = .stop w) :
    if w.got = [] then
      Finished s (s.takeRead l g a) l .done (takeBytes s.cc.identity (s.logs.takeOf w.log) [])
    else Continues s (s.takeRead l g a) l (.take w) (.headSplice w.log w.slots) := by
  unfold State.takeRead
  rw [ha]
  dsimp only
  by_cases hgot : w.got = []
  · rw [if_pos hgot, if_pos (List.isEmpty_iff.2 hgot), State.takeReply, hgot]
    exact finished_of_job hj _ _
  · rw [if_neg hgot, if_neg (mt List.isEmpty_iff.1 hgot)]
    exact continues_of_job hj _ _

theorem peekRead_more {n : SlotRef} (hj : s.job l = some (.peek g)) (ha : g.walk a = .read w n) :
    Continues s (s.peekRead l g a) l (.peek w) (.read w.log.list (some n)) := by
  unfold State.peekRead
  rw [ha]
  exact continues_of_job hj _ _

theorem peekRead_stop (hj : s.job l = some (.peek g)) (ha : g.walk a = .stop w) :
    Finished s (s.peekRead l g a) l .done (peekBytes (s.logs.takeOf w.log) w.got) := by
  unfold State.peekRead
  rw [ha]
  exact finished_of_job hj _ _

theorem peekRead_moved (hj : s.job l = some (.peek g)) :
    Finished s (s.peekRead l g .moved) l .donePartial (peekBytes (s.logs.takeOf g.log) g.got) :=
  finished_of_job hj _ _

/-! ### Their grants -/

variable {list : ListId} {at_ : Option SlotRef}

theorem take_read (hg : s.grant = some (linkRequester l, .read list at_)) (hj : s.job l = some (.take g))
    (ha : s.store.read list at_ = a) :
    exec .slotRead s = .next ((s.granted (linkRequester l)).takeRead l g a) := by
  rw [read_granted hg, linkRead_take (s := s.granted _) hj, ha]

theorem peek_read (hg : s.grant = some (linkRequester l, .read list at_)) (hj : s.job l = some (.peek g))
    (ha : s.store.read list at_ = a) :
    exec .slotRead s = .next ((s.granted (linkRequester l)).peekRead l g a) := by
  rw [read_granted hg, linkRead_peek (s := s.granted _) hj, ha]

/-- The head splice of a take (R167). -/
theorem take_splice {m : LogId} {k : Nat} (hg : s.grant = some (linkRequester l, .headSplice m k))
    (hj : s.job l = some (.take g)) :
    exec .headSplice s = .next
      (((s.granted (linkRequester l)).withStore (s.store.headSplice m k).1).taken l g) := by
  have hjob := ((Undisturbed.grantStore s (linkRequester l) (s.store.headSplice m k).1).job l).trans hj
  show execHeadSplice s = _
  unfold execHeadSplice State.headSplicedBy
  simp only [hg, linkRequester_link, hjob]
  rfl

/-- R167: a take sets its take record and answers it with the records. -/
theorem taken_finished (hj : s.job l = some (.take w)) {k : Option TakeRecord} (hk : g.takeRecord = k) :
    Finished { s with logs := s.logs.setTake g.log k } (s.taken l g) l .done
      (takeBytes s.cc.identity k g.got) := by
  have finished := finished_of_job (r := s.setLogs (s.logs.setTake g.log k)) hj .done
    (takeBytes s.cc.identity ((s.logs.setTake g.log k).takeOf g.log) g.got)
  unfold State.taken
  rw [takeOf_setTake] at finished
  rw [hk, State.takeReply, show (s.setLogs (s.logs.setTake g.log k)).logs.takeOf g.log = k from takeOf_setTake _ _ _]
  exact finished

end

/-! ### The replies (R199) -/

/-- The fields of a peek's reply in front of its records. -/
def peekFields (k : Option TakeRecord) (n : Nat) : List (Nat × Int) :=
  [(1, k.isSome.toNat), (4, ((k.map TakeRecord.first).getD 0 : Nat)), (4, ((k.map TakeRecord.last).getD 0 : Nat)),
    (1, ((k.map TakeRecord.records).getD 0 : Nat)), (1, ((k.map TakeRecord.slots).getD 0 : Nat)), (1, n)]

theorem peekBytes_fields (k : Option TakeRecord) (rs : List LogRecord) :
    peekBytes k rs = ((peekFields k rs.length).flatMap fun f => wireBytes f.1 f.2) ++
      rs.flatMap fun r => headBytes r.head ++ r.comps.flatMap logCompBytes := by
  have opening : takeRecordBytes k ++ put8 rs.length = (peekFields k rs.length).flatMap fun f => wireBytes f.1 f.2 := by
    cases k <;>
      simp only [takeRecordBytes, peekFields, putBit_eq, put8_eq, put32_eq, List.flatMap_cons, List.flatMap_nil,
        List.append_assoc, List.append_nil] <;> rfl
  rw [← opening]
  rfl

/-- R199: the 12 bytes in front of the records. -/
theorem peekBytes_laidOut (k : Option TakeRecord) (n : Nat) :
    LaidOut ((peekFields k n).flatMap fun f => wireBytes f.1 f.2) 12
      [(0, 1, k.isSome.toNat), (1, 4, (k.map TakeRecord.first).getD 0), (5, 4, (k.map TakeRecord.last).getD 0),
        (9, 1, (k.map TakeRecord.records).getD 0), (10, 1, (k.map TakeRecord.slots).getD 0), (11, 1, n)] :=
  laidOut_of_fields _ rfl rfl rfl

/-- R199: the head of a record, 40 bytes. -/
theorem headBytes_laidOut (x : LogHead) :
    LaidOut (headBytes x) 40
      [(0, 4, x.seq.getD 0), (4, 1, (x.outcome.map LogOutcome.value).getD 0),
        (5, 1, (x.paperNo.isSome.toNat + 2 * x.clearMinute.isSome.toNat + 4 * x.passMinute.isSome.toNat : Nat)),
        (6, 1, x.visit.val), (7, 2, x.tag.toNat), (9, 4, x.tanker), (13, 4, x.driver), (17, 4, x.coDriver.getD 0),
        (21, 4, x.paperNo.getD 0), (25, 1, ((x.bay.map fun b => b.val + 1).getD 0 : Nat)),
        (26, 4, x.clearMinute.getD 0), (30, 4, x.passMinute.getD 0), (34, 2, x.p), (36, 2, x.margin),
        (38, 1, x.checkOutcome.value), (39, 1, x.compCount)] := by
  have present : bits [x.paperNo.isSome, x.clearMinute.isSome, x.passMinute.isSome] =
      x.paperNo.isSome.toNat + 2 * x.clearMinute.isSome.toNat + 4 * x.passMinute.isSome.toNat := by
    simp only [bits_cons, bits_nil]
    omega
  refine laidOut_of_fields [(4, (x.seq.getD 0 : Nat)), (1, ((x.outcome.map LogOutcome.value).getD 0 : Nat)),
    (1, (bits [x.paperNo.isSome, x.clearMinute.isSome, x.passMinute.isSome] : Nat)), (1, x.visit.val),
    (2, x.tag.toNat), (4, x.tanker), (4, x.driver), (4, (x.coDriver.getD 0 : Nat)), (4, (x.paperNo.getD 0 : Nat)),
    (1, ((x.bay.map bayNumber).getD 0 : Nat)), (4, (x.clearMinute.getD 0 : Nat)), (4, (x.passMinute.getD 0 : Nat)),
    (2, x.p), (2, x.margin), (1, x.checkOutcome.value), (1, x.compCount)] ?_ rfl ?_
  · simp only [headBytes, put8_eq, put16_eq, put32_eq, putInt16_eq, List.flatMap_cons, List.flatMap_nil,
      List.append_assoc, List.append_nil]
  · rw [present]
    rfl

/-- R199: a compartment entry of a record, 13 bytes. -/
theorem logCompBytes_laidOut (c : LogComp) :
    LaidOut (logCompBytes c) 13
      [(0, 1, c.number), (1, 1, (c.amended.toNat + 2 * c.declared.isSome.toNat : Nat)), (2, 2, c.product),
        (4, 1, c.group), (5, 2, c.net), (7, 2, c.declared.getD 0), (9, 4, c.deviation.getD 0)] := by
  have present : bits [c.amended, c.declared.isSome] = c.amended.toNat + 2 * c.declared.isSome.toNat := by
    simp only [bits_cons, bits_nil]
    omega
  refine laidOut_of_fields [(1, c.number), (1, (bits [c.amended, c.declared.isSome] : Nat)), (2, c.product),
    (1, c.group), (2, c.net), (2, (c.declared.getD 0 : Nat)), (4, c.deviation.getD 0)] ?_ rfl ?_
  · simp only [logCompBytes, put8_eq, put16_eq, putInt32_eq, List.flatMap_cons, List.flatMap_nil, List.append_assoc,
      List.append_nil]
  · rw [present]
    rfl

/-- Settles O47: the items as they are taken (`walk_taken`), what their walks gather (`Gather.foldl_take_record`), their
grants (`take_read`, `peek_read`, `take_splice`) and the layouts of their replies. -/
theorem takesAndPeeksWalkTheLogs : Obligations.TakesAndPeeksWalkTheLogs := by
  refine ⟨fun h count first s => ?begins, fun g x cs hcur hc => ?gathers,
    fun l g at_ ref record next s hg ha => ⟨fun hj => ⟨_, take_read hg hj ha, ?takes⟩,
      fun hj => ⟨_, peek_read hg hj ha, ?peeks⟩⟩,
    fun l g at_ s hg => ⟨fun ha hgot hj => ⟨_, take_read hg hj ha, ?takesNone⟩, fun hj => ?peekEnds⟩,
    fun l g k one more s hg hj hgot => ⟨_, take_splice hg hj, ?splices⟩,
    fun identity k rs => ⟨?identity, _, peekBytes_fields k rs, peekBytes_laidOut k rs.length⟩,
    headBytes_laidOut, logCompBytes_laidOut, rfl⟩
  case begins =>
    exact ⟨fun ht => walk_taken ht rfl, fun ht => walk_taken ht rfl, fun ht => walk_taken ht rfl,
      fun ht => walk_taken ht rfl⟩
  case gathers =>
    exact (Gather.foldl_take_record hc).trans (Gather.whole_of_idle hcur _)
  case takes =>
    have hj' : (s.granted (linkRequester l)).job l = some (.take g) := hj
    have log := (Gather.take_walk g record).1
    have stops {a : ReadAnswer} (hw : g.walk a = .stop (g.take record)) := log ▸ takeRead_stop hj' hw
    cases next with
    | none => exact stops Gather.walk_last
    | some n => exact Gather.walk_on (fun hw => log ▸ takeRead_more hj' hw) stops
  case peeks =>
    have hj' : (s.granted (linkRequester l)).job l = some (.peek g) := hj
    have log := (Gather.take_walk g record).1
    have stops {a : ReadAnswer} (hw : g.walk a = .stop (g.take record)) := log ▸ peekRead_stop hj' hw
    cases next with
    | none => exact stops Gather.walk_last
    | some n => exact Gather.walk_on (fun hw => log ▸ peekRead_more hj' hw) stops
  case takesNone =>
    have stops := takeRead_stop (s := s.granted (linkRequester l)) hj (a := .empty) rfl
    rwa [if_pos hgot] at stops
  case peekEnds =>
    refine ⟨_, peek_read hg hj rfl, fun ha => ?_, fun ha => ?_⟩
    · rw [ha]
      exact peekRead_stop (s := s.granted (linkRequester l)) hj rfl
    · rw [ha]
      exact peekRead_moved (s := s.granted (linkRequester l)) hj
  case splices =>
    have hjob := ((Undisturbed.grantStore s (linkRequester l) (s.store.headSplice g.log k).1).job l).trans hj
    exact taken_finished hjob (Gather.takeRecord_cons hgot)
  case identity =>
    rw [← put32_eq]
    rfl

end Sys2Proof.Machine
end

section
/-! PROOFS. SWEEP_START and SWEEP_STOP (O54). -/

namespace Sys2Proof.Machine

/-! ### What a run asks for (R8, R175, R176) -/

section
variable {s : State}

/-- A run presents its store request where no request of SWEEP waits (R8). -/
theorem sweepAsks_presents (h : s.request .sweep = none) (w : SweepWork) (q : Request) :
    s.sweepAsks w q = { s with
      sweep := { s.sweep with work := w }
      requests := tset s.requests Requester.sweep.ix (some q) } :=
  if_neg (show ¬ (s.request .sweep).isSome = true by simp [h])

/-- While the request of a stopped run waits, the store request of the next run is held back (R175). -/
theorem sweepAsks_defers (h : s.request .sweep ≠ none) (w : SweepWork) (q : Request) :
    s.sweepAsks w q = { s with sweep := { s.sweep with work := w, deferred := some q } } :=
  if_pos (show (s.request .sweep).isSome = true from Option.isSome_iff_ne_none.2 h)

section
variable {status : SweepStatus}

/-- HOURS_SCAN considers a record by its slot grant (R179). -/
theorem consider_hours (ho : status.opcode = some 1) (hr : s.request .sweep = none) :
    (s.setSweepStatus status).consider = { s with
      sweep := { s.sweep with status, work := .hoursGrant }
      requests := tset s.requests Requester.sweep.ix (some (.read .free none)) } :=
  (if_pos ho).trans (sweepAsks_presents (s := s.setSweepStatus status) hr _ _)

theorem consider_hours_defers (ho : status.opcode = some 1) (hr : s.request .sweep ≠ none) :
    (s.setSweepStatus status).consider =
      { s with sweep := { s.sweep with status, work := .hoursGrant, deferred := some (.read .free none) } } :=
  (if_pos ho).trans (sweepAsks_defers (s := s.setSweepStatus status) hr _ _)

/-- PAPER_RECHECK considers a record by the visit's context, which is no request at the store (R180, log 31). -/
theorem consider_recheck (ho : status.opcode ≠ some 1) :
    (s.setSweepStatus status).consider = { s with sweep := { s.sweep with status, work := .context } } :=
  if_neg ho

end

@[simp] theorem sweepAsks_links (w : SweepWork) (q : Request) : (s.sweepAsks w q).links = s.links := by
  unfold State.sweepAsks
  dsimp only
  split <;> rfl

@[simp] theorem consider_links : s.consider.links = s.links := by
  unfold State.consider
  split
  · exact sweepAsks_links _ _
  · rfl

end

/-! ### The Sweep Unit beside an item just taken -/

section
variable (s : State) (h : Head) (i : Instr)

@[simp] theorem State.begin_sweep : (s.begin h i).sweep = s.sweep := by
  rw [State.begin_eq]; rfl

theorem setSweep_begin (x : SweepUnit) : (s.begin h i).setSweep x = (s.setSweep x).begin h i :=
  State.begin_update (f := fun u => u.setSweep x) (fun _ => rfl) rfl

theorem present_begin (p : Requester) (q : Request) : (s.begin h i).present p q = (s.present p q).begin h i :=
  State.begin_update (f := fun u => u.present p q) (fun _ => rfl) rfl

theorem setSweepStatus_begin (t : SweepStatus) :
    (s.begin h i).setSweepStatus t = (s.setSweepStatus t).begin h i := by
  unfold State.setSweepStatus
  rw [State.begin_sweep, setSweep_begin]

theorem setSweepWork_begin (w : SweepWork) : (s.begin h i).setSweepWork w = (s.setSweepWork w).begin h i := by
  unfold State.setSweepWork
  rw [State.begin_sweep, setSweep_begin]

theorem sweepAsks_begin (w : SweepWork) (q : Request) : (s.begin h i).sweepAsks w q = (s.sweepAsks w q).begin h i := by
  unfold State.sweepAsks
  simp only [setSweepWork_begin, request_begin, State.begin_sweep, setSweep_begin, present_begin]
  split <;> rfl

theorem consider_begin : (s.begin h i).consider = s.consider.begin h i := by
  unfold State.consider
  rw [State.begin_sweep, sweepAsks_begin, setSweepWork_begin]
  split <;> rfl

theorem endSweep_begin (st : SweepState) : (s.begin h i).endSweep st = (s.endSweep st).begin h i := by
  unfold State.endSweep
  rw [State.begin_sweep, setSweepStatus_begin, setSweepWork_begin, raise_begin]

theorem stopSweep_begin : (s.begin h i).stopSweep = s.stopSweep.begin h i := by
  unfold State.stopSweep
  rw [endSweep_begin, request_begin, State.begin_sweep, setSweep_begin]

end

/-! ### The items as they are taken (R175, R183, R201) -/

theorem stopSweep_eq (s : State) : s.stopSweep = { s with sweep :=
    { status := { s.sweep.status with state := .aborted, position := none }, work := .none
      orphan := (s.request .sweep).isSome, deferred := none } }.raise .audit .sweepDone := rfl

/-- SWEEP_START as its block takes it, in the order of R175. -/
theorem onSweepStart_eq (s : State) (l : LinkNo) (opcode scope index : Nat) :
    let sc : Scope := if scope = 0 then .single index else .all
    s.onSweepStart l opcode scope index =
      if 1 < scope then s.refuse l .malformed
      else if s.sweep.status.state = .running then s.refuse l .busy
      else if opcode ≠ 1 ∧ opcode ≠ 2 then
        ((s.setSweepStatus (State.unsupportedStatus opcode)).raise .audit .sweepDone).answer l .done
          (sweepBytes (State.unsupportedStatus opcode))
      else if scope = 0 ∧ (if opcode = 1 then 255 else 47) < index then s.refuse l .malformed
      else
        ((s.setSweepStatus (State.startedStatus opcode sc)).consider).answer l .done
          (sweepBytes (State.startedStatus opcode sc)) := by
  match scope with
  | 0 => simp [State.onSweepStart, State.scope?, State.scopeFits, lastIndex]
  | 1 => simp [State.onSweepStart, State.scope?, State.scopeFits]
  | _ + 2 => simp [State.onSweepStart, State.scope?]

/-- The first record of a run, as it is considered at SWEEP_START (R175, order 5). -/
theorem consider_started (s : State) {opcode : Nat} (hs : ¬ (opcode ≠ 1 ∧ opcode ≠ 2)) (sc : Scope) :
    let status := State.startedStatus opcode sc
    (s.setSweepStatus status).consider =
      if opcode = 2 then { s with sweep := { s.sweep with status, work := .context } }
      else if s.request .sweep = none then
        { s with
          sweep := { s.sweep with status, work := .hoursGrant }
          requests := tset s.requests Requester.sweep.ix (some (.read .free none)) }
      else
        { s with sweep := { s.sweep with status, work := .hoursGrant, deferred := some (.read .free none) } } := by
  intro status
  obtain rfl | rfl : opcode = 1 ∨ opcode = 2 := by omega
  case inl =>
    rw [if_neg (by decide)]
    by_cases hr : s.request .sweep = none
    · rw [if_pos hr]
      exact consider_hours rfl hr
    · rw [if_neg hr]
      exact consider_hours_defers rfl hr
  case inr => exact consider_recheck (status := status) (show some 2 ≠ some 1 by decide)

section
variable {s : State} {h : Head} {i : Instr}

/-- An item is answered beside an update that touches no telegram executing. -/
theorem answered_beside (ht : Taken s h i) {r : State} (same : r.executing h.link = s.executing h.link) (c : Code)
    (d : List Byte) : Answered r ((r.begin h i).answer h.link c d) h i c d := by
  obtain ⟨e, he⟩ := taken_executing ht
  exact State.answered_begin (same.trans he) c d

theorem setSweep_raise_executing (s : State) (x : SweepUnit) (l m : LinkNo) (f : Flag) :
    ((s.setSweep x).raise l f).executing m = s.executing m :=
  (Undisturbed.raise (s.setSweep x) l f).executing m

/-- An item that begins a run is answered. -/
theorem consider_answered (ht : Taken s h i) (status : SweepStatus) (c : Code) (d : List Byte) :
    Answered (s.setSweepStatus status).consider
      (((s.begin h i).setSweepStatus status).consider.answer h.link c d) h i c d := by
  have links : (s.setSweepStatus status).consider.links = s.links := consider_links
  rw [setSweepStatus_begin, consider_begin]
  exact answered_beside ht (congrArg Link.executing (State.link_congr links h.link)) c d

end

/-- Settles O54: the checks in the order of `onSweepStart_eq`, the first record of a run as `consider_started` gives it
(`consider_answered`), and the run stopped as `stopSweep_eq` gives it (`answered_beside`). -/
theorem sweepsStartAndStop : Obligations.SweepsStartAndStop := by
  refine ⟨fun h opcode scope index s => ?start,
    fun h s ht => ⟨_, congrArg Host.Outcome.next (State.takeItem_taken _ ht), ?stop⟩⟩
  case start =>
    intro i ht
    refine ⟨_, congrArg Host.Outcome.next (State.takeItem_taken _ ht), ?_⟩
    intro last sc idle status
    have started : State.startedStatus opcode sc = status := by
      by_cases hs : scope = 0 <;> simp only [State.startedStatus, status, sc, hs, if_true, if_false]
    rw [onSweepStart_eq, State.begin_sweep]
    split
    · exact answered_unchanged ht _ _
    split
    · exact answered_unchanged ht _ _
    split
    · rw [setSweepStatus_begin, raise_begin]
      exact answered_beside ht (setSweep_raise_executing _ _ _ _ _) _ _
    split
    · exact answered_unchanged ht _ _
    next isSweep _ =>
      rw [← started, ← consider_started s isSweep sc]
      exact consider_answered ht _ _ _
  case stop =>
    unfold State.onSweepStop
    rw [State.begin_sweep, stopSweep_begin, stopSweep_eq]
    split
    · exact answered_beside ht (setSweep_raise_executing _ _ _ _ _) _ _
    · exact answered_unchanged ht _ _

end Sys2Proof.Machine
end

section
/-! PROOFS. The course of a sweep through its records (O55). -/

namespace Sys2Proof.Machine

section
variable {s : State}

/-! ### The run goes on or ends (R176) -/

theorem advanceSweep_on
    (h : s.sweep.status.scope = some .all ∧ s.sweep.status.position.getD 0 < lastIndex s.sweep.status.opcode) :
    s.advanceSweep =
      (s.setSweepStatus { s.sweep.status with position := some (s.sweep.status.position.getD 0 + 1) }).consider :=
  if_pos h

theorem advanceSweep_ends
    (h : ¬ (s.sweep.status.scope = some .all ∧ s.sweep.status.position.getD 0 < lastIndex s.sweep.status.opcode)) :
    s.advanceSweep = s.endSweep (if 0 < s.sweep.status.failures then .fail else .pass) :=
  if_neg h

@[simp] theorem sweepAsks_visits (w : SweepWork) (q : Request) : (s.sweepAsks w q).visits = s.visits := by
  unfold State.sweepAsks
  dsimp only
  split <;> rfl

/-- A run that goes on or ends leaves every visit as it is. -/
theorem advanceSweep_visits : s.advanceSweep.visits = s.visits := by
  unfold State.advanceSweep State.consider
  dsimp only
  split
  · split
    · exact sweepAsks_visits _ _
    · rfl
  · rfl

/-! ### The entry and the context of a record (R179, R180) -/

theorem sweepEntry_at {e : EntryNo} (hp : s.sweep.status.position = some e.val) : s.sweepEntry = s.driver e := by
  unfold State.sweepEntry
  rw [hp, Option.getD_some, fin?_lt e.isLt]
  rfl

theorem recheckExamines_iff (x : Visit) : State.recheckExamines x = true ↔
    (x.state = .loaded ∨ x.state = .queued ∨ x.state = .held ∨ x.state = .assigned) ∧ x.paperState = .complete := by
  simp [State.recheckExamines, or_assoc]

theorem contextRead_at {v : VisitNo} (hp : s.sweep.status.position = some v.val) : s.contextRead =
    if State.recheckExamines (s.visit v) then
      s.sweepAsks (.walk v (s.visit v).tag Judge.start) (.read (.paper v) none)
    else s.advanceSweep := by
  unfold State.contextRead
  rw [hp, Option.getD_some, fin?_lt v.isLt]

/-! ### The reads of SWEEP (R175, R180, R183) -/

section
variable {list : ListId} {at_ : Option SlotRef}

theorem sweep_read (hg : s.grant = some (.sweep, .read list at_)) :
    exec .slotRead s = .next ((s.granted .sweep).sweepRead list (s.store.read list at_)) := by
  show execSlotRead s = _
  unfold execSlotRead
  simp only [hg]
  rfl

/-- A request presented at the grant of the one before it. -/
theorem granted_sweepAsks (s : State) (w : SweepWork) (q : Request) : (s.granted .sweep).sweepAsks w q =
    { s.granted .sweep with
      sweep := { s.sweep with work := w }
      requests := tset s.requests Requester.sweep.ix (some q) } := by
  have free : (s.granted .sweep).request .sweep = none := State.request_setRequest_self _ _ _
  rw [sweepAsks_presents free, tset_granted]
  rfl

/-- The answer to a stopped run is discarded, and what the next run holds back is presented (R175, R183). -/
theorem sweepRead_orphan (ho : s.sweep.orphan = true) (a : ReadAnswer) : (s.granted .sweep).sweepRead list a =
    { s.granted .sweep with
      sweep := { s.sweep with orphan := false, deferred := none }
      requests := tset s.requests Requester.sweep.ix s.sweep.deferred } := by
  unfold State.sweepRead
  rw [if_pos (show (s.granted .sweep).sweep.orphan = true from ho), ← tset_granted s .sweep,
    show (s.granted .sweep).sweep = s.sweep from rfl]
  cases s.sweep.deferred with
  | none =>
    rw [tset_granted]
    rfl
  | some q => rfl

/-- The slot grant of HOURS_SCAN is followed by the read of the entry (R179). -/
theorem sweepRead_hours (ho : s.sweep.orphan = false) (hw : s.sweep.work = .hoursGrant) (a : ReadAnswer) :
    s.sweepRead list a = s.setSweepWork .hoursEntry := by
  simp [State.sweepRead, ho, hw]

theorem sweepRead_walk {v : VisitNo} {tag : Tag} {j : Judge} (ho : s.sweep.orphan = false)
    (hw : s.sweep.work = .walk v tag j) (a : ReadAnswer) : s.sweepRead list a = s.recheckRead v tag j list a := by
  simp [State.sweepRead, ho, hw]

end

end

/-- Settles O55: the run goes on (`consider_hours`, `consider_recheck`) or ends, the entry and the context at its
position are read (`sweepEntry_at`, `contextRead_at`), and an answer to SWEEP is discarded (`sweepRead_orphan`) or taken
by the walk (`sweepRead_walk`), which asks for its next slot (`granted_sweepAsks`) or is judged. -/
theorem sweepsExamineTheirRecords : Obligations.SweepsExamineTheirRecords := by
  refine ⟨fun s failed => ?result, fun s _ hr => ?advance, fun s e ha hw hp => ?entry, fun s v ha hw hr hp => ?context,
    fun s list at_ hg => ⟨fun ho => ?orphan, fun ho hw => ?hoursGrant, fun v tag j ho hw => ?walk⟩⟩
  case result => cases failed <;> rfl
  case advance =>
    intro t p
    by_cases on : t.scope = some .all ∧ p < if t.opcode = some 1 then 255 else 47
    · rw [advanceSweep_on on, if_pos on]
      by_cases hours : t.opcode = some 1
      · rw [if_pos hours]
        exact consider_hours (status := { t with position := some (p + 1) }) hours hr
      · rw [if_neg hours]
        exact consider_recheck (status := { t with position := some (p + 1) }) hours
    · rw [if_neg on]
      exact advanceSweep_ends on
  case entry =>
    refine (congrArg Host.Outcome.next (if_pos ⟨ha, hw⟩)).trans ?_
    unfold State.entryRead
    rw [sweepEntry_at hp]
    cases s.driver e <;> rfl
  case context =>
    refine (congrArg Host.Outcome.next (if_pos ⟨ha, hw⟩)).trans ?_
    rw [contextRead_at hp, sweepAsks_presents hr]
    exact congrArg Host.Outcome.next (if_congr (recheckExamines_iff _) rfl rfl)
  case orphan => rw [sweep_read hg, sweepRead_orphan ho]
  case hoursGrant =>
    rw [sweep_read hg]
    exact congrArg Host.Outcome.next (sweepRead_hours (s := s.granted .sweep) ho hw _)
  case walk =>
    intro r reads judges
    have read {a : ReadAnswer} (ha : s.store.read list at_ = a) :
        exec .slotRead s = .next (r.recheckRead v tag j list a) := by
      rw [sweep_read hg, ha]
      exact congrArg Host.Outcome.next (sweepRead_walk (s := r) ho hw a)
    have asks (j : Judge) (l : ListId) (i : Option SlotRef) :
        r.sweepAsks (.walk v tag j) (.read l i) = reads j l i := granted_sweepAsks s _ _
    have judged (j : Judge) : r.recheckGoesOn v tag j.onward = judges j := by
      simp only [judges]
      generalize j.onward = k
      obtain ⟨k, _ | a⟩ := k <;> rfl
    refine ⟨fun hm => ⟨read hm, advanceSweep_visits⟩, fun hl => ⟨fun he => ?noLine, fun ref x next hx => ?line⟩,
      fun hl => ⟨fun he => ?noComp, fun ref x next hx => ?comp⟩⟩
    case noLine =>
      subst hl
      exact (read he).trans (congrArg Host.Outcome.next (asks _ _ _))
    case line =>
      subst hl
      cases next <;> exact (read hx).trans (congrArg Host.Outcome.next (asks _ _ _))
    case noComp =>
      subst hl
      exact (read he).trans (congrArg Host.Outcome.next (judged _))
    case comp =>
      subst hl
      cases next with
      | some n => exact (read hx).trans (congrArg Host.Outcome.next (asks _ _ _))
      | none => exact (read hx).trans (congrArg Host.Outcome.next (judged _))

end Sys2Proof.Machine
end

section
/-! PROOFS. The end of a reply (O8). -/

namespace Sys2Proof.Machine

/-! ### REPLY_SENT (R188, R193) -/

section
variable {l : LinkNo} {s : State} {r : List Byte}

theorem replySent_restarts (ha : s.alive = true) (hr : (s.link l).replying = some (r, true)) :
    exec (.replySent l) s = .next s.reset209 := by
  show execReplySent l s = _
  unfold execReplySent
  rw [ha, hr]
  rfl

theorem replySent_ends (ha : s.alive = true) (hr : (s.link l).replying = some (r, false)) :
    exec (.replySent l) s = .next (s.setLink l (Link.wake l ((s.link l).putReplying .empty))) := by
  show execReplySent l s = _
  unfold execReplySent
  rw [ha, hr]
  rfl

/-- R208: a line reset at the release of an RST asserted before, with the straps as they were sampled, is the reset
alone. -/
theorem lineReset_sameStraps {p : Straps} (ha : s.alive = true) (hp : BitRate.ofStraps p.rate1 p.rate0 = s.rate) :
    exec (.lineReset .rstReleased p) { s with rst := true } = .next s.reset209 := by
  obtain ⟨hpower, hrst⟩ : s.power = .main ∧ s.rst = false := by simpa [State.alive] using ha
  have same : { s with rst := false, rate := BitRate.ofStraps p.rate1 p.rate0 } = s := by rw [hp, ← hrst]
  show done (if s.power = .main then { s with rst := false, rate := BitRate.ofStraps p.rate1 p.rate0 }.reset209
    else { s with rst := false }) = _
  rw [if_pos hpower, same]
  rfl

end

namespace Link
variable {l : LinkNo} {k : Link} {r : List Byte} {f : Bool}

theorem putReplying_bufA (h : k.bufA = .replying r f) (b : Buffer) : k.putReplying b = { k with bufA := b } := by
  simp only [putReplying, h]

theorem putReplying_bufB (h : k.bufB = .replying r f) (ha : k.bufA.busy = false) (b : Buffer) :
    k.putReplying b = { k with bufB := b } := by
  cases hA : k.bufA <;> simp_all [putReplying, Buffer.busy]

theorem replying_bufB (h : k.bufB = .replying r f) (ha : k.bufA.busy = false) : k.replying = some (r, f) := by
  cases hA : k.bufA <;> simp_all [replying, Buffer.busy]

/-! A telegram waiting in the other buffer begins to execute once a buffer is EMPTY (R188). -/

theorem wake_waitingB {w : Telegram} (h : k.bufB = .waiting w) :
    wake l { k with bufA := .empty } = { k with bufA := .empty, bufB := beginTelegram l w } := by
  simp [wake, h, Buffer.busy]

theorem wake_idleB (h : ∀ w, k.bufB ≠ .waiting w) : wake l { k with bufA := .empty } = { k with bufA := .empty } := by
  cases hB : k.bufB <;> simp_all [wake]

theorem wake_waitingA {w : Telegram} (h : k.bufA = .waiting w) :
    wake l { k with bufB := .empty } = { k with bufB := .empty, bufA := beginTelegram l w } := by
  simp [wake, h, Buffer.busy]

theorem wake_idleA (h : ∀ w, k.bufA ≠ .waiting w) : wake l { k with bufB := .empty } = { k with bufB := .empty } := by
  cases hA : k.bufA <;> simp_all [wake]

end Link

/-- Settles O8: REPLY_SENT begins the reset that a line reset at the same straps begins (`lineReset_sameStraps`), or
empties the one or the other buffer and wakes a telegram that waits in the other. -/
theorem repliesEndOrRestart : Obligations.RepliesEndOrRestart := by
  intro l s r ha
  refine ⟨fun hr p hp => ⟨_, replySent_restarts ha hr, lineReset_sameStraps ha hp⟩, fun hA => ?_, fun hB hfree => ?_⟩
  · rw [replySent_ends ha (r := r) (by simp only [Link.replying, hA]), Link.putReplying_bufA hA]
    split
    · next w hw => rw [Link.wake_waitingB hw]
    · next idle => rw [Link.wake_idleB idle]
  · rw [replySent_ends ha (Link.replying_bufB hB hfree), Link.putReplying_bufB hB hfree]
    split
    · next w hw => rw [Link.wake_waitingA hw]
    · next idle => rw [Link.wake_idleA idle]

end Sys2Proof.Machine
end

section
/-! PROOFS. The check of an item at its link, and the item after it (O14). -/

namespace Sys2Proof.Machine

/-! ### Items refused at their link (R191, R194, R203) -/

/-- Every item command is taken by `takeItem`, whatever its block then does. -/
theorem exec_item {h : Head} {i : Instr} (hi : i.head? = some h) (s : State) :
    ∃ block : State → State, exec i s = .next (s.takeItem h i block) := by
  cases i <;> cases hi <;> exact ⟨_, rfl⟩

/-- The kinds of a role besides those of every link, as R194 lists them. -/
def roleKinds : LinkNo → List Nat
  | .office => List.range' 1 18
  | .loading => [19, 20, 21, 22]
  | .gate => [16, 23, 24, 25, 26, 27]
  | .audit => [28, 29, 30, 31, 32, 33]

theorem mayUse_iff (l : LinkNo) (k : Nat) :
    mayUse l k = true ↔ k ∈ [34, 35, 36, 37, 38] ∨ k ∈ roleKinds l := by
  cases l <;>
    simp only [mayUse, roleKinds, Bool.or_eq_true, Bool.and_eq_true, decide_eq_true_eq, beq_iff_eq,
      List.mem_range'_1, List.mem_cons, List.not_mem_nil, or_false] <;> omega

theorem configRefuses_iff (k : Nat) :
    configRefuses k = true ↔ k ∈ [14, 15, 17, 18, 19, 20, 21, 22, 23, 24, 25, 26, 27] := by
  simp only [configRefuses, Bool.or_eq_true, Bool.and_eq_true, decide_eq_true_eq, beq_iff_eq, List.mem_cons,
    List.not_mem_nil, or_false]
  omega

/-- An item that meets one of the conditions of R191 is refused by the first of them, in their order. -/
theorem slRefusal_first {s : State} {l : LinkNo} {i : Instr} {e : Execution} (he : s.executing l = some e)
    (h : e.restart = true ∨ mayUse l i.kind = false ∨ (s.cc.run = .config ∧ configRefuses i.kind = true) ∨
      2048 < 7 + e.reply.length + 5 + replyRoom i) :
    s.slRefusal l i = some
      (if e.restart then .malformed
       else if mayUse l i.kind = false then .rights
       else if s.cc.run = .config ∧ configRefuses i.kind = true then .state
       else .malformed) := by
  unfold State.slRefusal
  simp only [he]
  by_cases restart : e.restart = true
  · simp only [restart, if_true]
  · simp only [restart, false_or, Bool.false_eq_true, if_false] at h ⊢
    split_ifs with rights config fits
    · rfl
    · rfl
    · rfl
    · exact absurd (show 2048 < _ by tauto) fits

/-! ### The item after it (R190 to R192) -/

section
variable (l : LinkNo) (e : Execution) {i : RawItem} {is : List RawItem}

theorem onward_last : Execution.onward l { e with left := [] } =
    .replying (putFrame e.number e.count e.reply) e.restart := rfl

theorem onward_next (h : decodeItem l i ≠ none) :
    Execution.onward l { e with left := i :: is } = .executing { e with left := i :: is, cur := none } := by
  obtain ⟨c, hc⟩ := Option.ne_none_iff_exists'.1 h
  simp [Execution.onward, refuseFormless, hc]

theorem onward_formless (h : decodeItem l i = none) :
    Execution.onward l { e with left := i :: is } = Execution.onward l
      { e with left := is, reply := e.reply ++ replyItem i.kind.toNat i.tag.toNat .malformed [] } := by
  simp [Execution.onward, refuseFormless, h]

end

/-- Settles O14: an item refused at its link (`slRefusal_first`) is answered, and the telegram goes on by its items to
come. -/
theorem linksRefuseItems : Obligations.LinksRefuseItems := by
  refine ⟨?refused, fun l k => ?rights, configRefuses_iff,
    fun l e => ⟨onward_last l e, fun i is => ⟨onward_next l e, onward_formless l e⟩⟩⟩
  case refused =>
    intro h i s e hi hn he room tooLong refused
    obtain ⟨block, hexec⟩ := exec_item hi s
    have hroom : replyRoom i = room := by
      cases i with
      | visitRead h v c => cases c <;> rfl
      | _ => rfl
    rw [State.takeItem_refused block hn (slRefusal_first he (hroom ▸ refused))] at hexec
    exact ⟨_, hexec, State.answered_begin he _ _⟩
  case rights =>
    rw [mayUse_iff]
    cases l <;> rfl

end Sys2Proof.Machine
end

section
/-! PROOFS. IDENT_WRITE, START, LOCK, KEEP and RESTART (O25). -/

namespace Sys2Proof.Machine

/-! ### The control registers beside an item just taken (R204, R206, R207) -/

@[simp] theorem State.begin_classes (s : State) (h : Head) (i : Instr) : (s.begin h i).classes = s.classes := by
  rw [State.begin_eq]; rfl

/-- An item that sets the control registers is answered on the state with these registers. -/
theorem answered_setCc {s : State} {h : Head} {i : Instr} (ht : Taken s h i) (x : Control) (c : Code)
    (d : List Byte) : Answered { s with cc := x } (((s.begin h i).setCc x).answer h.link c d) h i c d := by
  obtain ⟨e, he⟩ := taken_executing ht
  rw [State.begin_update (f := fun u => u.setCc x) (fun _ => rfl) rfl]
  exact State.answered_begin (r := s.setCc x) he c d

/-! ### IDENT_WRITE (R207) -/

theorem keepPresent_eq {α : Type} [DecidableEq α] (held carried : Option α) :
    State.keepPresent held carried = if held = none then carried else held := by
  cases held <;> rfl

section
variable {α β : Type} {x i : Option α} {y l : Option β}

theorem carries_pos : 0 < State.carries i ↔ i ≠ none := by
  cases i <;> simp [State.carries]

theorem writes_pos : 0 < State.writes x i ↔ x = none ∧ i ≠ none := by
  cases x <;> cases i <;> simp [State.writes]

theorem writes_le_carries : State.writes x i ≤ State.carries i := by
  cases x <;> cases i <;> simp [State.writes, State.carries]

theorem writes_lt_carries : State.writes x i < State.carries i ↔ x ≠ none ∧ i ≠ none := by
  cases x <;> cases i <;> simp [State.writes, State.carries]

/-- The outcome of an IDENT_WRITE that carries a field, by whether a field was kept and whether one was written. -/
theorem identCode_cases (some_carried : ¬ (i = none ∧ l = none)) {c : Code}
    (hc : c = if State.writes x i + State.writes y l = State.carries i + State.carries l then .done
      else if State.writes x i + State.writes y l = 0 then .ignored else .donePartial) :
    let kept := (x ≠ none ∧ i ≠ none) ∨ (y ≠ none ∧ l ≠ none)
    let wrote := (x = none ∧ i ≠ none) ∨ (y = none ∧ l ≠ none)
    (¬ kept → c = .done) ∧ (¬ wrote → c = .ignored) ∧ (kept → wrote → c = .donePartial) := by
  have hx := writes_le_carries (x := x) (i := i)
  have hy := writes_le_carries (x := y) (i := l)
  have carried : 0 < State.carries i ∨ 0 < State.carries l := by
    rw [carries_pos, carries_pos]
    tauto
  rw [hc, ← writes_lt_carries, ← writes_lt_carries, ← writes_pos, ← writes_pos]
  refine ⟨fun kept => if_pos (by omega), fun wrote => ?_, fun kept wrote => ?_⟩
  · rw [if_neg (by omega), if_pos (by omega)]
  · rw [if_neg (by omega), if_neg (by omega)]

end

theorem onIdentWrite_malformed {s : State} {l : LinkNo} {identity : Option Nat} {label : Option (List Byte)}
    (h : (identity = none ∧ label = none) ∨ identity = some 0) :
    s.onIdentWrite l identity label = s.refuse l .malformed := if_pos (by simpa using h)

theorem onIdentWrite_stored {s : State} {l : LinkNo} {identity : Option Nat} {label : Option (List Byte)}
    (h : ¬ ((identity = none ∧ label = none) ∨ identity = some 0)) :
    s.onIdentWrite l identity label =
      (let cc := { s.cc with
        identity := if s.cc.identity = none then identity else s.cc.identity
        label := if s.cc.label = none then label else s.cc.label }
      let written := State.writes s.cc.identity identity + State.writes s.cc.label label
      (s.setCc cc).answer l
        (if written = State.carries identity + State.carries label then .done
          else if written = 0 then .ignored else .donePartial) (identBytes cc)) := by
  rw [← keepPresent_eq, ← keepPresent_eq]
  exact if_neg (by simpa using h)

/-! ### START, LOCK and KEEP (R204, R206) -/

section
variable {s : State} {h : Head}

theorem start_answered (ht : Taken s h (.start h)) :
    let t := (s.begin h (.start h)).onStart h.link
    if s.cc.run = .run then Answered s t h (.start h) .already []
    else if s.classes.covers then Answered { s with cc := { s.cc with run := .run } } t h (.start h) .done []
    else Answered s t h (.start h) .tableInvalid [] := by
  intro t
  unfold t State.onStart
  simp only [State.begin_cc, State.begin_classes]
  split_ifs
  · exact answered_unchanged ht _ _
  · exact answered_setCc ht _ _ _
  · exact answered_unchanged ht _ _

theorem lock_answered (ht : Taken s h (.lock h)) :
    let t := (s.begin h (.lock h)).onLock h.link
    if s.cc.locked then Answered s t h (.lock h) .already []
    else if s.classes.covers then Answered { s with cc := { s.cc with locked := true } } t h (.lock h) .done []
    else Answered s t h (.lock h) .tableInvalid [] := by
  intro t
  unfold t State.onLock
  simp only [State.begin_cc, State.begin_classes]
  split_ifs
  · exact answered_unchanged ht _ _
  · exact answered_setCc ht _ _ _
  · exact answered_unchanged ht _ _

theorem keep_answered (ht : Taken s h (.keep h)) :
    let t := (s.begin h (.keep h)).onKeep h.link
    if s.cc.keep then Answered s t h (.keep h) .already []
    else Answered { s with cc := { s.cc with keep := true } } t h (.keep h) .done [] := by
  intro t
  unfold t State.onKeep
  simp only [State.begin_cc]
  split_ifs
  · exact answered_unchanged ht _ _
  · exact answered_setCc ht _ _ _

/-! ### RESTART (R193) -/

theorem begin_putExecuting {e : Execution} {i : Instr} (he : s.executing h.link = some e) (b : Buffer) :
    (s.begin h i).putExecuting h.link b = s.putExecuting h.link b := by
  simp only [State.begin, he, State.putExecuting_putExecuting he]

theorem executing_putExecuting {l : LinkNo} {e : Execution} (he : s.executing l = some e) (e' : Execution) :
    (s.putExecuting l (.executing e')).executing l = some e' := by
  show Link.executing (State.link _ l) = _
  rw [State.putExecuting, State.link_setLink_self]
  exact Link.executing_putExecuting he e'

/-- A RESTART is answered in its telegram, which it marks. -/
theorem onRestart_begin {e : Execution} (he : s.executing h.link = some e) :
    (s.begin h (.restart h)).onRestart h.link = s.putExecuting h.link (Execution.onward h.link
      { e with
        left := e.left.tail, cur := none, restart := true
        reply := e.reply ++ replyItem (Instr.restart h).kind h.tag .done [] }) := by
  simp only [State.onRestart, State.executing_begin he, begin_putExecuting he, State.answer,
    executing_putExecuting he, State.putExecuting_putExecuting he]
  rfl

end

/-- Settles O25: what IDENT_WRITE stores (`onIdentWrite_stored`) and its outcome (`identCode_cases`); START, LOCK and KEEP
by the register each sets (`answered_setCc`); and the telegram that RESTART marks (`onRestart_begin`). -/
theorem configurationItems : Obligations.ConfigurationItems := by
  refine ⟨?ident,
    fun h s => ⟨fun ht => ⟨_, congrArg Host.Outcome.next (State.takeItem_taken _ ht), start_answered ht⟩,
      fun ht => ⟨_, congrArg Host.Outcome.next (State.takeItem_taken _ ht), lock_answered ht⟩,
      fun ht => ⟨_, congrArg Host.Outcome.next (State.takeItem_taken _ ht), keep_answered ht⟩⟩,
    fun h s e ht he => ⟨_, congrArg Host.Outcome.next (State.takeItem_taken _ ht), ?restart⟩⟩
  case ident =>
    intro h identity label s i ht
    refine ⟨_, congrArg Host.Outcome.next (State.takeItem_taken _ ht), ?_⟩
    split
    · next bad => exact onIdentWrite_malformed bad ▸ answered_unchanged ht _ _
    · next good =>
      rw [onIdentWrite_stored good, State.begin_cc]
      exact ⟨_, answered_setCc ht _ _ _, identCode_cases (fun none => good (.inl none)) rfl⟩
  case restart =>
    rw [onRestart_begin he]
    refine ⟨rfl, State.flagsKept_putExecuting _ _ _, State.becomes_putExecuting _ _ _, fun last => ?_⟩
    rw [List.length_eq_one_iff] at last
    obtain ⟨i, hi⟩ := last
    simp only [hi, List.tail_cons]
    rfl

end Sys2Proof.Machine
end

section
/-! PROOFS. The items that only read, NOTE_CLEAR and ATTENTION (O26). -/

namespace Sys2Proof.Machine

/-! ### What an item just taken leaves to be read (R118, R125, R197) -/

section
variable (s : State) (h : Head) (i : Instr)

theorem begin_line (l : LinkNo) :
    ((s.begin h i).link l).flags = (s.link l).flags ∧ ((s.begin h i).link l).mask = (s.link l).mask := by
  unfold State.begin
  split
  · exact State.flagsKept_putExecuting s h.link _ l
  · exact ⟨rfl, rfl⟩

theorem driverReport_begin (e : Option EntryNo) : (s.begin h i).driverReport e = s.driverReport e := by
  rw [State.begin_eq]; rfl

end

/-! ### The items that only read (R37, R125, R184, R197, R207) -/

section
variable {s : State} {h : Head}

theorem noteRead_answered (ht : Taken s h (.noteRead h)) :
    Answered s ((s.begin h (.noteRead h)).onNoteRead h.link) h (.noteRead h) .done
      (put16 (s.link h.link).flags.toNat ++ put16 (s.link h.link).mask.toNat) := by
  obtain ⟨flags, mask⟩ := begin_line s h (.noteRead h) h.link
  rw [State.onNoteRead, flags, mask]
  exact answered_unchanged ht _ _

theorem identRead_answered (ht : Taken s h (.identRead h)) :
    Answered s ((s.begin h (.identRead h)).onIdentRead h.link) h (.identRead h) .done
      (identBytes s.cc ++ put8 s.cc.run.value ++ putBit s.cc.locked ++ putBit s.cc.keep) := by
  rw [State.onIdentRead, State.begin_cc]
  exact answered_unchanged ht _ _

theorem sweepRead_answered (ht : Taken s h (.sweepRead h)) :
    Answered s ((s.begin h (.sweepRead h)).onSweepRead h.link) h (.sweepRead h) .done
      (sweepBytes s.sweep.status) := by
  rw [State.onSweepRead, State.begin_sweep]
  exact answered_unchanged ht _ _

/-! Selector 0 asks by card, selector 1 by entry number, and no other spells a form (R125). -/

section
variable (u : State) (l : LinkNo) {selector value : Nat}

theorem onDriverRead_card (hv : value ≠ 0) :
    u.onDriverRead l 0 value = u.answer l .done (u.driverReport (u.entryOf value)) := if_neg hv

theorem onDriverRead_entry (hv : value < 256) :
    u.onDriverRead l 1 value = u.answer l .done (u.driverReport (some ⟨value, hv⟩)) := by
  simp only [State.onDriverRead, fin?_lt hv]

theorem onDriverRead_malformed (card : ¬ (selector = 0 ∧ value ≠ 0)) (entry : ¬ (selector = 1 ∧ value < 256)) :
    u.onDriverRead l selector value = u.refuse l .malformed := by
  rcases selector with _ | _ | n
  · exact if_pos (by simpa using card)
  · simp only [State.onDriverRead, fin?_ge fun hv => entry ⟨rfl, hv⟩]
  · rfl

end

theorem driverRead_answered {selector value : Nat} (ht : Taken s h (.driverRead h selector value)) :
    let i := Instr.driverRead h selector value
    let t := (s.begin h i).onDriverRead h.link selector value
    if selector = 0 ∧ value ≠ 0 then Answered s t h i .done (s.driverReport (s.entryOf value))
    else if hv : selector = 1 ∧ value < 256 then Answered s t h i .done (s.driverReport (some ⟨value, hv.2⟩))
    else Answered s t h i .malformed [] := by
  intro i t
  split_ifs with card entry
  · obtain ⟨rfl, hv⟩ := card
    rw [show t = _ from onDriverRead_card _ _ hv, State.begin_entryOf, driverReport_begin]
    exact answered_unchanged ht _ _
  · obtain ⟨rfl, hv⟩ := entry
    rw [show t = _ from onDriverRead_entry _ _ hv, driverReport_begin]
    exact answered_unchanged ht _ _
  · rw [show t = _ from onDriverRead_malformed _ _ card entry]
    exact answered_unchanged ht _ _

theorem visitRead_context {visit : Nat} (ht : Taken s h (.visitRead h visit false)) :
    let i := Instr.visitRead h visit false
    let t := (s.begin h i).onVisitRead h.link visit false
    if hv : visit < 48 then Answered s t h i .done (visitBytes ⟨visit, hv⟩ (s.visit ⟨visit, hv⟩) [])
    else Answered s t h i .malformed [] := by
  intro i t
  unfold t State.onVisitRead
  split_ifs with hv
  · simp only [fin?_lt hv, visit_begin, Bool.false_and, Bool.false_eq_true, if_false]
    exact answered_unchanged ht _ _
  · simp only [fin?_ge hv]
    exact answered_unchanged ht _ _

end

/-! ### ATTENTION (R196) -/

/-- The flags in the order of their positions (R196). -/
def Flag.inOrder : List Flag :=
  [.telegramError, .overrun, .paperClosed, .unrecorded, .mapMiss, .checkDone, .clearanceLapsed, .sweepDone, .logReady,
    .excReady, .storeLow]

theorem Flag.exists_position {n : Nat} (h : n < 11) : ∃ f : Flag, f.position = n := by
  have mem : n ∈ Flag.inOrder.map Flag.position := List.mem_range.2 h
  obtain ⟨f, _, hf⟩ := List.mem_map.1 mem
  exact ⟨f, hf⟩

theorem carried_position (l : LinkNo) : ∀ n < 16, (carried l).getLsbD n = true → n < 11 := by
  cases l <;> decide

/-- A position set in a word that a link may hold is that of a flag. -/
theorem flag_of_carried {l : LinkNo} {w : FlagWord} (hw : w &&& ~~~(carried l) = 0) {n : Nat}
    (hn : w.getLsbD n = true) : ∃ f : Flag, f.position = n := by
  have low : n < 16 := BitVec.lt_of_getLsbD hn
  have held : (carried l).getLsbD n = true := by
    have bit := congrArg (BitVec.getLsbD · n) hw
    simpa [hn, low] using bit
  exact Flag.exists_position (carried_position l n low held)

theorem and_ne_zero_iff (v w : FlagWord) : v &&& w ≠ 0 ↔ ∃ n, v.getLsbD n = true ∧ w.getLsbD n = true := by
  constructor
  · contrapose!
    intro none
    refine BitVec.eq_of_getLsbD_eq fun n _ => ?_
    have := none n
    simp_all
  · rintro ⟨n, hv, hw⟩ zero
    have bit := congrArg (BitVec.getLsbD · n) zero
    simp [hv, hw] at bit

theorem attention_iff {s : State} {l : LinkNo} (ha : s.alive = true) (hc : FlagsCarried s) :
    s.attention l = true ↔ ∃ f : Flag, hasFlag (s.link l).flags f = true ∧ hasFlag (s.link l).mask f = true := by
  have raised : s.attention l = true ↔ (s.link l).flags &&& (s.link l).mask ≠ 0 := by
    rw [State.attention, ha, Bool.true_and, decide_eq_true_eq]
  rw [raised, and_ne_zero_iff]
  constructor
  · rintro ⟨n, hf, hm⟩
    obtain ⟨f, rfl⟩ := flag_of_carried (hc l).1 hf
    exact ⟨f, hf, hm⟩
  · rintro ⟨f, hf, hm⟩
    exact ⟨f.position, hf, hm⟩

/-! ### NOTE_CLEAR (R197) -/

theorem hasFlag_conditionBits (f : Flag) : hasFlag conditionBits f = f.isCondition := by
  cases f <;> rfl

/-- A NOTE_CLEAR clears the event flags that it names alone. -/
theorem hasFlag_cleared (w clear : FlagWord) (f : Flag) :
    hasFlag (w &&& ~~~(clear &&& ~~~conditionBits)) f =
      (hasFlag w f && !(hasFlag clear f && f != .logReady && f != .excReady && f != .storeLow)) := by
  have low : f.position < 16 := by cases f <;> decide
  have event : (!hasFlag conditionBits f) = (f != .logReady && (f != .excReady && f != .storeLow)) := by
    cases f <;> rfl
  rw [Bool.and_assoc (hasFlag clear f && _), Bool.and_assoc (hasFlag clear f), ← event]
  simp [hasFlag, low]

section
variable (l : LinkNo) (k : Link) (clear : FlagWord) (mask : Option FlagWord)

/-- A NOTE_CLEAR and a telegram put do not touch each other. -/
theorem clearNotes_putExecuting (b : Buffer) :
    State.clearNotes l (k.putExecuting b) clear mask = (State.clearNotes l k clear mask).putExecuting b := by
  unfold State.clearNotes Link.putExecuting
  simp only
  split <;> rfl

theorem executing_setLink (s : State) : (s.setLink l k).executing l = k.executing := by
  rw [State.executing, State.link_setLink_self]

theorem clearNotes_begin {s : State} {h : Head} {i : Instr} {e : Execution} (he : s.executing h.link = some e) :
    (s.begin h i).setLink h.link (State.clearNotes h.link ((s.begin h i).link h.link) clear mask) =
      (s.setLink h.link (State.clearNotes h.link (s.link h.link) clear mask)).begin h i := by
  have he' := (executing_setLink h.link (State.clearNotes h.link (s.link h.link) clear mask) s).trans he
  simp only [State.begin, he, he', State.putExecuting, State.link_setLink_self, clearNotes_putExecuting]
  simp [State.setLink, State.setLinks]

end

theorem noteClear_answered {s : State} {h : Head} {clear : FlagWord} {mask : Option FlagWord}
    (ht : Taken s h (.noteClear h clear mask)) :
    let k := State.clearNotes h.link (s.link h.link) clear mask
    Answered (s.setLink h.link k) ((s.begin h (.noteClear h clear mask)).onNoteClear h.link clear mask) h
      (.noteClear h clear mask) .done
      (put16 (s.link h.link).flags.toNat ++ put16 k.flags.toNat ++ put16 k.mask.toNat) := by
  intro k
  obtain ⟨e, he⟩ := taken_executing ht
  obtain ⟨flags, mask_kept⟩ := begin_line s h (.noteClear h clear mask) h.link
  have flags_cleared : (State.clearNotes h.link ((s.begin h (.noteClear h clear mask)).link h.link) clear mask).flags =
      k.flags := by simp only [k, State.clearNotes, flags]
  have mask_stored : (State.clearNotes h.link ((s.begin h (.noteClear h clear mask)).link h.link) clear mask).mask =
      k.mask := by simp only [k, State.clearNotes, mask_kept]
  have block : (s.begin h (.noteClear h clear mask)).onNoteClear h.link clear mask =
      ((s.setLink h.link k).begin h (.noteClear h clear mask)).answer h.link .done
        (put16 (s.link h.link).flags.toNat ++ put16 k.flags.toNat ++ put16 k.mask.toNat) := by
    simp only [State.onNoteClear]
    rw [clearNotes_begin clear mask he, flags_cleared, mask_stored, flags]
  rw [block]
  exact State.answered_begin ((executing_setLink h.link k s).trans he) _ _

/-- Settles O26: the readers are answered beside an unchanged state (`answered_unchanged`); ATTENTION is high by a
position that both words hold, which is a flag's (`attention_iff`); NOTE_CLEAR changes one line (`noteClear_answered`). -/
theorem readersAndNoteClear : Obligations.ReadersAndNoteClear := by
  refine ⟨fun h s => ⟨fun ht => ⟨_, congrArg Host.Outcome.next (State.takeItem_taken _ ht), noteRead_answered ht⟩,
      fun ht => ⟨_, congrArg Host.Outcome.next (State.takeItem_taken _ ht), identRead_answered ht⟩,
      fun ht => ⟨_, congrArg Host.Outcome.next (State.takeItem_taken _ ht), sweepRead_answered ht⟩,
      fun selector value ht => ⟨_, congrArg Host.Outcome.next (State.takeItem_taken _ ht), driverRead_answered ht⟩,
      fun visit ht => ⟨_, congrArg Host.Outcome.next (State.takeItem_taken _ ht), visitRead_context ht⟩⟩,
    fun s l => ⟨fun held => ?held, attention_iff⟩, ?clears⟩
  case held =>
    rw [State.attention, held, Bool.false_and]
  case clears =>
    intro h clear mask s i ht
    exact ⟨_, congrArg Host.Outcome.next (State.takeItem_taken _ ht), hasFlag_cleared _ _, noteClear_answered ht⟩

end Sys2Proof.Machine
end

section
/-! PROOFS. Every item that fits its encoding is decoded as it was meant (O13). -/

namespace Sys2Proof

/-! ### Numbers on the wire (R198) -/

@[simp] theorem toNat_byteOf {n : Nat} (h : fits8 n = true) : (byteOf n).toNat = n :=
  Nat.mod_eq_of_lt (of_decide_eq_true h)

@[simp] theorem nat16_byteOf {n : Nat} (h : fits16 n = true) : nat16 (byteOf (n / 256)) (byteOf n) = n := by
  have low := of_decide_eq_true h
  simp only [nat16, byteOf, BitVec.toNat_ofNat]
  omega

@[simp] theorem nat32_byteOf {n : Nat} (h : fits32 n = true) :
    nat32 (byteOf (n / 65536 / 256)) (byteOf (n / 65536)) (byteOf (n / 256)) (byteOf n) = n := by
  have low := of_decide_eq_true h
  simp only [nat32, nat16, byteOf, BitVec.toNat_ofNat]
  omega

/-- Two's complement in two bytes. -/
theorem int16_byteOf {n : Int} (low : -32768 ≤ n) (high : n ≤ 32767) :
    int16 (byteOf ((n % 65536).toNat / 256)) (byteOf (n % 65536).toNat) = n := by
  rw [int16, nat16_byteOf (decide_eq_true (by omega))]
  split_ifs <;> omega

@[simp] theorem nat16_flags (w : FlagWord) : nat16 (byteOf (w.toNat / 256)) (byteOf w.toNat) = w.toNat :=
  nat16_byteOf (decide_eq_true w.isLt)

theorem bit?_ite (b : Bool) : bit? (if b then 1 else 0) = some b := by cases b <;> rfl

/-- The presence byte of an optional field. -/
def presenceByte {α : Type} (o : Option α) : Byte := if o.isSome then 1 else 0

theorem putOpt_eq (put : Nat → List Byte) (o : Option Nat) : putOpt put o = presenceByte o :: put (o.getD 0) := by
  cases o <;> rfl

theorem opt?_presenceByte {o : Option Nat} {n : Nat} (h : ∀ x ∈ o, n = x) : opt? (presenceByte o) n = some o := by
  cases o with
  | none => rfl
  | some x => rw [h x rfl]; rfl

@[simp] theorem opt?_byteOf {o : Option Nat} (h : optFits fits8 o = true) :
    opt? (presenceByte o) (byteOf (o.getD 0)).toNat = some o := by
  refine opt?_presenceByte fun x hx => ?_
  subst hx
  exact toNat_byteOf h

@[simp] theorem opt?_nat16 {o : Option Nat} (h : optFits fits16 o = true) :
    opt? (presenceByte o) (nat16 (byteOf (o.getD 0 / 256)) (byteOf (o.getD 0))) = some o := by
  refine opt?_presenceByte fun x hx => ?_
  subst hx
  exact nat16_byteOf h

@[simp] theorem opt?_nat32 {o : Option Nat} (h : optFits fits32 o = true) :
    opt? (presenceByte o) (nat32 (byteOf (o.getD 0 / 65536 / 256)) (byteOf (o.getD 0 / 65536)) (byteOf (o.getD 0 / 256))
      (byteOf (o.getD 0))) = some o := by
  refine opt?_presenceByte fun x hx => ?_
  subst hx
  exact nat32_byteOf h

/-! ### Fields of their own form (R19, R201, R207, section 5.3) -/

theorem getLines_putLines {ls : List PaperLine} (h : ls.all PaperLine.wf = true) :
    getLines ls.length (putLines ls) = some ls := by
  induction ls with
  | nil => rfl
  | cons l ls ih =>
    simp only [List.all_cons, PaperLine.wf, Bool.and_eq_true] at h
    obtain ⟨⟨⟨comp, product⟩, declared⟩, hls⟩ := h
    simp only [putLines, put8, put16, List.cons_append, List.nil_append, List.length_cons, getLines, ih hls,
      Option.map_some, toNat_byteOf comp, nat16_byteOf product, nat16_byteOf declared]

theorem getCapacities_putCapacities {cs : List (Option Nat)} (h : cs.all (optFits fits16) = true) :
    getCapacities cs.length (putCapacities cs) = some cs := by
  induction cs with
  | nil => rfl
  | cons c cs ih =>
    simp only [List.all_cons, Bool.and_eq_true] at h
    simp only [putCapacities, putOpt_eq, put16, List.cons_append, List.nil_append, List.length_cons, getCapacities,
      ih h.2, opt?_nat16 h.1]

theorem map_toNat_byteOf {ns : List Nat} (h : ns.all fits8 = true) : (ns.map byteOf).map BitVec.toNat = ns := by
  rw [List.map_map]
  refine (List.map_congr_left fun n hn => ?_).trans (List.map_id ns)
  exact toNat_byteOf (List.all_eq_true.1 h n hn)

/-- The bytes of a label field after its presence byte. -/
def labelBytes (o : Option (List Byte)) : List Byte := o.getD (List.replicate 16 0)

theorem putLabel_eq (o : Option (List Byte)) : putLabel o = presenceByte o :: labelBytes o := by
  cases o <;> rfl

theorem labelBytes_length {o : Option (List Byte)} (h : labelWf o = true) : (labelBytes o).length = 16 := by
  cases o with
  | none => rfl
  | some l => exact eq_of_beq h

theorem getLabel_putLabel {o : Option (List Byte)} (h : labelWf o = true) :
    getLabel (presenceByte o) (labelBytes o) = some o := by
  rw [getLabel, if_pos (labelBytes_length h)]
  cases o <;> rfl

/-! ### Bodies (R191, R194, R198, R201)

Each body is spelled by its bytes, and the decoder of its kind reads each field from its own bytes. -/

section
variable {h : Head}

/-- The items that set the part up (kinds 1 to 13). -/
theorem decodeSetup_body {i : Instr} (hw : i.wf = true) (hi : i.head? = some h) (hk : i.kind ≤ 13) :
    decodeSetup h i.kind i.body = some i := by
  cases i <;> cases hi <;> try (simp [Instr.kind] at hk; done)
  all_goals simp only [Instr.wf, Bool.and_eq_true] at hw
  case setTime minute seconds =>
    show some (Instr.setTime h (nat32 _ _ _ _) (BitVec.toNat _)) = _
    simp [hw]
  case adjustTime offset =>
    obtain ⟨⟨_, low⟩, high⟩ := hw
    show some (Instr.adjustTime h (int16 _ _)) = _
    rw [int16_byteOf (of_decide_eq_true low) (of_decide_eq_true high)]
  case rulesLoad r =>
    simp only [RuleSet.wf, Bool.and_eq_true] at hw
    show some (Instr.rulesLoad h ⟨nat16 _ _, nat16 _ _, nat16 _ _, nat16 _ _, nat16 _ _, nat16 _ _, nat16 _ _,
      nat16 _ _⟩) = _
    simp [hw]
  case bandLoad band upper group permille litres paperRequired =>
    show (bit? _).map (fun r => Instr.bandLoad h (BitVec.toNat _) (nat16 _ _) (BitVec.toNat _) (nat16 _ _)
      (nat16 _ _) r) = _
    rw [bit?_ite]
    simp [hw]
  case segLoad a b setting =>
    show some (Instr.segLoad h (BitVec.toNat _) (BitVec.toNat _) (BitVec.toNat _)) = _
    simp [hw]
  case chunkSize size =>
    show some (Instr.chunkSize h (BitVec.toNat _)) = _
    simp [hw]
  case serviceLoad entries =>
    obtain ⟨⟨_, bytes⟩, few⟩ := hw
    have count : (byteOf entries.length).toNat = entries.length :=
      toNat_byteOf (decide_eq_true (by have := of_decide_eq_true few; omega))
    have spelled : decodeSetup h 7 (byteOf entries.length :: entries.map byteOf) =
        some (.serviceLoad h ((entries.map byteOf).map BitVec.toNat)) :=
      if_pos (by rw [count, List.length_map])
    exact spelled.trans (by rw [map_toNat_byteOf bytes])
  case settings reserve window threshold =>
    have spelled : (Instr.settings h reserve window threshold).body = [presenceByte reserve, byteOf (reserve.getD 0),
        presenceByte window, byteOf (window.getD 0), presenceByte threshold, byteOf (threshold.getD 0)] := by
      simp only [Instr.body, putOpt_eq, put8, List.cons_append, List.nil_append]
    rw [spelled]
    show (match opt? _ (BitVec.toNat _), opt? _ (BitVec.toNat _), opt? _ (BitVec.toNat _) with
      | some x, some y, some z => some (Instr.settings h x y z)
      | _, _, _ => none) = _
    simp [hw]
  case identWrite identity label =>
    have spelled : (Instr.identWrite h identity label).body = presenceByte identity ::
        byteOf (identity.getD 0 / 65536 / 256) :: byteOf (identity.getD 0 / 65536) ::
        byteOf (identity.getD 0 / 256) :: byteOf (identity.getD 0) :: presenceByte label :: labelBytes label := by
      simp only [Instr.body, putOpt_eq, putLabel_eq, put32, put16, List.cons_append, List.nil_append]
    rw [spelled]
    show (match opt? _ (nat32 _ _ _ _), getLabel _ _ with
      | some x, some y => some (Instr.identWrite h x y)
      | _, _ => none) = _
    simp [hw, getLabel_putLabel]
  all_goals rfl

/-- The items that address a visit or a bay in their target field. -/
theorem decodeTarget_body {i : Instr} (hw : i.wf = true) (hi : i.head? = some h) (hk : targetKind i.kind = true) :
    decodeTarget h i.target.1.toNat (nat16 i.target.2.1 i.target.2.2) i.kind i.body = some i := by
  cases i <;> cases hi <;> try (simp [Instr.kind, targetKind] at hk; done)
  all_goals simp only [Instr.wf, Bool.and_eq_true] at hw
  case paperOpen visit vtag number p q expected replace =>
    have spelled : (Instr.paperOpen h visit vtag number p q expected replace).body =
        [byteOf (number / 65536 / 256), byteOf (number / 65536), byteOf (number / 256), byteOf number,
          byteOf (p / 256), byteOf p, presenceByte q, byteOf (q.getD 0 / 256), byteOf (q.getD 0), presenceByte expected,
          byteOf (expected.getD 0), if replace then 1 else 0] := by
      simp only [Instr.body, putOpt_eq, put32, put16, put8, putBit, List.cons_append, List.nil_append]
    rw [spelled]
    show (match opt? _ (nat16 _ _), opt? _ (BitVec.toNat _), bit? _ with
      | some q, some e, some r =>
          some (Instr.paperOpen h (BitVec.toNat _) (nat16 _ _) (nat32 _ _ _ _) (nat16 _ _) q e r)
      | _, _, _ => none) = _
    rw [bit?_ite]
    simp [Instr.target, hw]
  case paperLines visit vtag lines =>
    obtain ⟨⟨⟨⟨_, hv⟩, ht⟩, hl⟩, few⟩ := hw
    have count : (byteOf lines.length).toNat = lines.length :=
      toNat_byteOf (decide_eq_true (by have := of_decide_eq_true few; omega))
    show (getLines (byteOf lines.length).toNat (putLines lines)).map
      (fun ls => Instr.paperLines h (byteOf visit).toNat (nat16 _ _) ls) = _
    simp [Instr.target, count, getLines_putLines hl, hv, ht]
  case visitAbort visit vtag =>
    show some (Instr.visitAbort h (BitVec.toNat _) (nat16 _ _)) = _
    simp [Instr.target, hw]
  case bayAssign visit vtag bay =>
    show some (Instr.bayAssign h (BitVec.toNat _) (nat16 _ _) (BitVec.toNat _)) = _
    simp [Instr.target, hw]
  case bayRelease bay =>
    show some (Instr.bayRelease h (BitVec.toNat _)) = _
    simp [Instr.target, hw]
  case fill bay comp product figure =>
    show some (Instr.fill h (BitVec.toNat _) (BitVec.toNat _) (nat16 _ _) (nat16 _ _)) = _
    simp [Instr.target, hw]
  case loadEnd bay =>
    show some (Instr.loadEnd h (BitVec.toNat _)) = _
    simp [Instr.target, hw]
  case dispatch visit vtag =>
    show some (Instr.dispatch h (BitVec.toNat _) (nat16 _ _)) = _
    simp [Instr.target, hw]
  case gatePassed visit vtag code =>
    show some (Instr.gatePassed h (BitVec.toNat _) (nat16 _ _) (nat16 _ _)) = _
    simp [Instr.target, hw]
  case visitRead visit compartments =>
    show (bit? _).map (fun c => Instr.visitRead h (BitVec.toNat _) c) = _
    rw [bit?_ite]
    simp [Instr.target, hw]

/-- The co-driver of an ARRIVE is read back whether it is there or not. -/
theorem getArrive_body {tanker driver : Nat} {figures : Figures} {co : Option CoDriver}
    {capacities : List (Option Nat)} (hf : figures.wf = true) (hco : coWf co = true)
    (hc : capacities.all (optFits fits16) = true) (few : capacities.length ≤ 71) :
    getArrive h tanker driver
      (putFigures figures ++ putCo co ++ put8 capacities.length ++ putCapacities capacities) =
      some (.arrive h tanker driver figures co capacities) := by
  have count : (byteOf capacities.length).toNat = capacities.length :=
    toNat_byteOf (decide_eq_true (by omega))
  have caps : getCapacities (byteOf capacities.length).toNat (putCapacities capacities) = some capacities := by
    rw [count, getCapacities_putCapacities hc]
  simp only [Figures.wf, Bool.and_eq_true] at hf
  cases co with
  | none =>
    show (match bit? 0, getCapacities (byteOf capacities.length).toNat (putCapacities capacities) with
      | some present, some caps => some (Instr.arrive h tanker driver
          ⟨nat16 _ _, nat16 _ _, nat16 _ _, nat16 _ _, nat16 _ _⟩ (if present then _ else none) caps)
      | _, _ => none) = _
    rw [caps]
    simp [bit?, hf]
  | some c =>
    simp only [coWf, Figures.wf, Bool.and_eq_true] at hco
    show (match bit? 1, getCapacities (byteOf capacities.length).toNat (putCapacities capacities) with
      | some present, some caps => some (Instr.arrive h tanker driver
          ⟨nat16 _ _, nat16 _ _, nat16 _ _, nat16 _ _, nat16 _ _⟩
          (if present then
            some ⟨nat32 _ _ _ _, ⟨nat16 _ _, nat16 _ _, nat16 _ _, nat16 _ _, nat16 _ _⟩⟩ else none) caps)
      | _, _ => none) = _
    rw [caps]
    simp [bit?, hf, hco]

/-- The remaining items. -/
theorem decodeOther_body {i : Instr} (hw : i.wf = true) (hi : i.head? = some h) (hs : ¬ i.kind ≤ 13)
    (hk : targetKind i.kind = false) : decodeOther h i.kind i.body = some i := by
  cases i <;> cases hi <;> try (simp [Instr.kind, targetKind] at hs hk; done)
  all_goals simp only [Instr.wf, Bool.and_eq_true] at hw
  case logTake count =>
    show some (Instr.logTake h (BitVec.toNat _)) = _
    simp [hw]
  case excTake count =>
    show some (Instr.excTake h (BitVec.toNat _)) = _
    simp [hw]
  case arrive tanker driver figures co capacities =>
    obtain ⟨⟨⟨⟨⟨⟨_, ht⟩, hd⟩, hf⟩, hco⟩, hc⟩, few⟩ := hw
    show getArrive h (nat32 _ _ _ _) (nat32 _ _ _ _) _ = _
    rw [nat32_byteOf ht, nat32_byteOf hd]
    exact getArrive_body hf hco hc (of_decide_eq_true few)
  case breakStart card =>
    show some (Instr.breakStart h (nat32 _ _ _ _)) = _
    simp [hw]
  case breakEnd card =>
    show some (Instr.breakEnd h (nat32 _ _ _ _)) = _
    simp [hw]
  case sweepStart opcode scope index =>
    show some (Instr.sweepStart h (BitVec.toNat _) (BitVec.toNat _) (BitVec.toNat _)) = _
    simp [hw]
  case logPeek first count =>
    show some (Instr.logPeek h (nat32 _ _ _ _) (BitVec.toNat _)) = _
    simp [hw]
  case excPeek first count =>
    show some (Instr.excPeek h (nat32 _ _ _ _) (BitVec.toNat _)) = _
    simp [hw]
  case storeRead visit =>
    have spelled : (Instr.storeRead h visit).body = [presenceByte visit, byteOf (visit.getD 0)] := putOpt_eq put8 visit
    rw [spelled]
    show (opt? _ (BitVec.toNat _)).map (fun v => Instr.storeRead h v) = _
    simp [hw]
  case driverRead selector value =>
    show some (Instr.driverRead h (BitVec.toNat _) (nat32 _ _ _ _)) = _
    simp [hw]
  case noteClear clear mask =>
    have spelled : (Instr.noteClear h clear mask).body = [byteOf (clear.toNat / 256), byteOf clear.toNat,
        presenceByte (mask.map BitVec.toNat), byteOf ((mask.map BitVec.toNat).getD 0 / 256),
        byteOf ((mask.map BitVec.toNat).getD 0)] := by
      simp only [Instr.body, putOpt_eq, put16, List.cons_append, List.nil_append]
    have fits : optFits fits16 (mask.map BitVec.toNat) = true := by
      cases mask with
      | none => rfl
      | some m => exact decide_eq_true m.isLt
    rw [spelled]
    show (opt? _ (nat16 _ _)).map (fun m =>
      Instr.noteClear h (BitVec.ofNat 16 (nat16 _ _)) (m.map (BitVec.ofNat 16))) = _
    rw [opt?_nat16 fits, nat16_flags]
    cases mask <;> simp
  all_goals rfl

theorem kind_fits (i : Instr) : fits8 i.kind = true := by cases i <;> rfl

theorem tag_fits {i : Instr} (hw : i.wf = true) (hi : i.head? = some h) : fits8 h.tag = true := by
  cases i <;> cases hi <;> simp only [Instr.wf, Bool.and_eq_true] at hw <;> simp only [hw]

/-- R191, order 2: an item that fits its encoding is decoded on its link as it was meant. -/
theorem decodeItem_encodeItem {i : Instr} (hw : i.wf = true) (hi : i.head? = some h) :
    decodeItem h.link (encodeItem h i) = some i := by
  simp only [decodeItem, encodeItem, toNat_byteOf (kind_fits i), toNat_byteOf (tag_fits hw hi)]
  split_ifs with setup target
  · exact decodeSetup_body hw hi setup
  · exact decodeTarget_body hw hi target
  · exact decodeOther_body hw hi setup (Bool.eq_false_iff.2 target)

/-! ### Lengths (11.6) -/

@[simp] theorem put8_length (n : Nat) : (put8 n).length = 1 := rfl
@[simp] theorem put16_length (n : Nat) : (put16 n).length = 2 := rfl
@[simp] theorem put32_length (n : Nat) : (put32 n).length = 4 := rfl
@[simp] theorem putBit_length (b : Bool) : (putBit b).length = 1 := rfl
@[simp] theorem putInt16_length (n : Int) : (putInt16 n).length = 2 := rfl
@[simp] theorem putFigures_length (f : Figures) : (putFigures f).length = 10 := rfl
@[simp] theorem putCo_length (c : Option CoDriver) : (putCo c).length = 15 := by cases c <;> rfl

@[simp] theorem putOpt_length (put : Nat → List Byte) (o : Option Nat) :
    (putOpt put o).length = 1 + (put (o.getD 0)).length := by
  rw [putOpt_eq, List.length_cons, Nat.add_comm]

theorem putLines_length (ls : List PaperLine) : (putLines ls).length = 5 * ls.length := by
  induction ls with
  | nil => rfl
  | cons l ls ih =>
    simp only [putLines, List.length_append, put8_length, put16_length, ih, List.length_cons]
    omega

theorem putCapacities_length (cs : List (Option Nat)) : (putCapacities cs).length = 3 * cs.length := by
  induction cs with
  | nil => rfl
  | cons c cs ih =>
    simp only [putCapacities, List.length_append, putOpt_length, put16_length, ih, List.length_cons]
    omega

/-- An item of a body within its form fits the item length byte with its header of 6 bytes. -/
theorem body_length_le {i : Instr} (hw : i.wf = true) : i.body.length ≤ 249 := by
  cases i
  case serviceLoad h entries =>
    simp only [Instr.wf, Bool.and_eq_true, decide_eq_true_eq] at hw
    simp [Instr.body]
    omega
  case identWrite h identity label =>
    simp only [Instr.wf, Bool.and_eq_true] at hw
    simp [Instr.body, putLabel_eq, labelBytes_length hw.2]
  case paperLines h visit vtag lines =>
    simp only [Instr.wf, Bool.and_eq_true, decide_eq_true_eq] at hw
    simp [Instr.body, putLines_length]
    omega
  case arrive h tanker driver figures co capacities =>
    simp only [Instr.wf, Bool.and_eq_true, decide_eq_true_eq] at hw
    simp [Instr.body, putCapacities_length]
    omega
  all_goals simp [Instr.body]

end

end Sys2Proof

namespace Sys2Proof.Machine

/-! ### Frames and headers (R189, R198) -/

/-- A byte is the low byte of its own number. -/
theorem wireBytes_byte (b : Byte) : wireBytes 1 b.toNat = [b] := by
  rw [← put8_eq]
  simp [put8, byteOf]

theorem rowsFrom_append (fs gs : List (Nat × Int)) (k : Nat) :
    rowsFrom k (fs ++ gs) = rowsFrom k fs ++ rowsFrom (k + (fs.map Prod.fst).sum) gs := by
  induction fs generalizing k with
  | nil => rfl
  | cons f fs ih => simp only [List.cons_append, rowsFrom, ih, List.map_cons, List.sum_cons, Nat.add_assoc]

/-- Bytes as fields of one byte each. -/
def byteFields (bs : List Byte) : List (Nat × Int) := bs.map fun b => (1, (b.toNat : Int))

theorem byteFields_bytes (bs : List Byte) : ((byteFields bs).flatMap fun f => wireBytes f.1 f.2) = bs := by
  rw [byteFields, List.flatMap_map]
  simp only [wireBytes_byte]
  exact List.flatMap_singleton' bs

theorem byteFields_size (bs : List Byte) : ((byteFields bs).map Prod.fst).sum = bs.length := by
  simp [byteFields, Function.comp_def]

/-- Fields in front of a run of data and after it are laid out by their rows. -/
theorem laidOut_around (fs : List (Nat × Int)) (data : List Byte) (gs : List (Nat × Int)) {all : List Byte}
    {size : Nat} {rows : List (Nat × Nat × Int)}
    (ha : all = (fs.flatMap fun f => wireBytes f.1 f.2) ++ (data ++ gs.flatMap fun f => wireBytes f.1 f.2))
    (hs : (fs.map Prod.fst).sum + (data.length + (gs.map Prod.fst).sum) = size)
    (hr : rowsFrom 0 fs ++ rowsFrom ((fs.map Prod.fst).sum + data.length) gs = rows) : LaidOut all size rows := by
  subst ha hs hr
  have whole := laidOut_fields (fs ++ (byteFields data ++ gs))
  simp only [List.flatMap_append, byteFields_bytes, List.map_append, List.sum_append, byteFields_size,
    rowsFrom_append, Nat.zero_add] at whole
  refine ⟨whole.1, fun row hrow => whole.2 row ?_⟩
  simp only [List.mem_append] at hrow ⊢
  tauto

/-- The request item header (11.6). -/
theorem putItem_laidOut (i : RawItem) :
    LaidOut (putItem i) (6 + i.body.length)
      [(0, 1, i.kind.toNat), (1, 1, i.tag.toNat), (2, 1, 6 + i.body.length), (3, 1, i.target0.toNat),
        (4, 1, i.target1.toNat), (5, 1, i.target2.toNat)] := by
  refine laidOut_around [(1, i.kind.toNat), (1, i.tag.toNat), (1, 6 + i.body.length), (1, i.target0.toNat),
    (1, i.target1.toNat), (1, i.target2.toNat)] i.body [] ?_ rfl rfl
  have length := put8_eq (6 + i.body.length)
  simp only [Nat.cast_add, Nat.cast_ofNat] at length
  simp only [List.flatMap_cons, List.flatMap_nil, wireBytes_byte, ← length, List.append_nil]
  rfl

/-- The reply item header (11.6). -/
theorem replyItem_laidOut (kind tag : Nat) (c : Code) (data : List Byte) :
    LaidOut (replyItem kind tag c data) (5 + data.length)
      [(0, 1, kind), (1, 1, tag), (2, 2, 5 + data.length), (4, 1, c.value)] := by
  refine laidOut_around [(1, kind), (1, tag), (2, 5 + data.length), (1, c.value)] data [] ?_ rfl rfl
  simp only [replyItem, put8_eq, put16_eq, List.flatMap_cons, List.flatMap_nil, List.append_assoc, List.append_nil]
  rfl

/-- The frame of a telegram (11.6): its CRC-16 is taken over all the bytes before it. -/
theorem putFrame_laidOut (number count : Nat) (items : List Byte) :
    LaidOut (putFrame number count items) (7 + items.length)
      [(0, 2, 7 + items.length), (2, 2, number), (4, 1, count),
        (5 + items.length, 2, (crc16 ((putFrame number count items).take (5 + items.length))).toNat)] := by
  have front : (putFrame number count items).take (5 + items.length) =
      put16 (7 + items.length) ++ put16 number ++ put8 count ++ items :=
    List.take_left' (by simp; omega)
  rw [front]
  refine laidOut_around [(2, 7 + items.length), (2, number), (1, count)] items [(2, (crc16 _).toNat)] ?_ ?_ rfl
  · simp only [putFrame, put8_eq, put16_eq, List.flatMap_cons, List.flatMap_nil, List.append_assoc, List.append_nil]
    rfl
  · simp
    omega

/-- Settles O13: the decoder reads back what each body spells (`decodeItem_encodeItem`), within the item length byte
(`body_length_le`), and headers and frame are laid out by their tables. -/
theorem itemsDecodeAsEncoded : Obligations.ItemsDecodeAsEncoded := by
  refine ⟨fun h i hw hi => ⟨decodeItem_encodeItem hw hi, body_length_le hw⟩, fun i => ⟨putItem_laidOut i, rfl⟩,
    fun kind tag c data => ⟨replyItem_laidOut kind tag c data, rfl⟩,
    fun number count items => ⟨putFrame_laidOut number count items, List.take_left⟩, by decide, by decide⟩

end Sys2Proof.Machine
end

section
/-! PROOFS. The queue of commands (O1), and the links, the straps and the control registers after a cold start (O5);
the state after it meets every invariant (O60). -/

namespace Sys2Proof.Machine

/-- Settles O1: `step` takes the front, and an empty queue leaves the state. -/
theorem stepTakesTheFront : Obligations.StepTakesTheFront := by
  refine ⟨fun c cs s => rfl, fun s empty => ?_⟩
  unfold step
  rw [empty]

/-! ### The links and the control registers after a cold start (R186, R202, R203, R185) -/

theorem link_reset (l : LinkNo) : Links.reset.get l = Link.reset := by cases l <;> rfl

/-- No flag can be raised at a link whose mask is clear (R196). -/
theorem attention_masked {s : State} {l : LinkNo} (h : (s.link l).mask = 0) : s.attention l = false := by
  simp [State.attention, h]

/-- Settles O5: a cold start writes the links' reset values (`link_reset`) and every register its own. -/
theorem coldStartLinksAndControl : Obligations.ColdStartLinksAndControl := by
  intro a b s
  refine ⟨_, rfl, rfl, rfl, rfl, ?rate, fun l => ?links, rfl, rfl, rfl, rfl, rfl, rfl, rfl, rfl, rfl, rfl, rfl, rfl, rfl⟩
  case rate => cases a <;> cases b <;> rfl
  case links =>
    obtain ⟨t, ht⟩ : ∃ t : State, t = { State.cold (BitRate.ofStraps a b) s.pending with rst := s.rst } := ⟨_, rfl⟩
    have line : t.link l = Link.reset := by rw [ht]; exact link_reset l
    rw [← ht, line, attention_masked (congrArg Link.mask line)]
    exact ⟨rfl, rfl, rfl, rfl, rfl, rfl⟩

/-! ### The state after a cold start (R23, R44, R61, R102, R126, R153, R172) -/

section
variable (b : BitRate) (cs : List Instr)

theorem cold_visit (v : VisitNo) : ((State.cold b cs).visit v).state = .free :=
  congrArg Visit.state (tget_replicate _ v)

theorem cold_windows : WindowsSound (State.cold b cs) where
  bound i w h := nomatch (show none = some w from (tget_replicate none i).symm.trans h)
  held v h := by rw [cold_visit] at h; cases h

theorem cold_drivers : DriversSound (State.cold b cs) := by
  have empty : ∀ e d, (State.cold b cs).driver e ≠ some d := fun e d h =>
    nomatch (tget_replicate none e).symm.trans h
  exact ⟨defaultRules_ranged, fun e d h => absurd h (empty e d), fun e _ d _ h => absurd h (empty e d)⟩

theorem cold_carried : FlagsCarried (State.cold b cs) := by
  intro l
  have line : (State.cold b cs).link l = Link.reset := link_reset l
  rw [line]
  simp [Link.reset]

end

/-- Settles O60: a cold start leaves no slot, visit, window or driver in use, and every register at its default. -/
theorem resetIsSound : Obligations.ResetIsSound :=
  ⟨Store.whole_cold, cold_kindsSound _ _, cold_records rfl rfl rfl rfl rfl rfl rfl,
    .of_idle rfl fun v => by rw [State.reset, cold_visit]; decide, cold_windows _ _,
    .of_idle rfl (cold_request _ _ _) fun v => by rw [State.reset, cold_visit]; decide,
    cold_classes.1, cold_classes.2, cold_drivers _ _, cold_clock, cold_follows _ _, cold_carried _ _,
    cold_service _ _, cold_settings _ _⟩

end Sys2Proof.Machine
end

section
/-! PROOFS. What a line reset keeps and what it returns to defaults (O6). -/

namespace Sys2Proof.Machine

/-! ### The links within the reset work (R196, R202, R209) -/

/-- The flags that the work of a line reset may raise on a link: those that follow a condition, and UNRECORDED on the
OFFICE link (R46, R196). -/
def resetFlags (l : LinkNo) : FlagWord := conditionBits ||| (if l = .office then Flag.unrecorded.bit else 0)

/-- A link after a reset: cut off, its mask clear, and no flag set but one that the reset work may raise (R202). -/
structure Link.AfterReset (l : LinkNo) (k : Link) : Prop where
  rx    : k.rx = .hunting
  bufA  : k.bufA = .empty
  bufB  : k.bufB = .empty
  mask  : k.mask = 0
  flags : k.flags &&& ~~~(resetFlags l) = 0

theorem Link.AfterReset.putFlag {l : LinkNo} {k : Link} (h : k.AfterReset l) {f : Flag}
    (hf : f.bit &&& ~~~(resetFlags l) = 0) (b : Bool) : Link.AfterReset l { k with flags := putFlag k.flags f b } :=
  ⟨h.rx, h.bufA, h.bufB, h.mask, putFlag_carried h.flags hf⟩

/-- Every link of a state is one after a reset. -/
def LinksReset (s : State) : Prop := ∀ l, Link.AfterReset l (s.link l)

theorem LinksReset.setLink {s : State} (h : LinksReset s) {l : LinkNo} {k : Link} (hk : k.AfterReset l) :
    LinksReset (s.setLink l k) := by
  intro m
  by_cases e : l = m
  · subst e
    rwa [State.link_setLink_self]
  · rw [State.link_setLink_ne _ _ e]
    exact h m

theorem linksReset_of_reset {s : State} (h : s.links = Links.reset) : LinksReset s := by
  intro l
  unfold State.link
  rw [h, link_reset]
  exact ⟨rfl, rfl, rfl, rfl, BitVec.zero_and⟩

theorem condition_resets (l : LinkNo) {f : Flag} (hf : f.isCondition = true) : f.bit &&& ~~~(resetFlags l) = 0 := by
  revert hf
  cases l <;> cases f <;> decide

theorem LinksReset.follow {s : State} (h : LinksReset s) : LinksReset s.follow :=
  (h.setLink (l := .office) ((((h .office).putFlag (condition_resets _ (f := .storeLow) rfl) _).putFlag
    (condition_resets _ (f := .logReady) rfl) _).putFlag (condition_resets _ (f := .excReady) rfl) _)).setLink
      ((h .audit).putFlag (condition_resets _ (f := .logReady) rfl) _)

/-! ### What the reset work of the visits leaves (R24, R45, R46, R92) -/

/-- The reset work changes the visits, the store, the sequence counter, which it steps alone, and UNRECORDED on the
OFFICE link. -/
structure Worked (s t : State) : Prop where
  rest  : t = { s with
    visits := t.visits, store := t.store, links := t.links, logs := { s.logs with seqs := t.logs.seqs } }
  seqs  : s.logs.seqs ≤ t.logs.seqs
  links : LinksReset s → LinksReset t

namespace Worked

variable {r s t : State}

theorem refl (s : State) : Worked s s := ⟨rfl, le_rfl, id⟩

theorem trans (a : Worked r s) (b : Worked s t) : Worked r t := by
  refine ⟨?_, a.seqs.trans b.seqs, b.links ∘ a.links⟩
  have hb := b.rest
  rw [a.rest] at hb
  exact hb

theorem follow (s : State) : Worked s s.follow := ⟨rfl, le_rfl, LinksReset.follow⟩

theorem serve {q : Request} (h : s.serve q = some t) : Worked s t := by
  have ht := serve_eq h
  refine ⟨?_, ?_, fun k => ?_⟩
  · rw [ht]
  · cases q with
    | stamped v o pass =>
      cases h
      rcases stamp_cases s v o pass with ⟨_, e⟩ | ⟨_, _, e⟩
      · rw [e]
      · rw [e]; exact Nat.le_succ _
    | alloc target cls record =>
      rw [serve_alloc] at h
      split at h
      · cases h
      · obtain ⟨a, _, rfl⟩ := Option.map_eq_some_iff.1 h
        exact le_rfl
    | _ => cases h; exact le_rfl
  · rw [ht]
    exact k

theorem serveAll (rs : List Request) : ∀ s : State, Worked s (s.serveAll rs).1 := by
  induction rs with
  | nil => exact refl
  | cons q rs ih =>
    intro s
    cases h : s.serve q with
    | none => rw [serveAll_refused h]; exact refl s
    | some t => rw [serveAll_served h]; exact (serve h).trans (ih t)

theorem settle (s : State) (v : VisitNo) : Worked s ((s.settleState v).settlePaper v) := by
  have served := serveAll (resetWork v (s.visit v)) s
  rw [settle_eq]
  unfold settledBy
  cases (s.serveAll (resetWork v (s.visit v))).2 with
  | false => exact served.trans ⟨rfl, le_rfl, id⟩
  | true =>
    exact served.trans ⟨rfl, le_rfl, fun k => k.setLink (l := .office) ((k .office).putFlag (f := .unrecorded) (by decide) true)⟩

theorem settleAll (vs : List VisitNo) : ∀ s : State, Worked s (State.settleAll vs s) := by
  induction vs with
  | nil => exact refl
  | cons v vs ih => exact fun s => (settle s v).trans (ih _)

end Worked

/-! ### The state in which the reset work begins (R209, step 2) -/

/-- The configuration is kept under KEEP or LOCKED, and else as after a cold start (R109, R127, R209). -/
theorem resetBegun_configuration (s : State) : let t := resetBegun s
    if s.cc.keep || s.cc.locked then
      t.rules = s.rules ∧ t.classes = s.classes ∧ t.service = s.service ∧ t.reserve = s.reserve ∧
        t.logs.window = s.logs.window ∧ t.logs.threshold = s.logs.threshold ∧ t.drivers = s.drivers
    else
      t.rules = defaultRules ∧ t.classes = ClassTable.cold ∧ t.service = defaultService ∧ t.reserve = 64 ∧
        t.logs.window = 10 ∧ t.logs.threshold = 1 ∧
        ∀ e : EntryNo, t.driver e = (s.driver e).map fun d => if 30 ≤ d.credit then { d with credit := 29 } else d := by
  intro t
  unfold t resetBegun State.keeps
  cases s.cc.keep || s.cc.locked with
  | true => exact ⟨rfl, rfl, rfl, rfl, rfl, rfl, rfl⟩
  | false => exact ⟨rfl, rfl, rfl, rfl, rfl, rfl, fun e => tget_map _ _ _⟩

/-- Whatever the configuration, the reset discards what waits (R24, R104, R154, R173, R185, R202). -/
theorem resetBegun_discards (s : State) : ∃ x : State,
    resetBegun s = { s.discarded with
      cc := { s.cc with keep := false }, classes := x.classes, service := x.service, reserve := x.reserve
      rules := x.rules, drivers := x.drivers
      logs := { s.discarded.logs with window := x.logs.window, threshold := x.logs.threshold } } := by
  refine ⟨resetBegun s, ?_⟩
  unfold resetBegun
  cases s.keeps <;> rfl

/-- The part goes on in RUN where its class table was kept and covers a code (R204, R209). -/
theorem reset209_run (s : State) : s.reset209 =
    (let u := (State.settleAll (List.finRange 48) (resetBegun s)).follow
     u.setCc { u.cc with run := if s.keeps && u.classes.covers then .run else .config }) := by
  unfold State.reset209 resetBegun
  dsimp only

/-- The work of R209 on the state in which it begins: what `Worked` says, and the control register. -/
theorem reset209_worked (s : State) : ∃ u : State, Worked (resetBegun s) u ∧ s.reset209 = u.setCc
    { s.cc with keep := false, run := if s.keeps && s.classes.covers then .run else .config } := by
  have worked := (Worked.settleAll (List.finRange 48) (resetBegun s)).trans (.follow _)
  have classes := congrArg State.classes worked.rest
  have cc := congrArg State.cc worked.rest
  have kept : (resetBegun s).cc = { s.cc with keep := false } := by
    unfold resetBegun
    cases s.keeps <;> rfl
  have covers : (s.keeps && (resetBegun s).classes.covers) = (s.keeps && s.classes.covers) := by
    unfold resetBegun
    cases s.keeps <;> rfl
  refine ⟨_, worked, ?_⟩
  rw [reset209_run]
  dsimp only
  rw [classes, cc]
  dsimp only
  rw [kept, covers]

/-- The causes of a line reset, and the state on which its work begins (R186, R208). -/
theorem lineReset_works {cause : ResetCause} {p : Straps} {s : State} (h : ResetBegins cause s) :
    exec (.lineReset cause p) s =
      .next (State.reset209 { s with power := .main, rst := false, rate := BitRate.ofStraps p.rate1 p.rate0 }) := by
  cases cause with
  | rstReleased =>
    obtain ⟨hpower, hrst⟩ := h
    show Host.Outcome.next (if s.rst = false then _ else if s.power = .main then _ else _) = _
    rw [if_neg (by simp [hrst]), if_pos hpower, ← hpower]
    rfl
  | mainReturns =>
    obtain ⟨hpower, hrst⟩ := h
    show Host.Outcome.next (if s.power ≠ .backup then _ else if s.rst = true then _ else _) = _
    rw [if_neg (not_not.2 hpower), if_neg (by simp [hrst]), ← hrst]
    rfl

/-- A release of RST without the main supply, or of an RST not asserted, clears the pin's mark alone (R208). -/
theorem rstReleased_waits {p : Straps} {s : State} (h : ¬ (s.power = .main ∧ s.rst = true)) :
    exec (.lineReset .rstReleased p) s = .next { s with rst := false } := by
  show Host.Outcome.next (if s.rst = false then s else if s.power = .main then _ else _) = _
  split_ifs with hrst hpower
  · rw [← hrst]
  · exact absurd ⟨hpower, by simpa using hrst⟩ h
  · rfl

/-- Under an asserted RST a return of the main supply enters MAIN alone; one that was not lost does not return (R208). -/
theorem mainReturns_waits {p : Straps} {s : State} (h : ¬ (s.power = .backup ∧ s.rst = false)) :
    exec (.lineReset .mainReturns p) s = .next (if s.power = .backup then { s with power := .main } else s) := by
  show Host.Outcome.next (if s.power ≠ .backup then s else if s.rst = true then _ else _) = _
  by_cases hpower : s.power = .backup
  · rw [if_neg (not_not.2 hpower), if_pos hpower, if_pos]
    by_contra hrst
    exact h ⟨hpower, by simpa using hrst⟩
  · rw [if_pos hpower, if_neg hpower]

/-- Settles O6: without its cause a line reset begins no work; with it, what the state held as the reset work began
(`resetBegun_configuration`, `resetBegun_discards`) is what stands after it, for the work of the visits leaves it
(`reset209_worked`). -/
theorem lineResetKeepsAndReturns : Obligations.LineResetKeepsAndReturns := by
  intro cause p s
  refine ⟨fun waits => ?waits, fun begins => ⟨_, lineReset_works begins, ?works⟩⟩
  case waits =>
    cases cause with
    | rstReleased => exact rstReleased_waits waits
    | mainReturns => exact mainReturns_waits waits
  case works =>
    generalize hv : ({ s with power := .main, rst := false, rate := BitRate.ofStraps p.rate1 p.rate0 } : State) = v
    have configuration := resetBegun_configuration v
    obtain ⟨x, begun⟩ := resetBegun_discards v
    obtain ⟨u, ⟨rest, seqs, links⟩, whole⟩ := reset209_worked v
    have follows := reset209_follows v
    generalize v.reset209 = t at whole follows ⊢
    generalize resetBegun v = w at configuration begun rest seqs links whole
    obtain ⟨visits, store, lines, n, rfl⟩ : ∃ visits store lines n, u = { w with
      visits := visits, store := store, links := lines, logs := { w.logs with seqs := n } } := ⟨_, _, _, _, rest⟩
    subst whole begun hv
    have reset := links (linksReset_of_reset rfl)
    refine ⟨rfl, rfl, rfl, rfl, configuration, rfl, fun q => tget_replicate _ _, rfl, rfl, rfl, rfl, rfl, rfl, rfl, rfl,
      seqs, rfl, rfl, rfl, rfl, follows, fun l => ?_⟩
    obtain ⟨rx, bufA, bufB, mask, flags⟩ := reset l
    exact ⟨rx, bufA, bufB, mask, attention_masked mask, flags⟩
end Sys2Proof.Machine
end

section
/-! PROOFS. RST and the two supplies, and what is taken while the part is held (O9). -/

namespace Sys2Proof.Machine

/-! ### The pins (R208) -/

/-- A cold start reads the queue and RST alone of what the retained memory held (R208). -/
theorem coldStart_congr {s t : State} (hp : t.pending = s.pending) (hr : t.rst = s.rst) (a b : Bool) :
    exec (.coldStart a b) t = exec (.coldStart a b) s := by
  show execColdStart a b t = execColdStart a b s
  unfold execColdStart
  rw [hp, hr]

/-! ### A part that is held, or without its main supply (R103, R202, R208) -/

section
variable {s : State} (dead : s.alive = false)
include dead

/-- No minute event is taken, and no reply leaves. -/
theorem minuteEvent_dead : exec .minuteEvent s = .next s := by
  show execMinuteEvent s = _
  unfold execMinuteEvent
  rw [dead]
  rfl

theorem replySent_dead (l : LinkNo) : exec (.replySent l) s = .next s := by
  show execReplySent l s = _
  unfold execReplySent
  rw [dead]
  rfl

/-- An item is none that is due. -/
theorem item_dead {i : Instr} {h : Head} (hi : i.head? = some h) : exec i s = .next s := by
  obtain ⟨block, taken⟩ := exec_item hi s
  have notDue : s.nextItem h.link ≠ some i := by
    unfold State.nextItem
    rw [dead]
    exact nofun
  rw [taken, State.takeItem_other _ notDue]

/-- The store takes no turn. -/
theorem turn_dead {i : Instr} (hi : Instr.isTurn i = true) : exec i s = .next s := by
  rcases isTurn_cases hi with rfl | ⟨r, rfl⟩
  · have noTurn : s.turn = none := by
      unfold State.turn
      rw [dead]
      rfl
    show execServiceTurn s = _
    unfold execServiceTurn
    rw [noTurn]
    rfl
  · exact exec_not_due fun p q hg => by rw [(grant_some hg).1] at dead; cases dead

/-- The links and the units take no step. -/
theorem unit_dead {i : Instr} (hi : Instr.turnOrReset i = false) (hc : Instr.movesClock i = false) :
    exec i s = .next s := by
  rcases exec_outcome i s with ⟨t, ht⟩ | ⟨rfl, _⟩ | ⟨rfl, _⟩
  · have quiet := (KeepsCourse.exec hi ht).quiet dead
    rw [exec_time hc ht] at quiet
    rw [ht, quiet]
  · cases hi
  · cases hi

/-- What a part that is held or in BACKUP takes: supplies, resets and pulses of the Time Base, and nothing else. -/
theorem exec_dead (i : Instr) : exec i s = .next s ∨ (∃ cause p, i = .lineReset cause p) ∨ (∃ a b, i = .coldStart a b) ∨
    i = .rstAssert ∨ i = .mainSupplyLoss ∨ i = .backupSupplyLoss ∨ i = .tbasePulse ∨ i = .minuteEnd := by
  cases hr : Instr.turnOrReset i with
  | false =>
    cases hc : Instr.movesClock i with
    | false => exact .inl (unit_dead dead hr hc)
    | true =>
      cases i with
      | setTime h m n => exact .inl (item_dead dead rfl)
      | adjustTime h n => exact .inl (item_dead dead rfl)
      | minuteEvent => exact .inl (minuteEvent_dead dead)
      | tbasePulse | minuteEnd => simp
      | _ => simp_all [Instr.turnOrReset, Instr.movesClock]
  | true =>
    cases ht : Instr.isTurn i with
    | true => exact .inl (turn_dead dead ht)
    | false =>
      cases i with
      | replySent l => exact .inl (replySent_dead dead l)
      | lineReset cause p => exact .inr (.inl ⟨cause, p, rfl⟩)
      | coldStart a b => exact .inr (.inr (.inl ⟨a, b, rfl⟩))
      | rstAssert | mainSupplyLoss | backupSupplyLoss => simp
      | _ => simp_all [Instr.turnOrReset, Instr.isTurn]

end

/-- Settles O9: RST and the supplies write what R208 names, and a cold start after them reads the pins alone
(`coldStart_congr`); a part that they hold takes nothing else (`exec_dead`). -/
theorem suppliesAndRst : Obligations.SuppliesAndRst := by
  refine ⟨fun s => ⟨⟨_, rfl, rfl, alive_of_rst rfl, cutLinks_get _⟩, fun hmain => ⟨s.unpowered, ?lost, rfl,
    fun p => tget_replicate _ _, cutLinks_get _⟩, ⟨_, rfl, alive_of_power nofun, rfl, rfl, coldStart_congr rfl rfl⟩⟩,
    fun c s dead => exec_dead dead c⟩
  case lost => exact congrArg Host.Outcome.next (if_pos hmain)

end Sys2Proof.Machine
end

section
/-! PROOFS. Characters, gaps and whole telegrams at the receivers (O10 to O12). -/

namespace Sys2Proof

/-! ### A telegram read back from its bytes (R189, 11.6) -/

/-- The request items of a telegram are split by their length bytes as they were put. -/
theorem getItems_putItem {is : List RawItem} (h : ∀ i ∈ is, i.body.length ≤ 249) :
    getItems is.length (is.flatMap putItem) = some is := by
  induction is with
  | nil => rfl
  | cons i is ih =>
    obtain ⟨hi, his⟩ := List.forall_mem_cons.1 h
    have length : (byteOf (6 + i.body.length)).toNat = 6 + i.body.length := toNat_byteOf (decide_eq_true (by omega))
    simp only [List.flatMap_cons, putItem, List.cons_append, List.nil_append, List.length_cons, getItems, length]
    rw [if_neg (by simp), Nat.add_sub_cancel_left, List.drop_left, List.take_left, ih his]
    rfl

theorem put16_eq_cons (n : Nat) : put16 n = [byteOf (n / 256), byteOf n] := rfl

theorem putFrame_length (number count : Nat) (items : List Byte) :
    (putFrame number count items).length = 7 + items.length := by
  simp [putFrame]
  omega

/-- A frame within its limits is the telegram that it frames. -/
theorem parseTelegram_putFrame {number : Nat} {items : List RawItem} {body : List Byte} (hn : number < 65536)
    (some_items : 1 ≤ items.length) (few : items.length ≤ 16) (short : 7 + body.length ≤ 512)
    (split : getItems items.length body = some items) :
    parseTelegram (putFrame number items.length body) = some ⟨number, items⟩ := by
  obtain ⟨front, hfront⟩ : ∃ front, front =
      put16 (7 + body.length) ++ put16 number ++ put8 items.length ++ body := ⟨_, rfl⟩
  have frame : putFrame number items.length body = front ++ put16 (crc16 front).toNat := by rw [hfront]; rfl
  have length : (putFrame number items.length body).length = 7 + body.length := putFrame_length _ _ _
  have cut : 7 + body.length - 2 = front.length := by rw [hfront]; simp; omega
  have crc : put16 (crc16 ((putFrame number items.length body).take front.length)).toNat =
      (putFrame number items.length body).drop front.length := by
    rw [frame, List.take_left, List.drop_left]
  have body_taken : (body ++ put16 (crc16 front).toNat).take ((body ++ put16 (crc16 front).toNat).length - 2) = body :=
    List.take_left' (by simp)
  have count : (byteOf items.length).toNat = items.length := toNat_byteOf (decide_eq_true (by omega))
  have cons : putFrame number items.length body =
      byteOf ((7 + body.length) / 256) :: byteOf (7 + body.length) :: byteOf (number / 256) :: byteOf number ::
        byteOf items.length :: (body ++ put16 (crc16 front).toNat) := by
    rw [frame, hfront]
    simp [put16_eq_cons, put8]
  have filled : 1 ≤ body.length := by
    rw [Nat.one_le_iff_ne_zero, Ne, List.length_eq_zero_iff]
    rintro rfl
    obtain ⟨n, hn⟩ := Nat.exists_eq_add_of_le' some_items
    rw [hn] at split
    cases split
  rw [← cut, ← length] at crc
  rw [cons] at length crc ⊢
  simp only [parseTelegram, nat16_byteOf (n := 7 + body.length) (decide_eq_true (by omega)),
    nat16_byteOf (n := number) (decide_eq_true hn), count, body_taken, split]
  rw [if_neg (by omega), if_neg (by omega), if_neg (not_not.2 crc)]
  rfl

/-- A telegram of items that fit their length bytes is parsed from its bytes as it was meant. -/
theorem parseTelegram_putTelegram {t : Telegram} (hn : t.number < 65536) (some_items : 1 ≤ t.items.length)
    (few : t.items.length ≤ 16) (bodies : ∀ i ∈ t.items, i.body.length ≤ 249) (short : (putTelegram t).length ≤ 512) :
    parseTelegram (putTelegram t) = some t :=
  parseTelegram_putFrame hn some_items few ((putFrame_length _ _ _).symm.trans_le short) (getItems_putItem bodies)

end Sys2Proof

namespace Sys2Proof.Machine

namespace Link

variable {l : LinkNo} {k : Link}

/-! ### The FILLING buffer (R188) -/

@[simp] theorem putFilling_rx (k : Link) (b : Buffer) : (k.putFilling b).rx = k.rx := by
  unfold putFilling; split <;> rfl

@[simp] theorem putFilling_flags (k : Link) (b : Buffer) : (k.putFilling b).flags = k.flags := by
  unfold putFilling; split <;> rfl

theorem putFilling_putFilling (k : Link) (bs : List Byte) (f : Bool) (b : Buffer) :
    (k.putFilling (.filling bs f)).putFilling b = k.putFilling b := by
  cases hA : k.bufA <;> cases hB : k.bufB <;> simp [putFilling, hA, hB]

theorem filling_putFilling {x : List Byte × Bool} (h : k.filling = some x) (bs : List Byte) (f : Bool) :
    (k.putFilling (.filling bs f)).filling = some (bs, f) := by
  cases hA : k.bufA <;> cases hB : k.bufB <;> simp_all [putFilling, filling]

theorem putFilling_self {bs : List Byte} {f : Bool} (h : k.filling = some (bs, f)) :
    k.putFilling (.filling bs f) = k := by
  obtain ⟨rx, bufA, bufB, flags, mask⟩ := k
  cases bufA <;> cases bufB <;> simp_all [putFilling, filling]

/-! ### The bytes of one telegram (R187, R189) -/

theorem lengthField_append {bs : List Byte} {n : Nat} (h : lengthField bs = some n) (cs : List Byte) :
    lengthField (bs ++ cs) = some n := by
  match bs, h with
  | _ :: _ :: _, h => exact h

/-- The byte at which a telegram with a length field ends: the last by a field that is one, and else the 512th. -/
def lastByte (n : Nat) : Nat := if validLength n then n else Config.bufferBytes

/-- A telegram goes on while its bytes do not reach its end. -/
theorem received_goesOn {bs : List Byte} (f : Bool) (h : ∀ n, lengthField bs = some n → bs.length < lastByte n) :
    received l k bs f = k.putFilling (.filling bs f) := by
  unfold received
  simp only
  split
  · rfl
  · next n hn =>
    have short := h n hn
    unfold lastByte at short
    split
    · next valid =>
      rw [if_pos valid] at short
      exact if_neg short.ne
    · next invalid =>
      rw [if_neg invalid] at short
      exact if_neg short.ne

/-- What a character does does not depend on what was put in the FILLING buffer before it. -/
theorem received_putFilling (bs cs : List Byte) (f g : Bool) :
    received l (k.putFilling (.filling bs f)) cs g = received l k cs g := by
  unfold received
  simp only [putFilling_putFilling]

theorem rxChar_receiving {bs : List Byte} {f : Bool} (hrx : k.rx = .receiving) (hk : k.filling = some (bs, f))
    (c : RxChar) : rxChar l k c = received l k (bs ++ [c.byte]) (f || c.framing) := by
  simp only [rxChar, hrx, hk]

/-- Characters before the end of their telegram are stored (R187). -/
theorem rxChars_goesOn {n : Nat} (cs : List RxChar) : ∀ {k : Link} {bs : List Byte} {f : Bool}, k.rx = .receiving →
    k.filling = some (bs, f) → ∀ rest, lengthField (bs ++ cs.map RxChar.byte ++ rest) = some n →
    bs.length + cs.length < lastByte n →
    rxChars l k cs = k.putFilling (.filling (bs ++ cs.map RxChar.byte) (f || cs.any RxChar.framing)) := by
  induction cs with
  | nil =>
    intro k bs f _ hk _ _ _
    simp only [List.map_nil, List.append_nil, List.any_nil, Bool.or_false]
    exact (putFilling_self hk).symm
  | cons c cs ih =>
    intro k bs f hrx hk rest hn short
    have apart : bs ++ (c :: cs).map RxChar.byte = (bs ++ [c.byte]) ++ cs.map RxChar.byte := by simp
    rw [apart] at hn ⊢
    rw [List.length_cons] at short
    have stored : rxChar l k c = k.putFilling (.filling (bs ++ [c.byte]) (f || c.framing)) := by
      rw [rxChar_receiving hrx hk]
      refine received_goesOn _ fun m hm => ?_
      rw [List.append_assoc] at hn
      have same := (lengthField_append hm (cs.map RxChar.byte ++ rest)).symm.trans hn
      rw [Option.some.inj same, List.length_append, List.length_singleton]
      omega
    have rest_stored := ih (k := k.putFilling (.filling (bs ++ [c.byte]) (f || c.framing)))
      ((putFilling_rx k _).trans hrx) (filling_putFilling hk _ _) rest hn
      (by rw [List.length_append, List.length_singleton]; omega)
    show rxChars l (rxChar l k c) cs = _
    rw [stored, rest_stored, putFilling_putFilling, List.any_cons, Bool.or_assoc]

/-- A run of characters that does not pass the end of its telegram does what its last character does (R187). -/
theorem rxChars_last {bs : List Byte} {f : Bool} {cs : List RxChar} {n : Nat} (hrx : k.rx = .receiving)
    (hk : k.filling = some (bs, f)) (some_cs : cs ≠ [])
    (hn : lengthField (bs ++ cs.map RxChar.byte) = some n) (hlast : (bs ++ cs.map RxChar.byte).length ≤ lastByte n) :
    rxChars l k cs = received l k (bs ++ cs.map RxChar.byte) (f || cs.any RxChar.framing) := by
  obtain ⟨ds, c, rfl⟩ : ∃ ds c, cs = ds ++ [c] := ⟨_, _, (List.dropLast_append_getLast some_cs).symm⟩
  rw [List.map_append, ← List.append_assoc] at hn hlast ⊢
  have before : rxChars l k ds = k.putFilling (.filling (bs ++ ds.map RxChar.byte) (f || ds.any RxChar.framing)) := by
    refine rxChars_goesOn ds hrx hk _ hn ?_
    simp at hlast
    omega
  have last : rxChars l k (ds ++ [c]) = rxChar l (rxChars l k ds) c := List.foldl_append
  rw [last, before, rxChar_receiving ((putFilling_rx k _).trans hrx) (filling_putFilling hk _ _), received_putFilling]
  simp [Bool.or_assoc]

/-- A telegram is dropped with TELEGRAM_ERROR, and its buffer is EMPTY (R189). -/
theorem drop_putFilling (k : Link) (bs : List Byte) (f : Bool) (rx : RxState) :
    (k.putFilling (.filling bs f)).drop rx = { k.putFilling .empty with
      rx := rx, flags := k.flags ||| Flag.telegramError.bit } := by
  rw [drop, putFilling_putFilling, raised, putFilling_flags]
  rfl

/-- The last byte of a telegram whose bytes fail a check, or had a framing error (R189). -/
theorem received_unsound {bs : List Byte} {f : Bool} {n : Nat} (hn : lengthField bs = some n)
    (valid : validLength n = true) (whole : bs.length = n) (bad : f = true ∨ parseTelegram bs = none) :
    received l k bs f = { k.putFilling .empty with
      rx := if f then .hunting else .ready, flags := k.flags ||| Flag.telegramError.bit } := by
  unfold received
  simp only [hn, valid, whole, if_true]
  cases f with
  | true => exact drop_putFilling _ _ _ _
  | false =>
    rw [bad.resolve_left nofun]
    exact drop_putFilling _ _ _ _

/-- The 512th byte of a telegram whose length field is none (R187). -/
theorem received_endless {bs : List Byte} (f : Bool) {n : Nat} (hn : lengthField bs = some n)
    (invalid : validLength n = false) (full : bs.length = Config.bufferBytes) :
    received l k bs f = { k.putFilling .empty with
      rx := .hunting, flags := k.flags ||| Flag.telegramError.bit } := by
  unfold received
  simp only [hn, invalid, full, Bool.false_eq_true, if_false, if_true]
  exact drop_putFilling _ _ _ _

/-- The last byte of a telegram whose bytes pass the checks (R189). -/
theorem received_sound {bs : List Byte} {n : Nat} {t : Telegram} (hn : lengthField bs = some n)
    (valid : validLength n = true) (whole : bs.length = n) (sound : parseTelegram bs = some t) :
    received l k bs false = { accept l (k.putFilling (.filling bs false)) t with rx := .ready } := by
  unfold received
  simp [hn, valid, whole, sound]

/-- A first byte is in a FILLING buffer of its own, A where that is EMPTY (R188, log 19). -/
theorem first_bufA (h : k.bufA = .empty) (c : RxChar) :
    k.first c = { k with rx := .receiving, bufA := .filling [c.byte] c.framing } := if_pos h

theorem first_bufB (ha : k.bufA ≠ .empty) (hb : k.bufB = .empty) (c : RxChar) :
    k.first c = { k with rx := .receiving, bufB := .filling [c.byte] c.framing } :=
  (if_neg ha).trans (if_pos hb)

theorem filling_bufB {bs : List Byte} {f : Bool} (h : k.bufB = .filling bs f) (ha : k.bufA.busy = true) :
    k.filling = some (bs, f) := by
  cases hA : k.bufA <;> simp_all [filling, Buffer.busy]

/-- A telegram accepted into buffer A waits while B executes or replies, and one accepted into B while A does (R188). -/
theorem accept_bufA {bs : List Byte} {f : Bool} (h : k.bufA = .filling bs f) (cs : List Byte) (g : Bool) (t : Telegram) :
    accept l (k.putFilling (.filling cs g)) t =
      { k with bufA := if k.bufB.busy then .waiting t else beginTelegram l t } := by
  have idle : (Buffer.filling cs g).busy = false := rfl
  simp [accept, putFilling, h, idle]

theorem accept_bufB {bs : List Byte} {f : Bool} (h : k.bufB = .filling bs f) (ha : k.bufA.busy = true) (cs : List Byte)
    (g : Bool) (t : Telegram) : accept l (k.putFilling (.filling cs g)) t = { k with bufB := .waiting t } := by
  cases hA : k.bufA <;> simp_all [accept, putFilling, Buffer.busy]

end Link

theorem validLength_iff {n : Nat} : Link.validLength n = true ↔ 8 ≤ n ∧ n ≤ 512 := by
  show (decide (8 ≤ n) && decide (n ≤ 512)) = true ↔ _
  rw [Bool.and_eq_true, decide_eq_true_eq, decide_eq_true_eq]

theorem State.changeLink_alive {s : State} (ha : s.alive = true) (l : LinkNo) (f : Link → Link) :
    s.changeLink l f = s.setLink l (f (s.link l)) := if_pos ha

/-- Settles O10. -/
theorem charactersAndGaps : Obligations.CharactersAndGaps := by
  refine ⟨fun l c s ha ready => ?first, fun l s ha => ?gap⟩
  case first =>
    refine congrArg Host.Outcome.next ((State.changeLink_alive ha l _).trans ?_)
    simp only [Link.rxChar, ready]
    rfl
  case gap =>
    refine congrArg Host.Outcome.next ((State.changeLink_alive ha l _).trans (congrArg (s.setLink l) ?_))
    cases hrx : (s.link l).rx with
    | receiving =>
      simp only [Link.rxGap, hrx, if_true, Link.drop, Link.raised, Link.putFilling_flags]
      rfl
    | hunting | ready => simp [Link.rxGap, hrx]

/-- Settles O12: characters up to the end of their telegram do what the last of them does (`Link.rxChars_last`), and
that drops the telegram. -/
theorem unsoundTelegramsAreDropped : Obligations.UnsoundTelegramsAreDropped := by
  intro l s bs f cs ha hrx hk some_cs all framing n hn
  have link : exec (.telegramEnd l cs) s = .next (s.setLink l (Link.rxChars l (s.link l) cs)) :=
    congrArg Host.Outcome.next (State.changeLink_alive ha l _)
  refine ⟨fun ⟨low, high, whole, bad⟩ => ?_, fun ⟨invalid, full⟩ => ?_⟩
  · have valid := validLength_iff.2 ⟨low, high⟩
    have last : all.length ≤ Link.lastByte n := by rw [Link.lastByte, if_pos valid, whole]
    rw [link, Link.rxChars_last hrx hk some_cs hn last, Link.received_unsound hn valid whole bad]
  · have invalid : Link.validLength n = false := by
      rw [← Bool.not_eq_true, validLength_iff]
      omega
    have last : all.length ≤ Link.lastByte n := by rw [Link.lastByte, if_neg (by simp [invalid]), full]; rfl
    rw [link, Link.rxChars_last hrx hk some_cs hn last, Link.received_endless _ hn invalid full]

/-- The length field of a frame is its length (R189). -/
theorem lengthField_putFrame {number count : Nat} {items : List Byte} (short : 7 + items.length ≤ 512) :
    Link.lengthField (putFrame number count items) = some (7 + items.length) :=
  congrArg some (nat16_byteOf (decide_eq_true (by omega)))

/-- The bytes after the first of a sound telegram, with no gap before them (R187, R189). -/
theorem rxChars_sound {l : LinkNo} {k : Link} {t : Telegram} {b : Byte} {bs : List Byte} (hrx : k.rx = .receiving)
    (hk : k.filling = some ([b], false)) (bytes : putTelegram t = b :: bs) (short : bs.length + 1 ≤ 512)
    (sound : parseTelegram (putTelegram t) = some t) (long : 8 ≤ (putTelegram t).length) :
    Link.rxChars l k (bs.map fun x => ⟨x, false⟩) =
      { Link.accept l (k.putFilling (.filling (b :: bs) false)) t with rx := .ready } := by
  have length : (putTelegram t).length = bs.length + 1 := by rw [bytes, List.length_cons]
  have field : Link.lengthField (b :: bs) = some (b :: bs).length := by
    rw [← bytes]
    have frame : (putTelegram t).length = _ := putFrame_length _ _ _
    rw [frame]
    exact lengthField_putFrame (by omega)
  have valid : Link.validLength (b :: bs).length = true := validLength_iff.2 (by rw [← bytes]; omega)
  have chars : (bs.map fun x => (⟨x, false⟩ : RxChar)).map RxChar.byte = bs := by simp [Function.comp_def]
  have framing : (bs.map fun x => (⟨x, false⟩ : RxChar)).any RxChar.framing = false := by simp
  rw [Link.rxChars_last hrx hk, chars, framing]
  · exact Link.received_sound field valid rfl (by rwa [bytes] at sound)
  · rintro h
    rw [List.map_eq_nil_iff.1 h] at length
    simp at length
    omega
  · rw [chars]
    exact field
  · rw [chars, Link.lastByte, if_pos valid]
    rfl

/-- The frame, one item header and the CRC take more than 8 bytes (11.6). -/
theorem putTelegram_long {t : Telegram} (some_items : 1 ≤ t.items.length) : 8 ≤ (putTelegram t).length := by
  have frame : (putTelegram t).length = 7 + (t.items.flatMap putItem).length := putFrame_length _ _ _
  obtain ⟨i, is, hi⟩ := List.exists_cons_of_length_pos some_items
  rw [frame, hi]
  simp [putItem]
  omega

section
variable {l : LinkNo} {s : State} {t : Telegram} {b : Byte} {bs : List Byte}

/-- A telegram sent whole is accepted into the buffer that took its first byte (R187 to R189). -/
theorem telegram_accepted (ha : s.alive = true) (ready : (s.link l).rx = .ready) {k : Link}
    (taken : (s.link l).first ⟨b, false⟩ = k) (hrx : k.rx = .receiving) (hk : k.filling = some ([b], false))
    (bytes : putTelegram t = b :: bs) (short : bs.length + 1 ≤ 512)
    (sound : parseTelegram (putTelegram t) = some t) (long : 8 ≤ (putTelegram t).length) :
    ∃ u, exec (.telegramStart l ⟨b, false⟩) s = .next u ∧
      exec (.telegramEnd l (bs.map fun x => ⟨x, false⟩)) u = .next (s.setLink l
        { Link.accept l (k.putFilling (.filling (b :: bs) false)) t with rx := .ready }) := by
  have start : Link.rxChar l (s.link l) ⟨b, false⟩ = k := by
    simp only [Link.rxChar, ready]
    exact taken
  refine ⟨s.setLink l k, congrArg Host.Outcome.next ((State.changeLink_alive ha l _).trans (by rw [start])),
    congrArg Host.Outcome.next ((State.changeLink_alive (s := s.setLink l k) ha l _).trans ?_)⟩
  rw [State.link_setLink_self, rxChars_sound hrx hk bytes short sound long]
  simp [State.setLink, State.setLinks]

end

/-- Settles O11: a telegram's bytes spell it (`parseTelegram_putTelegram`), and sent whole it is accepted into the buffer
that took its first byte (`telegram_accepted`). -/
theorem soundTelegramsAreAccepted : Obligations.SoundTelegramsAreAccepted := by
  intro l s t b bs ha ready hn some_items few bodies bytes short sent
  have sound := parseTelegram_putTelegram hn some_items few bodies (by rw [bytes]; exact short)
  have long := putTelegram_long some_items
  refine ⟨fun hA => ?_, fun hA hB => ?_⟩
  · obtain ⟨k, hk⟩ : ∃ k, k = { s.link l with rx := .receiving, bufA := .filling [b] false } := ⟨_, rfl⟩
    have bufA : k.bufA = .filling [b] false := by rw [hk]
    have accepted := telegram_accepted ha ready ((Link.first_bufA hA _).trans hk.symm) (by rw [hk])
      (by simp only [Link.filling, bufA]) bytes short sound long
    rw [Link.accept_bufA bufA, hk] at accepted
    rwa [← ready] at accepted
  · obtain ⟨k, hk⟩ : ∃ k, k = { s.link l with rx := .receiving, bufB := .filling [b] false } := ⟨_, rfl⟩
    have filled : (s.link l).bufA ≠ .empty := fun e => by rw [e] at hA; cases hA
    have bufB : k.bufB = .filling [b] false := by rw [hk]
    have busy : k.bufA.busy = true := by rw [hk]; exact hA
    have accepted := telegram_accepted ha ready ((Link.first_bufB filled hB _).trans hk.symm) (by rw [hk])
      (Link.filling_bufB bufB busy) bytes short sound long
    rw [Link.accept_bufB bufB busy, hk] at accepted
    rwa [← ready] at accepted

end Sys2Proof.Machine
end

section
/-! PROOFS. BAND_LOAD, SEG_LOAD and CHUNK_SIZE (O21), and SETTINGS (O24). -/

namespace Sys2Proof.Machine

/-! ### Writes that LOCKED refuses (R67, R206) -/

section
variable {s : State} {h : Head} {i : Instr}

/-- A write just taken is refused for its form, then under LOCKED, and else carried out. -/
theorem unlessLocked_taken (ht : Taken s h i) {t f : State} {formed : Bool}
    (he : t = (s.begin h i).unlessLocked h.link formed f) {bad : Prop} [Decidable bad] (hb : formed = false ↔ bad)
    {R : Prop} (hR : t = f → R) :
    if bad then Answered s t h i .malformed [] else if s.cc.locked then Answered s t h i .locked [] else R := by
  unfold State.unlessLocked at he
  simp only [hb, State.begin_cc] at he
  split_ifs at he ⊢
  · exact he ▸ answered_unchanged ht _ _
  · exact he ▸ answered_unchanged ht _ _
  · exact hR he

/-- A new class table is reported to the DCU as it is answered (R72). -/
theorem writeClasses_answered (ht : Taken s h i) (t : ClassTable) (c : Code) (d : List Byte) :
    Answered ((s.setClasses t).report none) (((s.begin h i).writeClasses t).answer h.link c d) h i c d :=
  answered_reported (f := fun u => u.setClasses t) ht (fun _ => rfl) rfl none c d

end

/-! ### The entries of the segregation matrix (R69, R70) -/

theorem cell_eq_iff {a b g k : Fin 16} : ClassTable.cell a b = ClassTable.cell g k ↔ g = a ∧ k = b :=
  ⟨fun e => (Steady.cell_inj e).imp Eq.symm Eq.symm, fun ⟨ha, hb⟩ => by rw [ha, hb]⟩

/-- A write of a pair sets both its entries, and no other. -/
theorem mark_matrix (t : ClassTable) (x y g k : Fin 16) (m : Bool) : tget (t.mark x y m).matrix (ClassTable.cell g k) =
    if (g = x ∧ k = y) ∨ (g = y ∧ k = x) then m else tget t.matrix (ClassTable.cell g k) := by
  simp only [ClassTable.mark, tget_tset, cell_eq_iff]
  by_cases first : g = x ∧ k = y <;> by_cases second : g = y ∧ k = x <;> simp only [first, second] <;> simp

theorem segSetting?_lt {n : Nat} (h : n < 2) : State.segSetting? n = some (decide (n = 0)) := by
  interval_cases n <;> rfl

theorem segSetting?_ge {n : Nat} (h : ¬ n < 2) : State.segSetting? n = none := by
  match n with
  | 0 | 1 => simp at h
  | _ + 2 => rfl

/-- A SEG_LOAD is of its form where it names two groups and one of the settings MARKED and CLEAR (R70, log 15). -/
theorem onSegLoad_formed (s : State) (l : LinkNo) {a b setting : Nat} (ha : a < 16) (hb : b < 16) (hs : setting < 2) :
    s.onSegLoad l a b setting = s.unlessLocked l true
      ((s.writeClasses (s.classes.mark ⟨a, ha⟩ ⟨b, hb⟩ (decide (setting = 0)))).answer l .done
        (put8 a ++ put8 b ++ put8 setting)) := by
  simp only [State.onSegLoad, fin?_lt ha, fin?_lt hb, segSetting?_lt hs]

theorem onSegLoad_malformed (s : State) (l : LinkNo) {a b setting : Nat} (h : ¬ (a < 16 ∧ b < 16 ∧ setting < 2)) :
    s.onSegLoad l a b setting = s.refuse l .malformed := by
  unfold State.onSegLoad
  split
  · next hx hy hm =>
    by_cases ha : a < 16
    · by_cases hb : b < 16
      · rw [segSetting?_ge fun hs => h ⟨ha, hb, hs⟩] at hm
        cases hm
      · rw [fin?_ge hb] at hy
        cases hy
    · rw [fin?_ge ha] at hx
      cases hx
  · rfl

/-- Settles O21: each write is refused for its form and under LOCKED (`unlessLocked_taken`), and else stored, reported and
answered (`writeClasses_answered`). -/
theorem classTableLoads : Obligations.ClassTableLoads := by
  refine ⟨?band,
    fun h a b setting s ht => ⟨_, congrArg Host.Outcome.next (State.takeItem_taken _ ht), ?seg⟩,
    fun h size s ht => ⟨_, congrArg Host.Outcome.next (State.takeItem_taken _ ht), ?chunk⟩⟩
  case band =>
    intro h band upper group permille litres pr s i ht
    refine ⟨_, congrArg Host.Outcome.next (State.takeItem_taken _ ht), ?_⟩
    by_cases hn : band < 16
    · rw [dif_pos hn]
      have clamped : State.doneOr (decide (100 < permille) || decide (1000 < litres)) =
          if 100 < permille ∨ 1000 < litres then .doneClamped else .done := by simp [State.doneOr]
      have formed : (decide (upper ≤ 10000) && decide (group ≤ 15)) = false ↔ 10000 < upper ∨ 15 < group := by
        simp
        omega
      simp only [State.onBandLoad, fin?_lt hn, State.begin_classes, clamped]
      exact unlessLocked_taken ht rfl formed fun stored => by
        rw [stored]
        exact writeClasses_answered ht _ _ _
    · rw [dif_neg hn]
      simp only [State.onBandLoad, fin?_ge hn]
      exact answered_unchanged ht _ _
  case seg =>
    by_cases formed : a < 16 ∧ b < 16 ∧ setting < 2
    · obtain ⟨ha, hb, hs⟩ := formed
      rw [dif_pos ⟨ha, hb, hs⟩, onSegLoad_formed _ _ ha hb hs, State.begin_classes]
      refine Eq.mp (if_neg not_false) (unlessLocked_taken ht rfl (bad := False) (by simp) fun stored => ?_)
      rw [stored]
      exact ⟨s.classes.mark ⟨a, ha⟩ ⟨b, hb⟩ (decide (setting = 0)), rfl, rfl, fun g k => mark_matrix _ _ _ g k _,
        writeClasses_answered ht _ _ _⟩
    · rw [dif_neg formed, onSegLoad_malformed _ _ formed]
      exact answered_unchanged ht _ _
  case chunk =>
    have formed : (decide (1 ≤ size) && decide (size ≤ 8)) = false ↔ size < 1 ∨ 8 < size := by
      simp
      omega
    simp only [State.onChunkSize, State.begin_classes]
    exact unlessLocked_taken ht rfl formed fun stored => by
        rw [stored]
        exact writeClasses_answered ht _ _ _

/-! ### SETTINGS (R205) -/

/-- Putting a telegram and evaluating the conditions do not touch each other (R17, R170, R171). -/
theorem follow_putExecuting (s : State) (l : LinkNo) (b : Buffer) :
    (s.putExecuting l b).follow = s.follow.putExecuting l b := by
  cases l <;>
    simp only [State.follow, State.putExecuting, State.link, State.setLink, State.setLinks, Links.get, Links.put,
      Link.putExecuting_setFlags, Link.putExecuting_flags] <;> rfl

theorem follow_begin (s : State) (h : Head) (i : Instr) : (s.begin h i).follow = s.follow.begin h i := by
  unfold State.begin
  rw [(Undisturbed.follow s).executing]
  split
  · exact follow_putExecuting _ _ _
  · rfl

@[simp] theorem State.begin_reserve (s : State) (h : Head) (i : Instr) : (s.begin h i).reserve = s.reserve := by
  rw [State.begin_eq]; rfl

@[simp] theorem State.begin_logs (s : State) (h : Head) (i : Instr) : (s.begin h i).logs = s.logs := by
  rw [State.begin_eq]; rfl

/-- The form that R205 asks of a SETTINGS. -/
theorem settingsValid_eq_false {reserve window threshold : Option Nat} :
    State.settingsValid reserve window threshold = false ↔
      (reserve = none ∧ window = none ∧ threshold = none) ∨ window = some 0 ∨ threshold = some 0 ∨
        60 < window.getD 1 := by
  cases window <;> cases threshold <;> simp [State.settingsValid] <;> omega

theorem onSettings_malformed {s : State} {l : LinkNo} {reserve window threshold : Option Nat}
    (h : State.settingsValid reserve window threshold = false) :
    s.onSettings l reserve window threshold = s.refuse l .malformed := if_neg (by simp [h])

/-- The settings in force where an item carries these (R205). -/
def State.withSettings (s : State) (reserve window threshold : Option Nat) : State :=
  { s with
    reserve := reserve.getD s.reserve
    logs := { s.logs with window := window.getD s.logs.window, threshold := threshold.getD s.logs.threshold } }

theorem withSettings_begin (s : State) (h : Head) (i : Instr) (reserve window threshold : Option Nat) :
    (s.begin h i).withSettings reserve window threshold = (s.withSettings reserve window threshold).begin h i :=
  State.begin_update (f := fun u => u.withSettings reserve window threshold) (fun _ => rfl) rfl

theorem onSettings_stored {s : State} {l : LinkNo} {reserve window threshold : Option Nat}
    (h : State.settingsValid reserve window threshold = true) : s.onSettings l reserve window threshold =
      (let u := s.withSettings reserve window threshold
       u.follow.answer l .done (put8 u.reserve ++ put8 u.logs.window ++ put8 u.logs.threshold)) := if_pos h

theorem settings_answered {s : State} {h : Head} {reserve window threshold : Option Nat}
    (ht : Taken s h (.settings h reserve window threshold))
    (valid : State.settingsValid reserve window threshold = true) :
    let u := s.withSettings reserve window threshold
    Answered u.follow ((s.begin h (.settings h reserve window threshold)).onSettings h.link reserve window threshold) h
      (.settings h reserve window threshold) .done (put8 u.reserve ++ put8 u.logs.window ++ put8 u.logs.threshold) := by
  intro u
  obtain ⟨e, he⟩ := taken_executing ht
  rw [onSettings_stored valid, withSettings_begin]
  simp only [follow_begin, State.begin_reserve, State.begin_logs]
  exact State.answered_begin (((Undisturbed.follow u).executing _).trans he) _ _

/-- Settles O24: the settings carried are stored at once and the conditions follow (`settings_answered`). -/
theorem settingsReplaceThoseCarried : Obligations.SettingsReplaceThoseCarried := by
  intro h reserve window threshold s i ht
  refine ⟨_, congrArg Host.Outcome.next (State.takeItem_taken _ ht), ?_⟩
  split_ifs with bad
  · rw [onSettings_malformed (settingsValid_eq_false.2 bad)]
    exact answered_unchanged ht _ _
  · have valid := Bool.eq_true_of_not_eq_false fun e => bad (settingsValid_eq_false.1 e)
    exact ⟨settings_answered ht valid, follow_follows _⟩

end Sys2Proof.Machine
end

section
/-! PROOFS. What leaves the queue of commands, in the order of the model: no unit reads or writes it (log 3). -/

namespace Sys2Proof.Machine

namespace State

variable (s : State)

/-! ### Shared operations -/

@[simp] theorem raise_pending (l : LinkNo) (f : Flag) : (s.raise l f).pending = s.pending := rfl
@[simp] theorem follow_pending : s.follow.pending = s.pending := rfl
@[simp] theorem withStore_pending (st : Store) : (s.withStore st).pending = s.pending := rfl
@[simp] theorem granted_pending (p : Requester) : (s.granted p).pending = s.pending := rfl

@[simp] theorem changeVisit_pending (v : VisitNo) (st : VisitState) (f : Visit → Visit) :
    (s.changeVisit v st f).pending = s.pending := by
  unfold changeVisit; split <;> rfl

@[simp] theorem freeFrom_pending (v : VisitNo) (st : VisitState) : (s.freeFrom v st).pending = s.pending :=
  s.changeVisit_pending v st _

@[simp] theorem stamp_pending (v : VisitNo) (o : LogOutcome) (pass : Option Nat) :
    (s.stamp v o pass).1.pending = s.pending := by
  rw [stamp_eq]

@[simp] theorem setJob_pending (l : LinkNo) (j : Job) : (s.setJob l j).pending = s.pending := by rw [setJob_eq]; rfl

@[simp] theorem answer_pending (l : LinkNo) (c : Code) (d : List Byte) : (s.answer l c d).pending = s.pending := by
  rw [answer_eq]; rfl

@[simp] theorem refuse_pending (l : LinkNo) (c : Code) : (s.refuse l c).pending = s.pending := s.answer_pending l c []

@[simp] theorem ask_pending (l : LinkNo) (j : Job) (r : Request) : (s.ask l j r).pending = s.pending :=
  s.setJob_pending l j

/-- An item leaves the queue where its block does. -/
theorem takeItem_pending {h : Head} {i : Instr} {f : State → State} (hf : ∀ u, (f u).pending = u.pending) :
    (s.takeItem h i f).pending = s.pending := by
  have taken : (s.begin h i).pending = s.pending := by rw [begin_eq]; rfl
  unfold takeItem
  (repeat' split) <;> simp [hf, taken]

/-! ### The driver table (chapter 7) -/

@[simp] theorem admitDriver_pending (w : ArriveWork) (cards : List Nat) (v : VisitNo) (card : Nat) (f : Figures) :
    (s.admitDriver w cards v card f).1.pending = s.pending := by
  unfold admitDriver; split <;> rfl

@[simp] theorem changeLinked_pending (v : VisitNo) (f : Driver → Driver) (cards : List Nat) :
    (s.changeLinked v f cards).pending = s.pending := by
  rw [changeLinked_eq]

/-! ### Aborts (R38 to R41) -/

@[simp] theorem startAbort_pending (v : VisitNo) : (s.startAbort v).pending = s.pending := by
  rw [(startAbort_begins s v).rest]

@[simp] theorem endAbort_pending (l : LinkNo) (v : VisitNo) (seq : Option Nat) :
    (s.endAbort l v seq).pending = s.pending := by
  simp [endAbort]

@[simp] theorem abortAnswered_pending (l : LinkNo) (v : VisitNo) (seq : Option Nat) :
    (s.abortAnswered l v seq).pending = s.pending := by
  unfold abortAnswered
  split
  · rfl
  · dsimp only; split <;> simp

@[simp] theorem abortUnrecorded_pending (l : LinkNo) (v : VisitNo) : (s.abortUnrecorded l v).pending = s.pending := by
  simp [abortUnrecorded]

/-! ### The Dispatch Check Unit (chapter 8) -/

@[simp] theorem endCheck_pending (c : Check) (r : CheckRecord) (st : VisitState) (cl : Option Clearance) :
    (s.endCheck c r st cl).pending = s.pending := by
  simp [endCheck]

@[simp] theorem report_pending (v : Option VisitNo) : (s.report v).pending = s.pending := by
  unfold report
  (repeat' split) <;> simp [endRetry]

@[simp] theorem abandoned_pending (c : Check) : (s.abandoned c).pending = s.pending := by simp [abandoned]

@[simp] theorem abandonCheck_pending (v : VisitNo) : (s.abandonCheck v).pending = s.pending := by
  unfold abandonCheck
  (repeat' split) <;> rfl

@[simp] theorem beginBuild_pending (c : Check) : (s.beginBuild c).pending = s.pending := rfl
@[simp] theorem beginUnwind_pending (c : Check) : (s.beginUnwind c).pending = s.pending := rfl

@[simp] theorem decideOutcome_pending (c : Check) : (s.decideOutcome c).pending = s.pending := by
  unfold decideOutcome; split <;> simp [endFail]

@[simp] theorem buildGoesOn_pending (c : Check) (ref : SlotRef) : (s.buildGoesOn c ref).pending = s.pending := by
  unfold buildGoesOn; dsimp only; split <;> rfl

@[simp] theorem judgeGoesOn_pending (c : Check) (j : Judge × Option Ask) :
    (s.judgeGoesOn c j).pending = s.pending := by
  unfold judgeGoesOn
  dsimp only
  split
  · rfl
  · split <;> simp

/-- An answer leaves the queue where the check goes on with it so. -/
theorem checkTakes_pending {f : Check → State} (hf : ∀ c, (f c).pending = s.pending) :
    (s.checkTakes f).pending = s.pending := by
  unfold checkTakes
  (repeat' split) <;> simp [hf]

theorem checkJudges_pending {f : Check → State} (hf : ∀ c, (f c).pending = s.pending) :
    (s.checkJudges f).pending = s.pending :=
  s.checkTakes_pending fun c => by split <;> simp [endRetry, hf]

@[simp] theorem checkRead_pending (m : ListId) (a : ReadAnswer) : (s.checkRead m a).pending = s.pending :=
  s.checkJudges_pending fun c => by split <;> simp [enterJudge]

@[simp] theorem checkLookup_pending (a : ClassAnswer) : (s.checkLookup a).pending = s.pending :=
  s.checkJudges_pending fun c => s.judgeGoesOn_pending c _

@[simp] theorem checkPair_pending (m : Bool) : (s.checkPair m).pending = s.pending :=
  s.checkJudges_pending fun c => s.judgeGoesOn_pending c _

@[simp] theorem checkVerdict_pending (a : HoursAnswer) : (s.checkVerdict a).pending = s.pending :=
  s.checkJudges_pending fun _ => s.decideOutcome_pending _

@[simp] theorem checkAlloc_pending (ref : Option SlotRef) : (s.checkAlloc ref).pending = s.pending := by
  cases ref with
  | none => exact s.checkTakes_pending s.beginUnwind_pending
  | some r => exact s.checkTakes_pending fun c => s.buildGoesOn_pending c r

@[simp] theorem checkWrite_pending (written : Bool) : (s.checkWrite written).pending = s.pending :=
  s.checkTakes_pending fun c => by split <;> simp [endPass]

@[simp] theorem checkSplice_pending : s.checkSplice.pending = s.pending :=
  s.checkTakes_pending fun c => by simp [endLogFull]

@[simp] theorem checkAnswered_pending : s.checkAnswered.pending = s.pending := by
  unfold checkAnswered; split <;> rfl

/-! ### Setup (chapters 4, 7 and 12) -/

theorem unlessLocked_pending {l : LinkNo} {formed : Bool} {f : State} (hf : f.pending = s.pending) :
    (s.unlessLocked l formed f).pending = s.pending := by
  unfold unlessLocked
  (repeat' split) <;> simp [hf]

@[simp] theorem withRules_pending (r : RuleSet) : (s.withRules r).pending = s.pending := rfl

theorem onRulesLoad_pending (l : LinkNo) (r : RuleSet) : (s.onRulesLoad l r).pending = s.pending :=
  s.unlessLocked_pending (by simp)

@[simp] theorem writeClasses_pending (t : ClassTable) : (s.writeClasses t).pending = s.pending := by
  simp [writeClasses]

theorem onBandLoad_pending (l : LinkNo) (band upper group permille litres : Nat) (paper : Bool) :
    (s.onBandLoad l band upper group permille litres paper).pending = s.pending := by
  unfold onBandLoad
  split
  · simp
  · exact s.unlessLocked_pending (by simp)

theorem onSegLoad_pending (l : LinkNo) (a b setting : Nat) : (s.onSegLoad l a b setting).pending = s.pending := by
  unfold onSegLoad
  split
  · exact s.unlessLocked_pending (by simp)
  · simp

theorem onChunkSize_pending (l : LinkNo) (size : Nat) : (s.onChunkSize l size).pending = s.pending :=
  s.unlessLocked_pending (by simp)

theorem onServiceLoad_pending (l : LinkNo) (entries : List Nat) : (s.onServiceLoad l entries).pending = s.pending := by
  unfold onServiceLoad
  (repeat' split) <;> simp

theorem onSettings_pending (l : LinkNo) (reserve window threshold : Option Nat) :
    (s.onSettings l reserve window threshold).pending = s.pending := by
  unfold onSettings; split <;> simp

theorem onIdentWrite_pending (l : LinkNo) (identity : Option Nat) (label : Option (List Byte)) :
    (s.onIdentWrite l identity label).pending = s.pending := by
  unfold onIdentWrite; split <;> simp

theorem onStart_pending (l : LinkNo) : (s.onStart l).pending = s.pending := by
  unfold onStart
  (repeat' split) <;> simp

theorem onLock_pending (l : LinkNo) : (s.onLock l).pending = s.pending := by
  unfold onLock
  (repeat' split) <;> simp

theorem onKeep_pending (l : LinkNo) : (s.onKeep l).pending = s.pending := by
  unfold onKeep; split <;> simp

theorem onRestart_pending (l : LinkNo) : (s.onRestart l).pending = s.pending := by
  unfold onRestart; split <;> simp [putExecuting]

theorem onNoteClear_pending (l : LinkNo) (clear : FlagWord) (mask : Option FlagWord) :
    (s.onNoteClear l clear mask).pending = s.pending := by
  simp [onNoteClear]

/-! ### The Time Base (chapter 6) -/

theorem onSetTime_pending (l : LinkNo) (minute seconds : Nat) :
    (s.onSetTime l minute seconds).pending = s.pending := by
  unfold onSetTime
  (repeat' split) <;> simp

theorem onAdjustTime_pending (l : LinkNo) (offset : Int) : (s.onAdjustTime l offset).pending = s.pending := by
  unfold onAdjustTime; split <;> simp

@[simp] theorem minuteEnds_pending : s.minuteEnds.pending = s.pending := by rw [minuteEnds_eq]; rfl

theorem pulse_pending : s.pulse.pending = s.pending := by
  unfold pulse
  (repeat' split) <;> simp

/-! ### Papers (chapter 5) -/

/-- An item that names a visit leaves the queue where it does so at a visit held. -/
theorem addressed_pending {l : LinkNo} {formed : Bool} {visit tag : Nat} {f : VisitNo → State}
    (hf : ∀ v, (f v).pending = s.pending) : (s.addressed l formed visit tag f).pending = s.pending := by
  unfold addressed
  (repeat' split) <;> simp [hf]

@[simp] theorem openPaper_pending (v : VisitNo) (x : Paper) : (s.openPaper v x).pending = s.pending := by
  simp [openPaper]

theorem onPaperOpen_pending (l : LinkNo) (visit tag number p : Nat) (q expected : Option Nat) (replace : Bool) :
    (s.onPaperOpen l visit tag number p q expected replace).pending = s.pending :=
  s.addressed_pending fun v => by (repeat' split) <;> simp

@[simp] theorem endPaperItem_pending (l : LinkNo) (v : VisitNo) (d : List Byte) :
    (s.endPaperItem l v d).pending = s.pending := by
  simp [endPaperItem]

@[simp] theorem paperReturned_pending (l : LinkNo) (v : VisitNo) (tag : Tag) (clamped : Bool) :
    (s.paperReturned l v tag clamped).pending = s.pending := by
  unfold paperReturned; split <;> simp

@[simp] theorem decidePaper_pending (v : VisitNo) (dropped : Nat) (short : Bool) :
    (s.decidePaper v dropped short).pending = s.pending := by
  unfold decidePaper; dsimp only; split <;> simp

@[simp] theorem endLines_pending (l : LinkNo) (v : VisitNo) (placed dropped : Nat) (short : Bool) :
    (s.endLines l v placed dropped short).pending = s.pending := by
  simp [endLines]

@[simp] theorem placeLine_pending (l : LinkNo) (v : VisitNo) (tag : Tag) (line : PaperLine) (left : List PaperLine)
    (placed dropped : Nat) (short : Bool) : (s.placeLine l v tag line left placed dropped short).pending = s.pending :=
  s.ask_pending ..

theorem onPaperLines_pending (l : LinkNo) (visit tag : Nat) (lines : List PaperLine) :
    (s.onPaperLines l visit tag lines).pending = s.pending :=
  s.addressed_pending fun v => by dsimp only; (repeat' split) <;> simp

@[simp] theorem linePlaced_pending (l : LinkNo) (v : VisitNo) (tag : Tag) (left : List PaperLine)
    (placed dropped : Nat) (short : Bool) : (s.linePlaced l v tag left placed dropped short).pending = s.pending := by
  unfold linePlaced
  (repeat' split) <;> simp

@[simp] theorem lineRefused_pending (l : LinkNo) (v : VisitNo) (tag : Tag) (placed : Nat) :
    (s.lineRefused l v tag placed).pending = s.pending := by
  unfold lineRefused; split <;> simp

/-! ### Bays (chapter 3) -/

theorem onBayAssign_pending (l : LinkNo) (visit tag bay : Nat) : (s.onBayAssign l visit tag bay).pending = s.pending :=
  s.addressed_pending fun v => by (repeat' split) <;> simp [bindBay]

@[simp] theorem changeWindow_pending (b : BayIx) (f : Window → Window) : (s.changeWindow b f).pending = s.pending := rfl

@[simp] theorem bayReady_pending (l : LinkNo) (b : BayIx) : (s.bayReady l b).pending = s.pending := by simp [bayReady]

@[simp] theorem bayRead_pending (l : LinkNo) (b : BayIx) (v : VisitNo) (tag : Tag) (a : ReadAnswer) :
    (s.bayRead l b v tag a).pending = s.pending := by
  unfold bayRead
  (repeat' split) <;> simp

@[simp] theorem bayWritten_pending (l : LinkNo) (b : BayIx) (v : VisitNo) (tag : Tag) (comp : Nat) (ref : SlotRef)
    (next : Option SlotRef) (written : Bool) :
    (s.bayWritten l b v tag comp ref next written).pending = s.pending := by
  unfold bayWritten
  (repeat' split) <;> simp

/-- An item at a bay leaves the queue where it does so at a bound window. -/
theorem atBay_pending {l : LinkNo} {bay : Nat} {f : BayIx → Window → State}
    (hf : ∀ b w, (f b w).pending = s.pending) : (s.atBay l bay f).pending = s.pending := by
  unfold atBay
  (repeat' split) <;> simp [hf]

theorem onBayRelease_pending (l : LinkNo) (bay : Nat) : (s.onBayRelease l bay).pending = s.pending :=
  s.atBay_pending fun b w => by split <;> simp [leaveBay]

theorem onLoadEnd_pending (l : LinkNo) (bay : Nat) : (s.onLoadEnd l bay).pending = s.pending :=
  s.atBay_pending fun b w => by split <;> simp [leaveBay]

@[simp] theorem notMapped_pending (l : LinkNo) : (s.notMapped l).pending = s.pending := by simp [notMapped]

theorem onFill_pending (l : LinkNo) (bay comp product figure : Nat) :
    (s.onFill l bay comp product figure).pending = s.pending := by
  unfold onFill
  (repeat' split) <;> simp

@[simp] theorem fillRead_pending (l : LinkNo) (b : BayIx) (v : VisitNo) (tag : Tag) (slot : SlotRef)
    (product figure : Nat) (a : ReadAnswer) : (s.fillRead l b v tag slot product figure a).pending = s.pending := by
  unfold fillRead
  (repeat' split) <;> simp

@[simp] theorem fillWritten_pending (l : LinkNo) (v : VisitNo) (net : Nat) (overfull amended written : Bool) :
    (s.fillWritten l v net overfull amended written).pending = s.pending := by
  unfold fillWritten; split <;> simp

@[simp] theorem unbind_pending (v : VisitNo) : (s.unbind v).pending = s.pending := rfl

/-! ### Visits (chapters 2 and 9) -/

@[simp] theorem placeCompartment_pending (l : LinkNo) (v : VisitNo) (w : ArriveWork) (capacity : Option Nat) :
    (s.placeCompartment l v w capacity).pending = s.pending :=
  s.ask_pending ..

theorem onArrive_pending (l : LinkNo) (tanker driver : Nat) (figures : Figures) (co : Option CoDriver)
    (capacities : List (Option Nat)) : (s.onArrive l tanker driver figures co capacities).pending = s.pending := by
  unfold onArrive; split <;> simp [claim]

@[simp] theorem admitCo_pending (w : ArriveWork) (cards : List Nat) (v : VisitNo) :
    (s.admitCo w cards v).1.pending = s.pending := by
  unfold admitCo; split <;> simp

@[simp] theorem compartmentPlaced_pending (l : LinkNo) (v : VisitNo) (w : ArriveWork) :
    (s.compartmentPlaced l v w).pending = s.pending := by
  unfold compartmentPlaced; split <;> simp [completeArrival]

@[simp] theorem undoArrival_pending (l : LinkNo) (v : VisitNo) : (s.undoArrival l v).pending = s.pending :=
  s.ask_pending ..

@[simp] theorem arrivalUndone_pending (l : LinkNo) (v : VisitNo) : (s.arrivalUndone l v).pending = s.pending := by
  simp [arrivalUndone]

theorem onDispatch_pending (l : LinkNo) (visit tag : Nat) : (s.onDispatch l visit tag).pending = s.pending :=
  s.addressed_pending fun v => by (repeat' split) <;> simp [joinQueue]

theorem onGatePassed_pending (l : LinkNo) (visit tag code : Nat) :
    (s.onGatePassed l visit tag code).pending = s.pending := by
  unfold onGatePassed
  (repeat' split) <;> simp [passAccepted, commitTrip]

@[simp] theorem releaseReturned_pending (l : LinkNo) (v : VisitNo) (m : ListId) :
    (s.releaseReturned l v m).pending = s.pending := by
  unfold releaseReturned; split <;> simp

@[simp] theorem endRelease_pending (l : LinkNo) (v : VisitNo) (seq : Option Nat) :
    (s.endRelease l v seq).pending = s.pending := by
  simp [endRelease]

theorem onVisitAbort_pending (l : LinkNo) (visit tag : Nat) : (s.onVisitAbort l visit tag).pending = s.pending :=
  s.addressed_pending fun v => by split <;> simp [abortAccepted, releaseDrivers]

theorem onVisitRead_pending (l : LinkNo) (visit : Nat) (compartments : Bool) :
    (s.onVisitRead l visit compartments).pending = s.pending := by
  unfold onVisitRead
  (repeat' split) <;> simp

@[simp] theorem visitReadAnswered_pending (l : LinkNo) (v : VisitNo) (x : Visit) (got : List Compartment)
    (a : ReadAnswer) : (s.visitReadAnswered l v x got a).pending = s.pending := by
  unfold visitReadAnswered; split <;> simp

@[simp] theorem expiryPresents_pending : s.expiryPresents.pending = s.pending := by
  unfold expiryPresents; split <;> simp

@[simp] theorem minuteEvent_pending (n : Nat) : (s.minuteEvent n).pending = s.pending := by simp [minuteEvent]

@[simp] theorem lapsed_pending (v : VisitNo) : (s.lapsed v).pending = s.pending := by simp [lapsed]

/-! ### Break items (chapter 7) -/

@[simp] theorem breakItem_pending (e : EntryNo) (d : Driver) : (s.breakItem e d).pending = s.pending := by
  unfold breakItem; split <;> simp

/-- An item at a card leaves the queue where it does so at an entry held. -/
theorem atCard_pending {l : LinkNo} {card : Nat} {f : EntryNo → Driver → State}
    (hf : ∀ e d, (f e d).pending = s.pending) : (s.atCard l card f).pending = s.pending := by
  unfold atCard
  (repeat' split) <;> simp [hf]

theorem onBreakStart_pending (l : LinkNo) (card : Nat) : (s.onBreakStart l card).pending = s.pending :=
  s.atCard_pending fun e d => by split <;> simp

theorem onBreakEnd_pending (l : LinkNo) (card : Nat) : (s.onBreakEnd l card).pending = s.pending :=
  s.atCard_pending fun e d => by split <;> simp

theorem onDriverRead_pending (l : LinkNo) (selector value : Nat) :
    (s.onDriverRead l selector value).pending = s.pending := by
  unfold onDriverRead
  (repeat' split) <;> simp

/-! ### Logs and STORE_READ (R22, R165 to R169) -/

theorem beginWalk_pending (l : LinkNo) (g : Gather) (job : Gather → Job) :
    (s.beginWalk l g job).pending = s.pending := by
  unfold beginWalk; split <;> simp

@[simp] theorem takeRead_pending (l : LinkNo) (g : Gather) (a : ReadAnswer) :
    (s.takeRead l g a).pending = s.pending := by
  unfold takeRead
  (repeat' split) <;> simp [takeReply]

@[simp] theorem taken_pending (l : LinkNo) (g : Gather) : (s.taken l g).pending = s.pending := by
  simp [taken, takeReply]

@[simp] theorem peekRead_pending (l : LinkNo) (g : Gather) (a : ReadAnswer) :
    (s.peekRead l g a).pending = s.pending := by
  unfold peekRead; split <;> simp [peekReply]

theorem onStoreRead_pending (l : LinkNo) (visit : Option Nat) : (s.onStoreRead l visit).pending = s.pending := by
  unfold onStoreRead
  (repeat' split) <;> simp

/-! ### The Sweep Unit (chapter 10) -/

@[simp] theorem setSweepStatus_pending (t : SweepStatus) : (s.setSweepStatus t).pending = s.pending := rfl
@[simp] theorem setSweepWork_pending (w : SweepWork) : (s.setSweepWork w).pending = s.pending := rfl

@[simp] theorem sweepAsks_pending (w : SweepWork) (r : Request) : (s.sweepAsks w r).pending = s.pending := by
  unfold sweepAsks; dsimp only; split <;> simp

@[simp] theorem consider_pending : s.consider.pending = s.pending := by
  unfold consider; split <;> simp

@[simp] theorem advanceSweep_pending : s.advanceSweep.pending = s.pending := by
  unfold advanceSweep; dsimp only; split <;> simp [endSweep]

@[simp] theorem takeResult_pending (failed : Option Reason) : (s.takeResult failed).pending = s.pending := by
  simp [takeResult]

theorem onSweepStart_pending (l : LinkNo) (opcode scope index : Nat) :
    (s.onSweepStart l opcode scope index).pending = s.pending := by
  unfold onSweepStart
  (repeat' split) <;> simp

theorem onSweepStop_pending (l : LinkNo) : (s.onSweepStop l).pending = s.pending := by
  unfold onSweepStop; split <;> simp [stopSweep, endSweep]

@[simp] theorem recheckGoesOn_pending (v : VisitNo) (tag : Tag) (j : Judge × Option Ask) :
    (s.recheckGoesOn v tag j).pending = s.pending := by
  unfold recheckGoesOn recheckResult
  (repeat' split) <;> simp

@[simp] theorem sweepRead_pending (m : ListId) (a : ReadAnswer) : (s.sweepRead m a).pending = s.pending := by
  unfold sweepRead recheckRead
  (repeat' split) <;> simp

@[simp] theorem entryRead_pending : s.entryRead.pending = s.pending := by
  unfold entryRead
  (repeat' split) <;> simp

@[simp] theorem contextRead_pending : s.contextRead.pending = s.pending := by
  unfold contextRead
  (repeat' split) <;> simp

/-! ### Grants, and who takes their answers -/

@[simp] theorem advance_pending : s.advance.pending = s.pending := rfl

@[simp] theorem reportList_pending (m : ListId) : (s.reportList m).pending = s.pending := by
  unfold reportList; split <;> simp

@[simp] theorem allocated_pending (p : Requester) (ref : Option SlotRef) : (s.allocated p ref).pending = s.pending := by
  unfold allocated linkAllocated
  (repeat' split) <;> simp

@[simp] theorem readBy_pending (p : Requester) (m : ListId) (a : ReadAnswer) :
    (s.readBy p m a).pending = s.pending := by
  unfold readBy linkRead
  (repeat' split) <;> simp

@[simp] theorem writtenBy_pending (p : Requester) (written : Bool) : (s.writtenBy p written).pending = s.pending := by
  unfold writtenBy linkWritten
  (repeat' split) <;> simp

@[simp] theorem splicedBy_pending (p : Requester) (m : ListId) : (s.splicedBy p m).pending = s.pending := by
  unfold splicedBy linkSpliced
  (repeat' split) <;> simp

@[simp] theorem stampedBy_pending (p : Requester) (v : VisitNo) (seq : Option Nat) :
    (s.stampedBy p v seq).pending = s.pending := by
  unfold stampedBy linkStamped
  (repeat' split) <;> simp

@[simp] theorem headSplicedBy_pending (p : Requester) : (s.headSplicedBy p).pending = s.pending := by
  unfold headSplicedBy
  (repeat' split) <;> simp

/-! ### The resets (R45, R46, R193, R208) -/

@[simp] theorem changeLink_pending (l : LinkNo) (f : Link → Link) : (s.changeLink l f).pending = s.pending := by
  unfold changeLink; split <;> rfl

@[simp] theorem reset209_pending : s.reset209.pending = s.pending := by
  obtain ⟨u, worked, whole⟩ := reset209_worked s
  obtain ⟨x, begun⟩ := resetBegun_discards s
  rw [whole, setCc_pending, congrArg State.pending worked.rest, begun]
  rfl

end State

section
variable {s t : State}

theorem execAllocation_pending (h : execAllocation s = .next t) : t.pending = s.pending := by
  unfold execAllocation at h
  split at h
  · split at h
    · cases h; simp
    · split at h
      · cases h
      · cases h; simp
  · cases h; rfl

theorem execSlotRead_pending (h : execSlotRead s = .next t) : t.pending = s.pending := by
  unfold execSlotRead at h
  split at h
  · dsimp only at h
    split at h
    · cases h
    · cases h; simp
  · cases h; rfl

/-- A line reset leaves the queue, whether its work begins or waits (`lineReset_works`, `rstReleased_waits`,
`mainReturns_waits`). -/
theorem lineReset_pending {cause : ResetCause} {p : Straps} (h : exec (.lineReset cause p) s = .next t) :
    t.pending = s.pending := by
  by_cases begins : ResetBegins cause s
  · rw [lineReset_works begins] at h
    obtain rfl := Host.Outcome.next.inj h
    rw [State.reset209_pending]
  · cases cause with
    | rstReleased => rw [rstReleased_waits begins] at h; cases h; rfl
    | mainReturns => rw [mainReturns_waits begins] at h; cases h; split <;> rfl

end

/-- No command changes the queue: the operations that it is made of leave it as it is. -/
theorem exec_pending {c : Instr} {s t : State} (h : exec c s = .next t) : t.pending = s.pending := by
  cases c with
  | rulesLoad => cases h; exact s.takeItem_pending fun u => u.onRulesLoad_pending _ _
  | bandLoad => cases h; exact s.takeItem_pending fun u => u.onBandLoad_pending _ _ _ _ _ _ _
  | segLoad => cases h; exact s.takeItem_pending fun u => u.onSegLoad_pending _ _ _ _
  | chunkSize => cases h; exact s.takeItem_pending fun u => u.onChunkSize_pending _ _
  | serviceLoad => cases h; exact s.takeItem_pending fun u => u.onServiceLoad_pending _ _
  | settings => cases h; exact s.takeItem_pending fun u => u.onSettings_pending _ _ _ _
  | identWrite => cases h; exact s.takeItem_pending fun u => u.onIdentWrite_pending _ _ _
  | start => cases h; exact s.takeItem_pending fun u => u.onStart_pending _
  | lock => cases h; exact s.takeItem_pending fun u => u.onLock_pending _
  | keep => cases h; exact s.takeItem_pending fun u => u.onKeep_pending _
  | restart => cases h; exact s.takeItem_pending fun u => u.onRestart_pending _
  | setTime => cases h; exact s.takeItem_pending fun u => u.onSetTime_pending _ _ _
  | adjustTime => cases h; exact s.takeItem_pending fun u => u.onAdjustTime_pending _ _
  | paperOpen => cases h; exact s.takeItem_pending fun u => u.onPaperOpen_pending _ _ _ _ _ _ _ _
  | paperLines => cases h; exact s.takeItem_pending fun u => u.onPaperLines_pending _ _ _ _
  | visitAbort => cases h; exact s.takeItem_pending fun u => u.onVisitAbort_pending _ _ _
  | logTake | excTake | logPeek | excPeek =>
    cases h; exact s.takeItem_pending fun u => u.beginWalk_pending _ _ _
  | bayAssign => cases h; exact s.takeItem_pending fun u => u.onBayAssign_pending _ _ _ _
  | bayRelease => cases h; exact s.takeItem_pending fun u => u.onBayRelease_pending _ _
  | fill => cases h; exact s.takeItem_pending fun u => u.onFill_pending _ _ _ _ _
  | loadEnd => cases h; exact s.takeItem_pending fun u => u.onLoadEnd_pending _ _
  | arrive => cases h; exact s.takeItem_pending fun u => u.onArrive_pending _ _ _ _ _ _
  | breakStart => cases h; exact s.takeItem_pending fun u => u.onBreakStart_pending _ _
  | breakEnd => cases h; exact s.takeItem_pending fun u => u.onBreakEnd_pending _ _
  | dispatch => cases h; exact s.takeItem_pending fun u => u.onDispatch_pending _ _ _
  | gatePassed => cases h; exact s.takeItem_pending fun u => u.onGatePassed_pending _ _ _ _
  | sweepStart => cases h; exact s.takeItem_pending fun u => u.onSweepStart_pending _ _ _ _
  | sweepStop => cases h; exact s.takeItem_pending fun u => u.onSweepStop_pending _
  | storeRead => cases h; exact s.takeItem_pending fun u => u.onStoreRead_pending _ _
  | visitRead => cases h; exact s.takeItem_pending fun u => u.onVisitRead_pending _ _ _
  | driverRead => cases h; exact s.takeItem_pending fun u => u.onDriverRead_pending _ _ _
  | sweepRead | noteRead | identRead => cases h; exact s.takeItem_pending fun u => u.answer_pending _ _ _
  | noteClear => cases h; exact s.takeItem_pending fun u => u.onNoteClear_pending _ _ _
  | telegramStart | telegramEnd | gap => cases h; exact s.changeLink_pending _ _
  | tbasePulse => cases h; exact s.pulse_pending
  | rstAssert | coldStart => cases h; rfl
  | allocation => exact execAllocation_pending h
  | slotRead => exact execSlotRead_pending h
  | lineReset => exact lineReset_pending h
  | mainSupplyLoss => cases h; split <;> rfl
  | backupSupplyLoss => cases h; rfl
  | classLookup a | pairTest a =>
    obtain rfl := Host.Outcome.next.inj h
    cases a <;> dsimp only <;> split <;> simp
  | serviceTurn | slotWrite | wholeListSplice | stampedSplice | headSplice | serviceTableGrant | storeCountsGrant
  | checkTake | hoursVerdict | sweepEntryRead | recheckContextRead | minuteEnd | minuteEvent | replySent =>
    obtain rfl := Host.Outcome.next.inj h
    (repeat' split) <;> simp

/-- Settles O2: every command is made of operations that leave the queue as it is (`exec_pending`). -/
theorem commandsLeaveTheQueue : Obligations.CommandsLeaveTheQueue := fun _ _ _ => exec_pending

end Sys2Proof.Machine
end
